-- ==== Sys2Proof/Word.lean ====
section
/-! DEFINITION. The words of the block: 32-bit registers and commands, bytes of data memory, and the 32-bit encodings
of binary32 values (00_scope.md R7, R8; 10_state.md R22). -/

namespace Sys2Proof

/-- A 32-bit word: a register of the window, an operand, a command word, a data address (R22, R110, R80). -/
abbrev Word := BitVec 32

/-- A byte of data memory (20_memory.md R80). -/
abbrev Byte := BitVec 8

/-- The 32-bit encoding of an IEEE 754 binary32 value (00_scope.md R8, R9): `bits(v)` and `f32(w)` are the identity
on it. -/
abbrev F32 := BitVec 32

end Sys2Proof
end

