-- ==== Sys2Proof/Syntax.lean ====
section
/-! DEFINITION. The command set: one constructor per row of spec/opcode_table.json (30_encoding.md rules R112, R113,
R115, R118), named after the row's mnemonic. A row whose opcode uses CH carries the 6-bit channel field; no other
operand stands in the command word (R114): the others are read from ARG0..ARG5 when the command runs. The commands
with a channel stand first: Lean's compiled code can build only the first 244 constructors that have an argument. -/

namespace Sys2Proof

/-- A legal command of BW-CORE (R116, R118): its opcode, unit and select are the constructor, its CH field the argument. -/
inductive Instr where
  /-- `RESET_STATE.ONEPOLE`, R145. -/
  | resetStateOnepole (ch : BitVec 6)
  /-- `PROCESS1.ONEPOLE`, R148. -/
  | process1Onepole (ch : BitVec 6)
  /-- `PROCESS.ONEPOLE`, R156. -/
  | processOnepole (ch : BitVec 6)
  /-- `READ_STATE.ONEPOLE.Y_Z1`, R161. -/
  | readStateOnepoleYZ1 (ch : BitVec 6)
  /-- `READ_STATE.ONEPOLE.ST_VALID`, R161. -/
  | readStateOnepoleStValid (ch : BitVec 6)
  /-- `RESET_STATE.MM1`, R145. -/
  | resetStateMm1 (ch : BitVec 6)
  /-- `PROCESS1.MM1`, R148. -/
  | process1Mm1 (ch : BitVec 6)
  /-- `PROCESS.MM1`, R156. -/
  | processMm1 (ch : BitVec 6)
  /-- `READ_STATE.MM1.S`, R161. -/
  | readStateMm1S (ch : BitVec 6)
  /-- `READ_STATE.MM1.ST_VALID`, R161. -/
  | readStateMm1StValid (ch : BitVec 6)
  /-- `RESET_STATE.MM2`, R145. -/
  | resetStateMm2 (ch : BitVec 6)
  /-- `PROCESS1.MM2`, R148. -/
  | process1Mm2 (ch : BitVec 6)
  /-- `PROCESS.MM2`, R156. -/
  | processMm2 (ch : BitVec 6)
  /-- `READ_STATE.MM2.S1`, R161. -/
  | readStateMm2S1 (ch : BitVec 6)
  /-- `READ_STATE.MM2.S2`, R161. -/
  | readStateMm2S2 (ch : BitVec 6)
  /-- `READ_STATE.MM2.ST_VALID`, R161. -/
  | readStateMm2StValid (ch : BitVec 6)
  /-- `RESET_STATE.HP1`, R145. -/
  | resetStateHp1 (ch : BitVec 6)
  /-- `PROCESS1.HP1`, R148. -/
  | process1Hp1 (ch : BitVec 6)
  /-- `PROCESS.HP1`, R156. -/
  | processHp1 (ch : BitVec 6)
  /-- `READ_STATE.HP1.S`, R161. -/
  | readStateHp1S (ch : BitVec 6)
  /-- `READ_STATE.HP1.ST_VALID`, R161. -/
  | readStateHp1StValid (ch : BitVec 6)
  /-- `RESET_STATE.LS1`, R145. -/
  | resetStateLs1 (ch : BitVec 6)
  /-- `PROCESS1.LS1`, R148. -/
  | process1Ls1 (ch : BitVec 6)
  /-- `PROCESS.LS1`, R156. -/
  | processLs1 (ch : BitVec 6)
  /-- `READ_STATE.LS1.S`, R161. -/
  | readStateLs1S (ch : BitVec 6)
  /-- `READ_STATE.LS1.ST_VALID`, R161. -/
  | readStateLs1StValid (ch : BitVec 6)
  /-- `RESET_STATE.LS2`, R145. -/
  | resetStateLs2 (ch : BitVec 6)
  /-- `PROCESS1.LS2`, R148. -/
  | process1Ls2 (ch : BitVec 6)
  /-- `PROCESS.LS2`, R156. -/
  | processLs2 (ch : BitVec 6)
  /-- `READ_STATE.LS2.S1`, R161. -/
  | readStateLs2S1 (ch : BitVec 6)
  /-- `READ_STATE.LS2.S2`, R161. -/
  | readStateLs2S2 (ch : BitVec 6)
  /-- `READ_STATE.LS2.ST_VALID`, R161. -/
  | readStateLs2StValid (ch : BitVec 6)
  /-- `RESET_STATE.AP2`, R145. -/
  | resetStateAp2 (ch : BitVec 6)
  /-- `PROCESS1.AP2`, R148. -/
  | process1Ap2 (ch : BitVec 6)
  /-- `PROCESS.AP2`, R156. -/
  | processAp2 (ch : BitVec 6)
  /-- `READ_STATE.AP2.S1`, R161. -/
  | readStateAp2S1 (ch : BitVec 6)
  /-- `READ_STATE.AP2.S2`, R161. -/
  | readStateAp2S2 (ch : BitVec 6)
  /-- `READ_STATE.AP2.ST_VALID`, R161. -/
  | readStateAp2StValid (ch : BitVec 6)
  /-- `RESET_STATE.PEAK`, R145. -/
  | resetStatePeak (ch : BitVec 6)
  /-- `PROCESS1.PEAK`, R148. -/
  | process1Peak (ch : BitVec 6)
  /-- `PROCESS.PEAK`, R156. -/
  | processPeak (ch : BitVec 6)
  /-- `READ_STATE.PEAK.S1`, R161. -/
  | readStatePeakS1 (ch : BitVec 6)
  /-- `READ_STATE.PEAK.S2`, R161. -/
  | readStatePeakS2 (ch : BitVec 6)
  /-- `READ_STATE.PEAK.ST_VALID`, R161. -/
  | readStatePeakStValid (ch : BitVec 6)
  /-- `RESET_STATE.DELAY`, R145. -/
  | resetStateDelay (ch : BitVec 6)
  /-- `PROCESS1.DELAY`, R148. -/
  | process1Delay (ch : BitVec 6)
  /-- `PROCESS.DELAY`, R156. -/
  | processDelay (ch : BitVec 6)
  /-- `MEM_SET.DELAY`, R151. -/
  | memSetDelay (ch : BitVec 6)
  /-- `DELAY_READ.DELAY`, R352. -/
  | delayReadDelay (ch : BitVec 6)
  /-- `DELAY_WRITE.DELAY`, R353. -/
  | delayWriteDelay (ch : BitVec 6)
  /-- `READ_STATE.DELAY.W`, R161. -/
  | readStateDelayW (ch : BitVec 6)
  /-- `READ_STATE.DELAY.ST_VALID`, R161. -/
  | readStateDelayStValid (ch : BitVec 6)
  /-- `READ_STATE.DELAY.MEM_BOUND`, R161. -/
  | readStateDelayMemBound (ch : BitVec 6)
  /-- `READ_STATE.DELAY.MEM_BASE`, R161. -/
  | readStateDelayMemBase (ch : BitVec 6)
  /-- `RESET_STATE.REVERB`, R145. -/
  | resetStateReverb (ch : BitVec 6)
  /-- `PROCESS1.REVERB`, R148. -/
  | process1Reverb (ch : BitVec 6)
  /-- `PROCESS.REVERB`, R156. -/
  | processReverb (ch : BitVec 6)
  /-- `MEM_SET.REVERB`, R151. -/
  | memSetReverb (ch : BitVec 6)
  /-- `READ_STATE.REVERB.BW_Z1`, R161. -/
  | readStateReverbBwZ1 (ch : BitVec 6)
  /-- `READ_STATE.REVERB.DL_Z1`, R161. -/
  | readStateReverbDlZ1 (ch : BitVec 6)
  /-- `READ_STATE.REVERB.DR_Z1`, R161. -/
  | readStateReverbDrZ1 (ch : BitVec 6)
  /-- `READ_STATE.REVERB.W[0]`, R161. -/
  | readStateReverbW0 (ch : BitVec 6)
  /-- `READ_STATE.REVERB.W[1]`, R161. -/
  | readStateReverbW1 (ch : BitVec 6)
  /-- `READ_STATE.REVERB.W[2]`, R161. -/
  | readStateReverbW2 (ch : BitVec 6)
  /-- `READ_STATE.REVERB.W[3]`, R161. -/
  | readStateReverbW3 (ch : BitVec 6)
  /-- `READ_STATE.REVERB.W[4]`, R161. -/
  | readStateReverbW4 (ch : BitVec 6)
  /-- `READ_STATE.REVERB.W[5]`, R161. -/
  | readStateReverbW5 (ch : BitVec 6)
  /-- `READ_STATE.REVERB.W[6]`, R161. -/
  | readStateReverbW6 (ch : BitVec 6)
  /-- `READ_STATE.REVERB.W[7]`, R161. -/
  | readStateReverbW7 (ch : BitVec 6)
  /-- `READ_STATE.REVERB.W[8]`, R161. -/
  | readStateReverbW8 (ch : BitVec 6)
  /-- `READ_STATE.REVERB.W[9]`, R161. -/
  | readStateReverbW9 (ch : BitVec 6)
  /-- `READ_STATE.REVERB.W[10]`, R161. -/
  | readStateReverbW10 (ch : BitVec 6)
  /-- `READ_STATE.REVERB.W[11]`, R161. -/
  | readStateReverbW11 (ch : BitVec 6)
  /-- `READ_STATE.REVERB.W[12]`, R161. -/
  | readStateReverbW12 (ch : BitVec 6)
  /-- `READ_STATE.REVERB.ST_VALID`, R161. -/
  | readStateReverbStValid (ch : BitVec 6)
  /-- `READ_STATE.REVERB.MEM_BOUND`, R161. -/
  | readStateReverbMemBound (ch : BitVec 6)
  /-- `READ_STATE.REVERB.MEM_BASE`, R161. -/
  | readStateReverbMemBase (ch : BitVec 6)
  /-- `NOP`, R140. -/
  | nop
  /-- `INIT.ONEPOLE`, R142. -/
  | initOnepole
  /-- `SET_SR.ONEPOLE`, R143. -/
  | setSrOnepole
  /-- `RESET_COEFFS.ONEPOLE`, R144. -/
  | resetCoeffsOnepole
  /-- `UPDATE_CTRL.ONEPOLE`, R146. -/
  | updateCtrlOnepole
  /-- `UPDATE_AUDIO.ONEPOLE`, R147. -/
  | updateAudioOnepole
  /-- `PROCESS_MULTI.ONEPOLE`, R157. -/
  | processMultiOnepole
  /-- `SET_PARAM.ONEPOLE.CUTOFF`, R220. -/
  | setParamOnepoleCutoff
  /-- `SET_PARAM.ONEPOLE.CUTOFF_UP`, R221. -/
  | setParamOnepoleCutoffUp
  /-- `SET_PARAM.ONEPOLE.CUTOFF_DOWN`, R222. -/
  | setParamOnepoleCutoffDown
  /-- `SET_PARAM.ONEPOLE.TAU`, R223. -/
  | setParamOnepoleTau
  /-- `SET_PARAM.ONEPOLE.TAU_UP`, R224. -/
  | setParamOnepoleTauUp
  /-- `SET_PARAM.ONEPOLE.TAU_DOWN`, R225. -/
  | setParamOnepoleTauDown
  /-- `SET_PARAM.ONEPOLE.STICKY_THRESH`, R226. -/
  | setParamOnepoleStickyThresh
  /-- `SET_PARAM.ONEPOLE.STICKY_MODE`, R227. -/
  | setParamOnepoleStickyMode
  /-- `READ_COEF.ONEPOLE.CUTOFF_UP`, R160. -/
  | readCoefOnepoleCutoffUp
  /-- `READ_COEF.ONEPOLE.CUTOFF_DOWN`, R160. -/
  | readCoefOnepoleCutoffDown
  /-- `READ_COEF.ONEPOLE.STICKY_THRESH`, R160. -/
  | readCoefOnepoleStickyThresh
  /-- `READ_COEF.ONEPOLE.STICKY_MODE`, R160. -/
  | readCoefOnepoleStickyMode
  /-- `READ_COEF.ONEPOLE.K_EXP`, R160. -/
  | readCoefOnepoleKExp
  /-- `READ_COEF.ONEPOLE.A_UP`, R160. -/
  | readCoefOnepoleAUp
  /-- `READ_COEF.ONEPOLE.A_DOWN`, R160. -/
  | readCoefOnepoleADown
  /-- `READ_COEF.ONEPOLE.ST2`, R160. -/
  | readCoefOnepoleSt2
  /-- `READ_COEF.ONEPOLE.MODE_ACT`, R160. -/
  | readCoefOnepoleModeAct
  /-- `READ_COEF.ONEPOLE.LIFE`, R160. -/
  | readCoefOnepoleLife
  /-- `READ_COEF.ONEPOLE.GEN`, R160. -/
  | readCoefOnepoleGen
  /-- `READ_COEF.ONEPOLE.FS`, R160. -/
  | readCoefOnepoleFs
  /-- `READ_COEF.ONEPOLE.DIRTY`, R160. -/
  | readCoefOnepoleDirty
  /-- `READ_COEF.ONEPOLE.MEMREQ`, R160. -/
  | readCoefOnepoleMemreq
  /-- `INIT.MM1`, R142. -/
  | initMm1
  /-- `SET_SR.MM1`, R143. -/
  | setSrMm1
  /-- `RESET_COEFFS.MM1`, R144. -/
  | resetCoeffsMm1
  /-- `UPDATE_CTRL.MM1`, R146. -/
  | updateCtrlMm1
  /-- `UPDATE_AUDIO.MM1`, R147. -/
  | updateAudioMm1
  /-- `PROCESS_MULTI.MM1`, R157. -/
  | processMultiMm1
  /-- `SET_PARAM.MM1.CUTOFF`, R269. -/
  | setParamMm1Cutoff
  /-- `SET_PARAM.MM1.PREWARP_AT_CUTOFF`, R270. -/
  | setParamMm1PrewarpAtCutoff
  /-- `SET_PARAM.MM1.PREWARP_FREQ`, R271. -/
  | setParamMm1PrewarpFreq
  /-- `SET_PARAM.MM1.COEFF_X`, R272. -/
  | setParamMm1CoeffX
  /-- `SET_PARAM.MM1.COEFF_LP`, R273. -/
  | setParamMm1CoeffLp
  /-- `READ_COEF.MM1.CUTOFF`, R160. -/
  | readCoefMm1Cutoff
  /-- `READ_COEF.MM1.PREWARP_AT_CUTOFF`, R160. -/
  | readCoefMm1PrewarpAtCutoff
  /-- `READ_COEF.MM1.PREWARP_FREQ`, R160. -/
  | readCoefMm1PrewarpFreq
  /-- `READ_COEF.MM1.COEFF_X`, R160. -/
  | readCoefMm1CoeffX
  /-- `READ_COEF.MM1.COEFF_LP`, R160. -/
  | readCoefMm1CoeffLp
  /-- `READ_COEF.MM1.K_PI`, R160. -/
  | readCoefMm1KPi
  /-- `READ_COEF.MM1.G`, R160. -/
  | readCoefMm1G
  /-- `READ_COEF.MM1.G1`, R160. -/
  | readCoefMm1G1
  /-- `READ_COEF.MM1.CX_ACT`, R160. -/
  | readCoefMm1CxAct
  /-- `READ_COEF.MM1.CLP_ACT`, R160. -/
  | readCoefMm1ClpAct
  /-- `READ_COEF.MM1.LIFE`, R160. -/
  | readCoefMm1Life
  /-- `READ_COEF.MM1.GEN`, R160. -/
  | readCoefMm1Gen
  /-- `READ_COEF.MM1.FS`, R160. -/
  | readCoefMm1Fs
  /-- `READ_COEF.MM1.DIRTY`, R160. -/
  | readCoefMm1Dirty
  /-- `READ_COEF.MM1.MEMREQ`, R160. -/
  | readCoefMm1Memreq
  /-- `INIT.MM2`, R142. -/
  | initMm2
  /-- `SET_SR.MM2`, R143. -/
  | setSrMm2
  /-- `RESET_COEFFS.MM2`, R144. -/
  | resetCoeffsMm2
  /-- `UPDATE_CTRL.MM2`, R146. -/
  | updateCtrlMm2
  /-- `UPDATE_AUDIO.MM2`, R147. -/
  | updateAudioMm2
  /-- `PROCESS_MULTI.MM2`, R157. -/
  | processMultiMm2
  /-- `SET_PARAM.MM2.CUTOFF`, R252. -/
  | setParamMm2Cutoff
  /-- `SET_PARAM.MM2.Q`, R253. -/
  | setParamMm2Q
  /-- `SET_PARAM.MM2.PREWARP_AT_CUTOFF`, R254. -/
  | setParamMm2PrewarpAtCutoff
  /-- `SET_PARAM.MM2.PREWARP_FREQ`, R255. -/
  | setParamMm2PrewarpFreq
  /-- `SET_PARAM.MM2.COEFF_X`, R256. -/
  | setParamMm2CoeffX
  /-- `SET_PARAM.MM2.COEFF_LP`, R257. -/
  | setParamMm2CoeffLp
  /-- `SET_PARAM.MM2.COEFF_BP`, R258. -/
  | setParamMm2CoeffBp
  /-- `SET_PARAM.MM2.COEFF_HP`, R259. -/
  | setParamMm2CoeffHp
  /-- `READ_COEF.MM2.CUTOFF`, R160. -/
  | readCoefMm2Cutoff
  /-- `READ_COEF.MM2.Q`, R160. -/
  | readCoefMm2Q
  /-- `READ_COEF.MM2.PREWARP_AT_CUTOFF`, R160. -/
  | readCoefMm2PrewarpAtCutoff
  /-- `READ_COEF.MM2.PREWARP_FREQ`, R160. -/
  | readCoefMm2PrewarpFreq
  /-- `READ_COEF.MM2.COEFF_X`, R160. -/
  | readCoefMm2CoeffX
  /-- `READ_COEF.MM2.COEFF_LP`, R160. -/
  | readCoefMm2CoeffLp
  /-- `READ_COEF.MM2.COEFF_BP`, R160. -/
  | readCoefMm2CoeffBp
  /-- `READ_COEF.MM2.COEFF_HP`, R160. -/
  | readCoefMm2CoeffHp
  /-- `READ_COEF.MM2.K_PI`, R160. -/
  | readCoefMm2KPi
  /-- `READ_COEF.MM2.G`, R160. -/
  | readCoefMm2G
  /-- `READ_COEF.MM2.K`, R160. -/
  | readCoefMm2K
  /-- `READ_COEF.MM2.GK`, R160. -/
  | readCoefMm2Gk
  /-- `READ_COEF.MM2.HP_D`, R160. -/
  | readCoefMm2HpD
  /-- `READ_COEF.MM2.CX_ACT`, R160. -/
  | readCoefMm2CxAct
  /-- `READ_COEF.MM2.CLP_ACT`, R160. -/
  | readCoefMm2ClpAct
  /-- `READ_COEF.MM2.CBP_ACT`, R160. -/
  | readCoefMm2CbpAct
  /-- `READ_COEF.MM2.CHP_ACT`, R160. -/
  | readCoefMm2ChpAct
  /-- `READ_COEF.MM2.LIFE`, R160. -/
  | readCoefMm2Life
  /-- `READ_COEF.MM2.GEN`, R160. -/
  | readCoefMm2Gen
  /-- `READ_COEF.MM2.FS`, R160. -/
  | readCoefMm2Fs
  /-- `READ_COEF.MM2.DIRTY`, R160. -/
  | readCoefMm2Dirty
  /-- `READ_COEF.MM2.MEMREQ`, R160. -/
  | readCoefMm2Memreq
  /-- `INIT.HP1`, R142. -/
  | initHp1
  /-- `SET_SR.HP1`, R143. -/
  | setSrHp1
  /-- `RESET_COEFFS.HP1`, R144. -/
  | resetCoeffsHp1
  /-- `UPDATE_CTRL.HP1`, R146. -/
  | updateCtrlHp1
  /-- `UPDATE_AUDIO.HP1`, R147. -/
  | updateAudioHp1
  /-- `PROCESS_MULTI.HP1`, R157. -/
  | processMultiHp1
  /-- `SET_PARAM.HP1.CUTOFF`, R287. -/
  | setParamHp1Cutoff
  /-- `SET_PARAM.HP1.PREWARP_AT_CUTOFF`, R288. -/
  | setParamHp1PrewarpAtCutoff
  /-- `SET_PARAM.HP1.PREWARP_FREQ`, R289. -/
  | setParamHp1PrewarpFreq
  /-- `READ_COEF.HP1.CUTOFF`, R160. -/
  | readCoefHp1Cutoff
  /-- `READ_COEF.HP1.PREWARP_AT_CUTOFF`, R160. -/
  | readCoefHp1PrewarpAtCutoff
  /-- `READ_COEF.HP1.PREWARP_FREQ`, R160. -/
  | readCoefHp1PrewarpFreq
  /-- `READ_COEF.HP1.INNER.CUTOFF`, R160. -/
  | readCoefHp1InnerCutoff
  /-- `READ_COEF.HP1.INNER.PREWARP_AT_CUTOFF`, R160. -/
  | readCoefHp1InnerPrewarpAtCutoff
  /-- `READ_COEF.HP1.INNER.PREWARP_FREQ`, R160. -/
  | readCoefHp1InnerPrewarpFreq
  /-- `READ_COEF.HP1.INNER.COEFF_X`, R160. -/
  | readCoefHp1InnerCoeffX
  /-- `READ_COEF.HP1.INNER.COEFF_LP`, R160. -/
  | readCoefHp1InnerCoeffLp
  /-- `READ_COEF.HP1.INNER.K_PI`, R160. -/
  | readCoefHp1InnerKPi
  /-- `READ_COEF.HP1.INNER.G`, R160. -/
  | readCoefHp1InnerG
  /-- `READ_COEF.HP1.INNER.G1`, R160. -/
  | readCoefHp1InnerG1
  /-- `READ_COEF.HP1.INNER.CX_ACT`, R160. -/
  | readCoefHp1InnerCxAct
  /-- `READ_COEF.HP1.INNER.CLP_ACT`, R160. -/
  | readCoefHp1InnerClpAct
  /-- `READ_COEF.HP1.INNER.DIRTY`, R160. -/
  | readCoefHp1InnerDirty
  /-- `READ_COEF.HP1.LIFE`, R160. -/
  | readCoefHp1Life
  /-- `READ_COEF.HP1.GEN`, R160. -/
  | readCoefHp1Gen
  /-- `READ_COEF.HP1.FS`, R160. -/
  | readCoefHp1Fs
  /-- `READ_COEF.HP1.DIRTY`, R160. -/
  | readCoefHp1Dirty
  /-- `READ_COEF.HP1.MEMREQ`, R160. -/
  | readCoefHp1Memreq
  /-- `INIT.LS1`, R142. -/
  | initLs1
  /-- `SET_SR.LS1`, R143. -/
  | setSrLs1
  /-- `RESET_COEFFS.LS1`, R144. -/
  | resetCoeffsLs1
  /-- `UPDATE_CTRL.LS1`, R146. -/
  | updateCtrlLs1
  /-- `UPDATE_AUDIO.LS1`, R147. -/
  | updateAudioLs1
  /-- `PROCESS_MULTI.LS1`, R157. -/
  | processMultiLs1
  /-- `SET_PARAM.LS1.CUTOFF`, R293. -/
  | setParamLs1Cutoff
  /-- `SET_PARAM.LS1.DC_GAIN_LIN`, R294. -/
  | setParamLs1DcGainLin
  /-- `SET_PARAM.LS1.DC_GAIN_DB`, R295. -/
  | setParamLs1DcGainDb
  /-- `SET_PARAM.LS1.PREWARP_AT_CUTOFF`, R296. -/
  | setParamLs1PrewarpAtCutoff
  /-- `SET_PARAM.LS1.PREWARP_FREQ`, R297. -/
  | setParamLs1PrewarpFreq
  /-- `READ_COEF.LS1.CUTOFF`, R160. -/
  | readCoefLs1Cutoff
  /-- `READ_COEF.LS1.DC_GAIN_LIN`, R160. -/
  | readCoefLs1DcGainLin
  /-- `READ_COEF.LS1.DC_GAIN_DB`, R160. -/
  | readCoefLs1DcGainDb
  /-- `READ_COEF.LS1.PREWARP_AT_CUTOFF`, R160. -/
  | readCoefLs1PrewarpAtCutoff
  /-- `READ_COEF.LS1.PREWARP_FREQ`, R160. -/
  | readCoefLs1PrewarpFreq
  /-- `READ_COEF.LS1.GAIN_IS_DB`, R160. -/
  | readCoefLs1GainIsDb
  /-- `READ_COEF.LS1.G`, R160. -/
  | readCoefLs1G
  /-- `READ_COEF.LS1.INNER.CUTOFF`, R160. -/
  | readCoefLs1InnerCutoff
  /-- `READ_COEF.LS1.INNER.PREWARP_AT_CUTOFF`, R160. -/
  | readCoefLs1InnerPrewarpAtCutoff
  /-- `READ_COEF.LS1.INNER.PREWARP_FREQ`, R160. -/
  | readCoefLs1InnerPrewarpFreq
  /-- `READ_COEF.LS1.INNER.COEFF_X`, R160. -/
  | readCoefLs1InnerCoeffX
  /-- `READ_COEF.LS1.INNER.COEFF_LP`, R160. -/
  | readCoefLs1InnerCoeffLp
  /-- `READ_COEF.LS1.INNER.K_PI`, R160. -/
  | readCoefLs1InnerKPi
  /-- `READ_COEF.LS1.INNER.G`, R160. -/
  | readCoefLs1InnerG
  /-- `READ_COEF.LS1.INNER.G1`, R160. -/
  | readCoefLs1InnerG1
  /-- `READ_COEF.LS1.INNER.CX_ACT`, R160. -/
  | readCoefLs1InnerCxAct
  /-- `READ_COEF.LS1.INNER.CLP_ACT`, R160. -/
  | readCoefLs1InnerClpAct
  /-- `READ_COEF.LS1.INNER.DIRTY`, R160. -/
  | readCoefLs1InnerDirty
  /-- `READ_COEF.LS1.LIFE`, R160. -/
  | readCoefLs1Life
  /-- `READ_COEF.LS1.GEN`, R160. -/
  | readCoefLs1Gen
  /-- `READ_COEF.LS1.FS`, R160. -/
  | readCoefLs1Fs
  /-- `READ_COEF.LS1.DIRTY`, R160. -/
  | readCoefLs1Dirty
  /-- `READ_COEF.LS1.MEMREQ`, R160. -/
  | readCoefLs1Memreq
  /-- `INIT.LS2`, R142. -/
  | initLs2
  /-- `SET_SR.LS2`, R143. -/
  | setSrLs2
  /-- `RESET_COEFFS.LS2`, R144. -/
  | resetCoeffsLs2
  /-- `UPDATE_CTRL.LS2`, R146. -/
  | updateCtrlLs2
  /-- `UPDATE_AUDIO.LS2`, R147. -/
  | updateAudioLs2
  /-- `PROCESS_MULTI.LS2`, R157. -/
  | processMultiLs2
  /-- `SET_PARAM.LS2.CUTOFF`, R301. -/
  | setParamLs2Cutoff
  /-- `SET_PARAM.LS2.Q`, R302. -/
  | setParamLs2Q
  /-- `SET_PARAM.LS2.DC_GAIN_LIN`, R303. -/
  | setParamLs2DcGainLin
  /-- `SET_PARAM.LS2.DC_GAIN_DB`, R304. -/
  | setParamLs2DcGainDb
  /-- `SET_PARAM.LS2.PREWARP_AT_CUTOFF`, R305. -/
  | setParamLs2PrewarpAtCutoff
  /-- `SET_PARAM.LS2.PREWARP_FREQ`, R306. -/
  | setParamLs2PrewarpFreq
  /-- `READ_COEF.LS2.CUTOFF`, R160. -/
  | readCoefLs2Cutoff
  /-- `READ_COEF.LS2.Q`, R160. -/
  | readCoefLs2Q
  /-- `READ_COEF.LS2.DC_GAIN_LIN`, R160. -/
  | readCoefLs2DcGainLin
  /-- `READ_COEF.LS2.DC_GAIN_DB`, R160. -/
  | readCoefLs2DcGainDb
  /-- `READ_COEF.LS2.PREWARP_AT_CUTOFF`, R160. -/
  | readCoefLs2PrewarpAtCutoff
  /-- `READ_COEF.LS2.PREWARP_FREQ`, R160. -/
  | readCoefLs2PrewarpFreq
  /-- `READ_COEF.LS2.GAIN_IS_DB`, R160. -/
  | readCoefLs2GainIsDb
  /-- `READ_COEF.LS2.G`, R160. -/
  | readCoefLs2G
  /-- `READ_COEF.LS2.KI`, R160. -/
  | readCoefLs2Ki
  /-- `READ_COEF.LS2.INNER.CUTOFF`, R160. -/
  | readCoefLs2InnerCutoff
  /-- `READ_COEF.LS2.INNER.Q`, R160. -/
  | readCoefLs2InnerQ
  /-- `READ_COEF.LS2.INNER.PREWARP_AT_CUTOFF`, R160. -/
  | readCoefLs2InnerPrewarpAtCutoff
  /-- `READ_COEF.LS2.INNER.PREWARP_FREQ`, R160. -/
  | readCoefLs2InnerPrewarpFreq
  /-- `READ_COEF.LS2.INNER.COEFF_X`, R160. -/
  | readCoefLs2InnerCoeffX
  /-- `READ_COEF.LS2.INNER.COEFF_LP`, R160. -/
  | readCoefLs2InnerCoeffLp
  /-- `READ_COEF.LS2.INNER.COEFF_BP`, R160. -/
  | readCoefLs2InnerCoeffBp
  /-- `READ_COEF.LS2.INNER.COEFF_HP`, R160. -/
  | readCoefLs2InnerCoeffHp
  /-- `READ_COEF.LS2.INNER.K_PI`, R160. -/
  | readCoefLs2InnerKPi
  /-- `READ_COEF.LS2.INNER.G`, R160. -/
  | readCoefLs2InnerG
  /-- `READ_COEF.LS2.INNER.K`, R160. -/
  | readCoefLs2InnerK
  /-- `READ_COEF.LS2.INNER.GK`, R160. -/
  | readCoefLs2InnerGk
  /-- `READ_COEF.LS2.INNER.HP_D`, R160. -/
  | readCoefLs2InnerHpD
  /-- `READ_COEF.LS2.INNER.CX_ACT`, R160. -/
  | readCoefLs2InnerCxAct
  /-- `READ_COEF.LS2.INNER.CLP_ACT`, R160. -/
  | readCoefLs2InnerClpAct
  /-- `READ_COEF.LS2.INNER.CBP_ACT`, R160. -/
  | readCoefLs2InnerCbpAct
  /-- `READ_COEF.LS2.INNER.CHP_ACT`, R160. -/
  | readCoefLs2InnerChpAct
  /-- `READ_COEF.LS2.INNER.DIRTY`, R160. -/
  | readCoefLs2InnerDirty
  /-- `READ_COEF.LS2.LIFE`, R160. -/
  | readCoefLs2Life
  /-- `READ_COEF.LS2.GEN`, R160. -/
  | readCoefLs2Gen
  /-- `READ_COEF.LS2.FS`, R160. -/
  | readCoefLs2Fs
  /-- `READ_COEF.LS2.DIRTY`, R160. -/
  | readCoefLs2Dirty
  /-- `READ_COEF.LS2.MEMREQ`, R160. -/
  | readCoefLs2Memreq
  /-- `INIT.AP2`, R142. -/
  | initAp2
  /-- `SET_SR.AP2`, R143. -/
  | setSrAp2
  /-- `RESET_COEFFS.AP2`, R144. -/
  | resetCoeffsAp2
  /-- `UPDATE_CTRL.AP2`, R146. -/
  | updateCtrlAp2
  /-- `UPDATE_AUDIO.AP2`, R147. -/
  | updateAudioAp2
  /-- `PROCESS_MULTI.AP2`, R157. -/
  | processMultiAp2
  /-- `SET_PARAM.AP2.CUTOFF`, R310. -/
  | setParamAp2Cutoff
  /-- `SET_PARAM.AP2.Q`, R311. -/
  | setParamAp2Q
  /-- `SET_PARAM.AP2.PREWARP_AT_CUTOFF`, R312. -/
  | setParamAp2PrewarpAtCutoff
  /-- `SET_PARAM.AP2.PREWARP_FREQ`, R313. -/
  | setParamAp2PrewarpFreq
  /-- `READ_COEF.AP2.CUTOFF`, R160. -/
  | readCoefAp2Cutoff
  /-- `READ_COEF.AP2.Q`, R160. -/
  | readCoefAp2Q
  /-- `READ_COEF.AP2.PREWARP_AT_CUTOFF`, R160. -/
  | readCoefAp2PrewarpAtCutoff
  /-- `READ_COEF.AP2.PREWARP_FREQ`, R160. -/
  | readCoefAp2PrewarpFreq
  /-- `READ_COEF.AP2.KI`, R160. -/
  | readCoefAp2Ki
  /-- `READ_COEF.AP2.INNER.CUTOFF`, R160. -/
  | readCoefAp2InnerCutoff
  /-- `READ_COEF.AP2.INNER.Q`, R160. -/
  | readCoefAp2InnerQ
  /-- `READ_COEF.AP2.INNER.PREWARP_AT_CUTOFF`, R160. -/
  | readCoefAp2InnerPrewarpAtCutoff
  /-- `READ_COEF.AP2.INNER.PREWARP_FREQ`, R160. -/
  | readCoefAp2InnerPrewarpFreq
  /-- `READ_COEF.AP2.INNER.COEFF_X`, R160. -/
  | readCoefAp2InnerCoeffX
  /-- `READ_COEF.AP2.INNER.COEFF_LP`, R160. -/
  | readCoefAp2InnerCoeffLp
  /-- `READ_COEF.AP2.INNER.COEFF_BP`, R160. -/
  | readCoefAp2InnerCoeffBp
  /-- `READ_COEF.AP2.INNER.COEFF_HP`, R160. -/
  | readCoefAp2InnerCoeffHp
  /-- `READ_COEF.AP2.INNER.K_PI`, R160. -/
  | readCoefAp2InnerKPi
  /-- `READ_COEF.AP2.INNER.G`, R160. -/
  | readCoefAp2InnerG
  /-- `READ_COEF.AP2.INNER.K`, R160. -/
  | readCoefAp2InnerK
  /-- `READ_COEF.AP2.INNER.GK`, R160. -/
  | readCoefAp2InnerGk
  /-- `READ_COEF.AP2.INNER.HP_D`, R160. -/
  | readCoefAp2InnerHpD
  /-- `READ_COEF.AP2.INNER.CX_ACT`, R160. -/
  | readCoefAp2InnerCxAct
  /-- `READ_COEF.AP2.INNER.CLP_ACT`, R160. -/
  | readCoefAp2InnerClpAct
  /-- `READ_COEF.AP2.INNER.CBP_ACT`, R160. -/
  | readCoefAp2InnerCbpAct
  /-- `READ_COEF.AP2.INNER.CHP_ACT`, R160. -/
  | readCoefAp2InnerChpAct
  /-- `READ_COEF.AP2.INNER.DIRTY`, R160. -/
  | readCoefAp2InnerDirty
  /-- `READ_COEF.AP2.LIFE`, R160. -/
  | readCoefAp2Life
  /-- `READ_COEF.AP2.GEN`, R160. -/
  | readCoefAp2Gen
  /-- `READ_COEF.AP2.FS`, R160. -/
  | readCoefAp2Fs
  /-- `READ_COEF.AP2.DIRTY`, R160. -/
  | readCoefAp2Dirty
  /-- `READ_COEF.AP2.MEMREQ`, R160. -/
  | readCoefAp2Memreq
  /-- `INIT.PEAK`, R142. -/
  | initPeak
  /-- `SET_SR.PEAK`, R143. -/
  | setSrPeak
  /-- `RESET_COEFFS.PEAK`, R144. -/
  | resetCoeffsPeak
  /-- `UPDATE_CTRL.PEAK`, R146. -/
  | updateCtrlPeak
  /-- `UPDATE_AUDIO.PEAK`, R147. -/
  | updateAudioPeak
  /-- `PROCESS_MULTI.PEAK`, R157. -/
  | processMultiPeak
  /-- `SET_PARAM.PEAK.CUTOFF`, R317. -/
  | setParamPeakCutoff
  /-- `SET_PARAM.PEAK.Q`, R318. -/
  | setParamPeakQ
  /-- `SET_PARAM.PEAK.PEAK_GAIN_LIN`, R319. -/
  | setParamPeakPeakGainLin
  /-- `SET_PARAM.PEAK.PEAK_GAIN_DB`, R320. -/
  | setParamPeakPeakGainDb
  /-- `SET_PARAM.PEAK.BANDWIDTH`, R321. -/
  | setParamPeakBandwidth
  /-- `SET_PARAM.PEAK.USE_BANDWIDTH`, R322. -/
  | setParamPeakUseBandwidth
  /-- `SET_PARAM.PEAK.PREWARP_AT_CUTOFF`, R323. -/
  | setParamPeakPrewarpAtCutoff
  /-- `SET_PARAM.PEAK.PREWARP_FREQ`, R324. -/
  | setParamPeakPrewarpFreq
  /-- `READ_COEF.PEAK.CUTOFF`, R160. -/
  | readCoefPeakCutoff
  /-- `READ_COEF.PEAK.Q`, R160. -/
  | readCoefPeakQ
  /-- `READ_COEF.PEAK.PEAK_GAIN_LIN`, R160. -/
  | readCoefPeakPeakGainLin
  /-- `READ_COEF.PEAK.PEAK_GAIN_DB`, R160. -/
  | readCoefPeakPeakGainDb
  /-- `READ_COEF.PEAK.BANDWIDTH`, R160. -/
  | readCoefPeakBandwidth
  /-- `READ_COEF.PEAK.USE_BANDWIDTH`, R160. -/
  | readCoefPeakUseBandwidth
  /-- `READ_COEF.PEAK.PREWARP_AT_CUTOFF`, R160. -/
  | readCoefPeakPrewarpAtCutoff
  /-- `READ_COEF.PEAK.PREWARP_FREQ`, R160. -/
  | readCoefPeakPrewarpFreq
  /-- `READ_COEF.PEAK.GAIN_IS_DB`, R160. -/
  | readCoefPeakGainIsDb
  /-- `READ_COEF.PEAK.G`, R160. -/
  | readCoefPeakG
  /-- `READ_COEF.PEAK.QU`, R160. -/
  | readCoefPeakQu
  /-- `READ_COEF.PEAK.QI`, R160. -/
  | readCoefPeakQi
  /-- `READ_COEF.PEAK.KI`, R160. -/
  | readCoefPeakKi
  /-- `READ_COEF.PEAK.INNER.CUTOFF`, R160. -/
  | readCoefPeakInnerCutoff
  /-- `READ_COEF.PEAK.INNER.Q`, R160. -/
  | readCoefPeakInnerQ
  /-- `READ_COEF.PEAK.INNER.PREWARP_AT_CUTOFF`, R160. -/
  | readCoefPeakInnerPrewarpAtCutoff
  /-- `READ_COEF.PEAK.INNER.PREWARP_FREQ`, R160. -/
  | readCoefPeakInnerPrewarpFreq
  /-- `READ_COEF.PEAK.INNER.COEFF_X`, R160. -/
  | readCoefPeakInnerCoeffX
  /-- `READ_COEF.PEAK.INNER.COEFF_LP`, R160. -/
  | readCoefPeakInnerCoeffLp
  /-- `READ_COEF.PEAK.INNER.COEFF_BP`, R160. -/
  | readCoefPeakInnerCoeffBp
  /-- `READ_COEF.PEAK.INNER.COEFF_HP`, R160. -/
  | readCoefPeakInnerCoeffHp
  /-- `READ_COEF.PEAK.INNER.K_PI`, R160. -/
  | readCoefPeakInnerKPi
  /-- `READ_COEF.PEAK.INNER.G`, R160. -/
  | readCoefPeakInnerG
  /-- `READ_COEF.PEAK.INNER.K`, R160. -/
  | readCoefPeakInnerK
  /-- `READ_COEF.PEAK.INNER.GK`, R160. -/
  | readCoefPeakInnerGk
  /-- `READ_COEF.PEAK.INNER.HP_D`, R160. -/
  | readCoefPeakInnerHpD
  /-- `READ_COEF.PEAK.INNER.CX_ACT`, R160. -/
  | readCoefPeakInnerCxAct
  /-- `READ_COEF.PEAK.INNER.CLP_ACT`, R160. -/
  | readCoefPeakInnerClpAct
  /-- `READ_COEF.PEAK.INNER.CBP_ACT`, R160. -/
  | readCoefPeakInnerCbpAct
  /-- `READ_COEF.PEAK.INNER.CHP_ACT`, R160. -/
  | readCoefPeakInnerChpAct
  /-- `READ_COEF.PEAK.INNER.DIRTY`, R160. -/
  | readCoefPeakInnerDirty
  /-- `READ_COEF.PEAK.LIFE`, R160. -/
  | readCoefPeakLife
  /-- `READ_COEF.PEAK.GEN`, R160. -/
  | readCoefPeakGen
  /-- `READ_COEF.PEAK.FS`, R160. -/
  | readCoefPeakFs
  /-- `READ_COEF.PEAK.DIRTY`, R160. -/
  | readCoefPeakDirty
  /-- `READ_COEF.PEAK.MEMREQ`, R160. -/
  | readCoefPeakMemreq
  /-- `INIT.DELAY`, R142. -/
  | initDelay
  /-- `SET_SR.DELAY`, R143. -/
  | setSrDelay
  /-- `RESET_COEFFS.DELAY`, R144. -/
  | resetCoeffsDelay
  /-- `UPDATE_CTRL.DELAY`, R146. -/
  | updateCtrlDelay
  /-- `UPDATE_AUDIO.DELAY`, R147. -/
  | updateAudioDelay
  /-- `PROCESS_MULTI.DELAY`, R157. -/
  | processMultiDelay
  /-- `MEM_REQ.DELAY`, R150. -/
  | memReqDelay
  /-- `SET_PARAM.DELAY.DELAY`, R354. -/
  | setParamDelayDelay
  /-- `READ_COEF.DELAY.DELAY`, R160. -/
  | readCoefDelayDelay
  /-- `READ_COEF.DELAY.MAX_DELAY`, R160. -/
  | readCoefDelayMaxDelay
  /-- `READ_COEF.DELAY.LEN`, R160. -/
  | readCoefDelayLen
  /-- `READ_COEF.DELAY.DI`, R160. -/
  | readCoefDelayDi
  /-- `READ_COEF.DELAY.DF`, R160. -/
  | readCoefDelayDf
  /-- `READ_COEF.DELAY.LIFE`, R160. -/
  | readCoefDelayLife
  /-- `READ_COEF.DELAY.GEN`, R160. -/
  | readCoefDelayGen
  /-- `READ_COEF.DELAY.FS`, R160. -/
  | readCoefDelayFs
  /-- `READ_COEF.DELAY.DIRTY`, R160. -/
  | readCoefDelayDirty
  /-- `READ_COEF.DELAY.MEMREQ`, R160. -/
  | readCoefDelayMemreq
  /-- `INIT.REVERB`, R142. -/
  | initReverb
  /-- `SET_SR.REVERB`, R143. -/
  | setSrReverb
  /-- `RESET_COEFFS.REVERB`, R144. -/
  | resetCoeffsReverb
  /-- `UPDATE_CTRL.REVERB`, R146. -/
  | updateCtrlReverb
  /-- `UPDATE_AUDIO.REVERB`, R147. -/
  | updateAudioReverb
  /-- `PROCESS_MULTI.REVERB`, R157. -/
  | processMultiReverb
  /-- `MEM_REQ.REVERB`, R150. -/
  | memReqReverb
  /-- `SET_PARAM.REVERB.PREDELAY`, R394. -/
  | setParamReverbPredelay
  /-- `SET_PARAM.REVERB.BANDWIDTH`, R395. -/
  | setParamReverbBandwidth
  /-- `SET_PARAM.REVERB.DAMPING`, R396. -/
  | setParamReverbDamping
  /-- `SET_PARAM.REVERB.DECAY`, R397. -/
  | setParamReverbDecay
  /-- `READ_COEF.REVERB.PREDELAY`, R160. -/
  | readCoefReverbPredelay
  /-- `READ_COEF.REVERB.BANDWIDTH`, R160. -/
  | readCoefReverbBandwidth
  /-- `READ_COEF.REVERB.DAMPING`, R160. -/
  | readCoefReverbDamping
  /-- `READ_COEF.REVERB.DECAY`, R160. -/
  | readCoefReverbDecay
  /-- `READ_COEF.REVERB.K_EXP`, R160. -/
  | readCoefReverbKExp
  /-- `READ_COEF.REVERB.A_BW`, R160. -/
  | readCoefReverbABw
  /-- `READ_COEF.REVERB.A_DAMP`, R160. -/
  | readCoefReverbADamp
  /-- `READ_COEF.REVERB.DECAY_G`, R160. -/
  | readCoefReverbDecayG
  /-- `READ_COEF.REVERB.DD2G`, R160. -/
  | readCoefReverbDd2g
  /-- `READ_COEF.REVERB.A_PDS`, R160. -/
  | readCoefReverbAPds
  /-- `READ_COEF.REVERB.ST2_PD`, R160. -/
  | readCoefReverbSt2Pd
  /-- `READ_COEF.REVERB.PD_TARGET`, R160. -/
  | readCoefReverbPdTarget
  /-- `READ_COEF.REVERB.PD_S`, R160. -/
  | readCoefReverbPdS
  /-- `READ_COEF.REVERB.PD_N`, R160. -/
  | readCoefReverbPdN
  /-- `READ_COEF.REVERB.LFO_PHASE`, R160. -/
  | readCoefReverbLfoPhase
  /-- `READ_COEF.REVERB.LFO_INC`, R160. -/
  | readCoefReverbLfoInc
  /-- `READ_COEF.REVERB.LFO_M`, R160. -/
  | readCoefReverbLfoM
  /-- `READ_COEF.REVERB.EXC`, R160. -/
  | readCoefReverbExc
  /-- `READ_COEF.REVERB.RATIO`, R160. -/
  | readCoefReverbRatio
  /-- `READ_COEF.REVERB.DI1`, R160. -/
  | readCoefReverbDi1
  /-- `READ_COEF.REVERB.DF1`, R160. -/
  | readCoefReverbDf1
  /-- `READ_COEF.REVERB.DI3`, R160. -/
  | readCoefReverbDi3
  /-- `READ_COEF.REVERB.DF3`, R160. -/
  | readCoefReverbDf3
  /-- `READ_COEF.REVERB.N[1]`, R160. -/
  | readCoefReverbN1
  /-- `READ_COEF.REVERB.N[2]`, R160. -/
  | readCoefReverbN2
  /-- `READ_COEF.REVERB.N[3]`, R160. -/
  | readCoefReverbN3
  /-- `READ_COEF.REVERB.N[4]`, R160. -/
  | readCoefReverbN4
  /-- `READ_COEF.REVERB.N[5]`, R160. -/
  | readCoefReverbN5
  /-- `READ_COEF.REVERB.N[6]`, R160. -/
  | readCoefReverbN6
  /-- `READ_COEF.REVERB.N[7]`, R160. -/
  | readCoefReverbN7
  /-- `READ_COEF.REVERB.N[8]`, R160. -/
  | readCoefReverbN8
  /-- `READ_COEF.REVERB.N[9]`, R160. -/
  | readCoefReverbN9
  /-- `READ_COEF.REVERB.N[10]`, R160. -/
  | readCoefReverbN10
  /-- `READ_COEF.REVERB.N[11]`, R160. -/
  | readCoefReverbN11
  /-- `READ_COEF.REVERB.N[12]`, R160. -/
  | readCoefReverbN12
  /-- `READ_COEF.REVERB.CAP[0]`, R160. -/
  | readCoefReverbCap0
  /-- `READ_COEF.REVERB.CAP[1]`, R160. -/
  | readCoefReverbCap1
  /-- `READ_COEF.REVERB.CAP[2]`, R160. -/
  | readCoefReverbCap2
  /-- `READ_COEF.REVERB.CAP[3]`, R160. -/
  | readCoefReverbCap3
  /-- `READ_COEF.REVERB.CAP[4]`, R160. -/
  | readCoefReverbCap4
  /-- `READ_COEF.REVERB.CAP[5]`, R160. -/
  | readCoefReverbCap5
  /-- `READ_COEF.REVERB.CAP[6]`, R160. -/
  | readCoefReverbCap6
  /-- `READ_COEF.REVERB.CAP[7]`, R160. -/
  | readCoefReverbCap7
  /-- `READ_COEF.REVERB.CAP[8]`, R160. -/
  | readCoefReverbCap8
  /-- `READ_COEF.REVERB.CAP[9]`, R160. -/
  | readCoefReverbCap9
  /-- `READ_COEF.REVERB.CAP[10]`, R160. -/
  | readCoefReverbCap10
  /-- `READ_COEF.REVERB.CAP[11]`, R160. -/
  | readCoefReverbCap11
  /-- `READ_COEF.REVERB.CAP[12]`, R160. -/
  | readCoefReverbCap12
  /-- `READ_COEF.REVERB.OFF[0]`, R160. -/
  | readCoefReverbOff0
  /-- `READ_COEF.REVERB.OFF[1]`, R160. -/
  | readCoefReverbOff1
  /-- `READ_COEF.REVERB.OFF[2]`, R160. -/
  | readCoefReverbOff2
  /-- `READ_COEF.REVERB.OFF[3]`, R160. -/
  | readCoefReverbOff3
  /-- `READ_COEF.REVERB.OFF[4]`, R160. -/
  | readCoefReverbOff4
  /-- `READ_COEF.REVERB.OFF[5]`, R160. -/
  | readCoefReverbOff5
  /-- `READ_COEF.REVERB.OFF[6]`, R160. -/
  | readCoefReverbOff6
  /-- `READ_COEF.REVERB.OFF[7]`, R160. -/
  | readCoefReverbOff7
  /-- `READ_COEF.REVERB.OFF[8]`, R160. -/
  | readCoefReverbOff8
  /-- `READ_COEF.REVERB.OFF[9]`, R160. -/
  | readCoefReverbOff9
  /-- `READ_COEF.REVERB.OFF[10]`, R160. -/
  | readCoefReverbOff10
  /-- `READ_COEF.REVERB.OFF[11]`, R160. -/
  | readCoefReverbOff11
  /-- `READ_COEF.REVERB.OFF[12]`, R160. -/
  | readCoefReverbOff12
  /-- `READ_COEF.REVERB.TAPL_K[0]`, R160. -/
  | readCoefReverbTaplK0
  /-- `READ_COEF.REVERB.TAPL_K[1]`, R160. -/
  | readCoefReverbTaplK1
  /-- `READ_COEF.REVERB.TAPL_K[2]`, R160. -/
  | readCoefReverbTaplK2
  /-- `READ_COEF.REVERB.TAPL_K[3]`, R160. -/
  | readCoefReverbTaplK3
  /-- `READ_COEF.REVERB.TAPL_K[4]`, R160. -/
  | readCoefReverbTaplK4
  /-- `READ_COEF.REVERB.TAPL_K[5]`, R160. -/
  | readCoefReverbTaplK5
  /-- `READ_COEF.REVERB.TAPL_K[6]`, R160. -/
  | readCoefReverbTaplK6
  /-- `READ_COEF.REVERB.TAPR_K[0]`, R160. -/
  | readCoefReverbTaprK0
  /-- `READ_COEF.REVERB.TAPR_K[1]`, R160. -/
  | readCoefReverbTaprK1
  /-- `READ_COEF.REVERB.TAPR_K[2]`, R160. -/
  | readCoefReverbTaprK2
  /-- `READ_COEF.REVERB.TAPR_K[3]`, R160. -/
  | readCoefReverbTaprK3
  /-- `READ_COEF.REVERB.TAPR_K[4]`, R160. -/
  | readCoefReverbTaprK4
  /-- `READ_COEF.REVERB.TAPR_K[5]`, R160. -/
  | readCoefReverbTaprK5
  /-- `READ_COEF.REVERB.TAPR_K[6]`, R160. -/
  | readCoefReverbTaprK6
  /-- `READ_COEF.REVERB.LIFE`, R160. -/
  | readCoefReverbLife
  /-- `READ_COEF.REVERB.GEN`, R160. -/
  | readCoefReverbGen
  /-- `READ_COEF.REVERB.FS`, R160. -/
  | readCoefReverbFs
  /-- `READ_COEF.REVERB.DIRTY`, R160. -/
  | readCoefReverbDirty
  /-- `READ_COEF.REVERB.MEMREQ`, R160. -/
  | readCoefReverbMemreq
  deriving DecidableEq, Repr

end Sys2Proof
end

