-- ==== Sys2Proof/WellFormed.lean ====
section
/-! DEFINITION. When a command is well formed for a block that has `nCh` channel state banks per unit: the channel it
names exists (00_scope.md R6 `N_CH`, 40_protocol.md R141 item 2). Every other field of a command is fixed by its
constructor, so this is the one check there is. -/

namespace Sys2Proof

/-- The CH field of a command whose opcode uses CH (30_encoding.md R112, R116 item 5), `none` for the others. -/
def Instr.channel : Instr → Option (BitVec 6)
  | .nop => none
  | .initOnepole => none
  | .setSrOnepole => none
  | .resetCoeffsOnepole => none
  | .resetStateOnepole ch => some ch
  | .updateCtrlOnepole => none
  | .updateAudioOnepole => none
  | .process1Onepole ch => some ch
  | .processOnepole ch => some ch
  | .processMultiOnepole => none
  | .setParamOnepoleCutoff => none
  | .setParamOnepoleCutoffUp => none
  | .setParamOnepoleCutoffDown => none
  | .setParamOnepoleTau => none
  | .setParamOnepoleTauUp => none
  | .setParamOnepoleTauDown => none
  | .setParamOnepoleStickyThresh => none
  | .setParamOnepoleStickyMode => none
  | .readCoefOnepoleCutoffUp => none
  | .readCoefOnepoleCutoffDown => none
  | .readCoefOnepoleStickyThresh => none
  | .readCoefOnepoleStickyMode => none
  | .readCoefOnepoleKExp => none
  | .readCoefOnepoleAUp => none
  | .readCoefOnepoleADown => none
  | .readCoefOnepoleSt2 => none
  | .readCoefOnepoleModeAct => none
  | .readCoefOnepoleLife => none
  | .readCoefOnepoleGen => none
  | .readCoefOnepoleFs => none
  | .readCoefOnepoleDirty => none
  | .readCoefOnepoleMemreq => none
  | .readStateOnepoleYZ1 ch => some ch
  | .readStateOnepoleStValid ch => some ch
  | .initMm1 => none
  | .setSrMm1 => none
  | .resetCoeffsMm1 => none
  | .resetStateMm1 ch => some ch
  | .updateCtrlMm1 => none
  | .updateAudioMm1 => none
  | .process1Mm1 ch => some ch
  | .processMm1 ch => some ch
  | .processMultiMm1 => none
  | .setParamMm1Cutoff => none
  | .setParamMm1PrewarpAtCutoff => none
  | .setParamMm1PrewarpFreq => none
  | .setParamMm1CoeffX => none
  | .setParamMm1CoeffLp => none
  | .readCoefMm1Cutoff => none
  | .readCoefMm1PrewarpAtCutoff => none
  | .readCoefMm1PrewarpFreq => none
  | .readCoefMm1CoeffX => none
  | .readCoefMm1CoeffLp => none
  | .readCoefMm1KPi => none
  | .readCoefMm1G => none
  | .readCoefMm1G1 => none
  | .readCoefMm1CxAct => none
  | .readCoefMm1ClpAct => none
  | .readCoefMm1Life => none
  | .readCoefMm1Gen => none
  | .readCoefMm1Fs => none
  | .readCoefMm1Dirty => none
  | .readCoefMm1Memreq => none
  | .readStateMm1S ch => some ch
  | .readStateMm1StValid ch => some ch
  | .initMm2 => none
  | .setSrMm2 => none
  | .resetCoeffsMm2 => none
  | .resetStateMm2 ch => some ch
  | .updateCtrlMm2 => none
  | .updateAudioMm2 => none
  | .process1Mm2 ch => some ch
  | .processMm2 ch => some ch
  | .processMultiMm2 => none
  | .setParamMm2Cutoff => none
  | .setParamMm2Q => none
  | .setParamMm2PrewarpAtCutoff => none
  | .setParamMm2PrewarpFreq => none
  | .setParamMm2CoeffX => none
  | .setParamMm2CoeffLp => none
  | .setParamMm2CoeffBp => none
  | .setParamMm2CoeffHp => none
  | .readCoefMm2Cutoff => none
  | .readCoefMm2Q => none
  | .readCoefMm2PrewarpAtCutoff => none
  | .readCoefMm2PrewarpFreq => none
  | .readCoefMm2CoeffX => none
  | .readCoefMm2CoeffLp => none
  | .readCoefMm2CoeffBp => none
  | .readCoefMm2CoeffHp => none
  | .readCoefMm2KPi => none
  | .readCoefMm2G => none
  | .readCoefMm2K => none
  | .readCoefMm2Gk => none
  | .readCoefMm2HpD => none
  | .readCoefMm2CxAct => none
  | .readCoefMm2ClpAct => none
  | .readCoefMm2CbpAct => none
  | .readCoefMm2ChpAct => none
  | .readCoefMm2Life => none
  | .readCoefMm2Gen => none
  | .readCoefMm2Fs => none
  | .readCoefMm2Dirty => none
  | .readCoefMm2Memreq => none
  | .readStateMm2S1 ch => some ch
  | .readStateMm2S2 ch => some ch
  | .readStateMm2StValid ch => some ch
  | .initHp1 => none
  | .setSrHp1 => none
  | .resetCoeffsHp1 => none
  | .resetStateHp1 ch => some ch
  | .updateCtrlHp1 => none
  | .updateAudioHp1 => none
  | .process1Hp1 ch => some ch
  | .processHp1 ch => some ch
  | .processMultiHp1 => none
  | .setParamHp1Cutoff => none
  | .setParamHp1PrewarpAtCutoff => none
  | .setParamHp1PrewarpFreq => none
  | .readCoefHp1Cutoff => none
  | .readCoefHp1PrewarpAtCutoff => none
  | .readCoefHp1PrewarpFreq => none
  | .readCoefHp1InnerCutoff => none
  | .readCoefHp1InnerPrewarpAtCutoff => none
  | .readCoefHp1InnerPrewarpFreq => none
  | .readCoefHp1InnerCoeffX => none
  | .readCoefHp1InnerCoeffLp => none
  | .readCoefHp1InnerKPi => none
  | .readCoefHp1InnerG => none
  | .readCoefHp1InnerG1 => none
  | .readCoefHp1InnerCxAct => none
  | .readCoefHp1InnerClpAct => none
  | .readCoefHp1InnerDirty => none
  | .readCoefHp1Life => none
  | .readCoefHp1Gen => none
  | .readCoefHp1Fs => none
  | .readCoefHp1Dirty => none
  | .readCoefHp1Memreq => none
  | .readStateHp1S ch => some ch
  | .readStateHp1StValid ch => some ch
  | .initLs1 => none
  | .setSrLs1 => none
  | .resetCoeffsLs1 => none
  | .resetStateLs1 ch => some ch
  | .updateCtrlLs1 => none
  | .updateAudioLs1 => none
  | .process1Ls1 ch => some ch
  | .processLs1 ch => some ch
  | .processMultiLs1 => none
  | .setParamLs1Cutoff => none
  | .setParamLs1DcGainLin => none
  | .setParamLs1DcGainDb => none
  | .setParamLs1PrewarpAtCutoff => none
  | .setParamLs1PrewarpFreq => none
  | .readCoefLs1Cutoff => none
  | .readCoefLs1DcGainLin => none
  | .readCoefLs1DcGainDb => none
  | .readCoefLs1PrewarpAtCutoff => none
  | .readCoefLs1PrewarpFreq => none
  | .readCoefLs1GainIsDb => none
  | .readCoefLs1G => none
  | .readCoefLs1InnerCutoff => none
  | .readCoefLs1InnerPrewarpAtCutoff => none
  | .readCoefLs1InnerPrewarpFreq => none
  | .readCoefLs1InnerCoeffX => none
  | .readCoefLs1InnerCoeffLp => none
  | .readCoefLs1InnerKPi => none
  | .readCoefLs1InnerG => none
  | .readCoefLs1InnerG1 => none
  | .readCoefLs1InnerCxAct => none
  | .readCoefLs1InnerClpAct => none
  | .readCoefLs1InnerDirty => none
  | .readCoefLs1Life => none
  | .readCoefLs1Gen => none
  | .readCoefLs1Fs => none
  | .readCoefLs1Dirty => none
  | .readCoefLs1Memreq => none
  | .readStateLs1S ch => some ch
  | .readStateLs1StValid ch => some ch
  | .initLs2 => none
  | .setSrLs2 => none
  | .resetCoeffsLs2 => none
  | .resetStateLs2 ch => some ch
  | .updateCtrlLs2 => none
  | .updateAudioLs2 => none
  | .process1Ls2 ch => some ch
  | .processLs2 ch => some ch
  | .processMultiLs2 => none
  | .setParamLs2Cutoff => none
  | .setParamLs2Q => none
  | .setParamLs2DcGainLin => none
  | .setParamLs2DcGainDb => none
  | .setParamLs2PrewarpAtCutoff => none
  | .setParamLs2PrewarpFreq => none
  | .readCoefLs2Cutoff => none
  | .readCoefLs2Q => none
  | .readCoefLs2DcGainLin => none
  | .readCoefLs2DcGainDb => none
  | .readCoefLs2PrewarpAtCutoff => none
  | .readCoefLs2PrewarpFreq => none
  | .readCoefLs2GainIsDb => none
  | .readCoefLs2G => none
  | .readCoefLs2Ki => none
  | .readCoefLs2InnerCutoff => none
  | .readCoefLs2InnerQ => none
  | .readCoefLs2InnerPrewarpAtCutoff => none
  | .readCoefLs2InnerPrewarpFreq => none
  | .readCoefLs2InnerCoeffX => none
  | .readCoefLs2InnerCoeffLp => none
  | .readCoefLs2InnerCoeffBp => none
  | .readCoefLs2InnerCoeffHp => none
  | .readCoefLs2InnerKPi => none
  | .readCoefLs2InnerG => none
  | .readCoefLs2InnerK => none
  | .readCoefLs2InnerGk => none
  | .readCoefLs2InnerHpD => none
  | .readCoefLs2InnerCxAct => none
  | .readCoefLs2InnerClpAct => none
  | .readCoefLs2InnerCbpAct => none
  | .readCoefLs2InnerChpAct => none
  | .readCoefLs2InnerDirty => none
  | .readCoefLs2Life => none
  | .readCoefLs2Gen => none
  | .readCoefLs2Fs => none
  | .readCoefLs2Dirty => none
  | .readCoefLs2Memreq => none
  | .readStateLs2S1 ch => some ch
  | .readStateLs2S2 ch => some ch
  | .readStateLs2StValid ch => some ch
  | .initAp2 => none
  | .setSrAp2 => none
  | .resetCoeffsAp2 => none
  | .resetStateAp2 ch => some ch
  | .updateCtrlAp2 => none
  | .updateAudioAp2 => none
  | .process1Ap2 ch => some ch
  | .processAp2 ch => some ch
  | .processMultiAp2 => none
  | .setParamAp2Cutoff => none
  | .setParamAp2Q => none
  | .setParamAp2PrewarpAtCutoff => none
  | .setParamAp2PrewarpFreq => none
  | .readCoefAp2Cutoff => none
  | .readCoefAp2Q => none
  | .readCoefAp2PrewarpAtCutoff => none
  | .readCoefAp2PrewarpFreq => none
  | .readCoefAp2Ki => none
  | .readCoefAp2InnerCutoff => none
  | .readCoefAp2InnerQ => none
  | .readCoefAp2InnerPrewarpAtCutoff => none
  | .readCoefAp2InnerPrewarpFreq => none
  | .readCoefAp2InnerCoeffX => none
  | .readCoefAp2InnerCoeffLp => none
  | .readCoefAp2InnerCoeffBp => none
  | .readCoefAp2InnerCoeffHp => none
  | .readCoefAp2InnerKPi => none
  | .readCoefAp2InnerG => none
  | .readCoefAp2InnerK => none
  | .readCoefAp2InnerGk => none
  | .readCoefAp2InnerHpD => none
  | .readCoefAp2InnerCxAct => none
  | .readCoefAp2InnerClpAct => none
  | .readCoefAp2InnerCbpAct => none
  | .readCoefAp2InnerChpAct => none
  | .readCoefAp2InnerDirty => none
  | .readCoefAp2Life => none
  | .readCoefAp2Gen => none
  | .readCoefAp2Fs => none
  | .readCoefAp2Dirty => none
  | .readCoefAp2Memreq => none
  | .readStateAp2S1 ch => some ch
  | .readStateAp2S2 ch => some ch
  | .readStateAp2StValid ch => some ch
  | .initPeak => none
  | .setSrPeak => none
  | .resetCoeffsPeak => none
  | .resetStatePeak ch => some ch
  | .updateCtrlPeak => none
  | .updateAudioPeak => none
  | .process1Peak ch => some ch
  | .processPeak ch => some ch
  | .processMultiPeak => none
  | .setParamPeakCutoff => none
  | .setParamPeakQ => none
  | .setParamPeakPeakGainLin => none
  | .setParamPeakPeakGainDb => none
  | .setParamPeakBandwidth => none
  | .setParamPeakUseBandwidth => none
  | .setParamPeakPrewarpAtCutoff => none
  | .setParamPeakPrewarpFreq => none
  | .readCoefPeakCutoff => none
  | .readCoefPeakQ => none
  | .readCoefPeakPeakGainLin => none
  | .readCoefPeakPeakGainDb => none
  | .readCoefPeakBandwidth => none
  | .readCoefPeakUseBandwidth => none
  | .readCoefPeakPrewarpAtCutoff => none
  | .readCoefPeakPrewarpFreq => none
  | .readCoefPeakGainIsDb => none
  | .readCoefPeakG => none
  | .readCoefPeakQu => none
  | .readCoefPeakQi => none
  | .readCoefPeakKi => none
  | .readCoefPeakInnerCutoff => none
  | .readCoefPeakInnerQ => none
  | .readCoefPeakInnerPrewarpAtCutoff => none
  | .readCoefPeakInnerPrewarpFreq => none
  | .readCoefPeakInnerCoeffX => none
  | .readCoefPeakInnerCoeffLp => none
  | .readCoefPeakInnerCoeffBp => none
  | .readCoefPeakInnerCoeffHp => none
  | .readCoefPeakInnerKPi => none
  | .readCoefPeakInnerG => none
  | .readCoefPeakInnerK => none
  | .readCoefPeakInnerGk => none
  | .readCoefPeakInnerHpD => none
  | .readCoefPeakInnerCxAct => none
  | .readCoefPeakInnerClpAct => none
  | .readCoefPeakInnerCbpAct => none
  | .readCoefPeakInnerChpAct => none
  | .readCoefPeakInnerDirty => none
  | .readCoefPeakLife => none
  | .readCoefPeakGen => none
  | .readCoefPeakFs => none
  | .readCoefPeakDirty => none
  | .readCoefPeakMemreq => none
  | .readStatePeakS1 ch => some ch
  | .readStatePeakS2 ch => some ch
  | .readStatePeakStValid ch => some ch
  | .initDelay => none
  | .setSrDelay => none
  | .resetCoeffsDelay => none
  | .resetStateDelay ch => some ch
  | .updateCtrlDelay => none
  | .updateAudioDelay => none
  | .process1Delay ch => some ch
  | .processDelay ch => some ch
  | .processMultiDelay => none
  | .memReqDelay => none
  | .memSetDelay ch => some ch
  | .delayReadDelay ch => some ch
  | .delayWriteDelay ch => some ch
  | .setParamDelayDelay => none
  | .readCoefDelayDelay => none
  | .readCoefDelayMaxDelay => none
  | .readCoefDelayLen => none
  | .readCoefDelayDi => none
  | .readCoefDelayDf => none
  | .readCoefDelayLife => none
  | .readCoefDelayGen => none
  | .readCoefDelayFs => none
  | .readCoefDelayDirty => none
  | .readCoefDelayMemreq => none
  | .readStateDelayW ch => some ch
  | .readStateDelayStValid ch => some ch
  | .readStateDelayMemBound ch => some ch
  | .readStateDelayMemBase ch => some ch
  | .initReverb => none
  | .setSrReverb => none
  | .resetCoeffsReverb => none
  | .resetStateReverb ch => some ch
  | .updateCtrlReverb => none
  | .updateAudioReverb => none
  | .process1Reverb ch => some ch
  | .processReverb ch => some ch
  | .processMultiReverb => none
  | .memReqReverb => none
  | .memSetReverb ch => some ch
  | .setParamReverbPredelay => none
  | .setParamReverbBandwidth => none
  | .setParamReverbDamping => none
  | .setParamReverbDecay => none
  | .readCoefReverbPredelay => none
  | .readCoefReverbBandwidth => none
  | .readCoefReverbDamping => none
  | .readCoefReverbDecay => none
  | .readCoefReverbKExp => none
  | .readCoefReverbABw => none
  | .readCoefReverbADamp => none
  | .readCoefReverbDecayG => none
  | .readCoefReverbDd2g => none
  | .readCoefReverbAPds => none
  | .readCoefReverbSt2Pd => none
  | .readCoefReverbPdTarget => none
  | .readCoefReverbPdS => none
  | .readCoefReverbPdN => none
  | .readCoefReverbLfoPhase => none
  | .readCoefReverbLfoInc => none
  | .readCoefReverbLfoM => none
  | .readCoefReverbExc => none
  | .readCoefReverbRatio => none
  | .readCoefReverbDi1 => none
  | .readCoefReverbDf1 => none
  | .readCoefReverbDi3 => none
  | .readCoefReverbDf3 => none
  | .readCoefReverbN1 => none
  | .readCoefReverbN2 => none
  | .readCoefReverbN3 => none
  | .readCoefReverbN4 => none
  | .readCoefReverbN5 => none
  | .readCoefReverbN6 => none
  | .readCoefReverbN7 => none
  | .readCoefReverbN8 => none
  | .readCoefReverbN9 => none
  | .readCoefReverbN10 => none
  | .readCoefReverbN11 => none
  | .readCoefReverbN12 => none
  | .readCoefReverbCap0 => none
  | .readCoefReverbCap1 => none
  | .readCoefReverbCap2 => none
  | .readCoefReverbCap3 => none
  | .readCoefReverbCap4 => none
  | .readCoefReverbCap5 => none
  | .readCoefReverbCap6 => none
  | .readCoefReverbCap7 => none
  | .readCoefReverbCap8 => none
  | .readCoefReverbCap9 => none
  | .readCoefReverbCap10 => none
  | .readCoefReverbCap11 => none
  | .readCoefReverbCap12 => none
  | .readCoefReverbOff0 => none
  | .readCoefReverbOff1 => none
  | .readCoefReverbOff2 => none
  | .readCoefReverbOff3 => none
  | .readCoefReverbOff4 => none
  | .readCoefReverbOff5 => none
  | .readCoefReverbOff6 => none
  | .readCoefReverbOff7 => none
  | .readCoefReverbOff8 => none
  | .readCoefReverbOff9 => none
  | .readCoefReverbOff10 => none
  | .readCoefReverbOff11 => none
  | .readCoefReverbOff12 => none
  | .readCoefReverbTaplK0 => none
  | .readCoefReverbTaplK1 => none
  | .readCoefReverbTaplK2 => none
  | .readCoefReverbTaplK3 => none
  | .readCoefReverbTaplK4 => none
  | .readCoefReverbTaplK5 => none
  | .readCoefReverbTaplK6 => none
  | .readCoefReverbTaprK0 => none
  | .readCoefReverbTaprK1 => none
  | .readCoefReverbTaprK2 => none
  | .readCoefReverbTaprK3 => none
  | .readCoefReverbTaprK4 => none
  | .readCoefReverbTaprK5 => none
  | .readCoefReverbTaprK6 => none
  | .readCoefReverbLife => none
  | .readCoefReverbGen => none
  | .readCoefReverbFs => none
  | .readCoefReverbDirty => none
  | .readCoefReverbMemreq => none
  | .readStateReverbBwZ1 ch => some ch
  | .readStateReverbDlZ1 ch => some ch
  | .readStateReverbDrZ1 ch => some ch
  | .readStateReverbW0 ch => some ch
  | .readStateReverbW1 ch => some ch
  | .readStateReverbW2 ch => some ch
  | .readStateReverbW3 ch => some ch
  | .readStateReverbW4 ch => some ch
  | .readStateReverbW5 ch => some ch
  | .readStateReverbW6 ch => some ch
  | .readStateReverbW7 ch => some ch
  | .readStateReverbW8 ch => some ch
  | .readStateReverbW9 ch => some ch
  | .readStateReverbW10 ch => some ch
  | .readStateReverbW11 ch => some ch
  | .readStateReverbW12 ch => some ch
  | .readStateReverbStValid ch => some ch
  | .readStateReverbMemBound ch => some ch
  | .readStateReverbMemBase ch => some ch

/-- The channel a command names is one of the `nCh` banks (R141 item 2, BAD_CHANNEL otherwise). -/
def Instr.wellFormed (nCh : Nat) (i : Instr) : Bool :=
  match i.channel with
  | some ch => decide (ch.toNat < nCh)
  | none => true

end Sys2Proof
end

