-- ==== Sys2Proof/Decode.lean ====
section
/-! DEFINITION. The command word (30_encoding.md R110, R111), the decoder (R112, R113, R115, R116, R118) and, after it,
the encoder. The decoder is total on every 32-bit word: it answers the one command of the table the word is, or says
by name which item of R116 makes the word illegal. -/

namespace Sys2Proof

/-- The five fields of a command word (R111), the most significant first. -/
structure CmdFields where
  /-- OPC, bits 31:26. -/
  opc : BitVec 6
  /-- UNIT, bits 25:22. -/
  unit : BitVec 4
  /-- CH, bits 21:16. -/
  ch : BitVec 6
  /-- SEL, bits 15:8. -/
  sel : BitVec 8
  /-- ZERO, bits 7:0. -/
  zero : BitVec 8
  deriving DecidableEq, Repr

/-- The fields of a command word, at the bit positions of R111. -/
def unpackCmd (w : Word) : CmdFields :=
  { opc := w.extractLsb' 26 6, unit := w.extractLsb' 22 4, ch := w.extractLsb' 16 6
    sel := w.extractLsb' 8 8, zero := w.extractLsb' 0 8 }

/-- The command word of five fields (R111). -/
def packCmd (f : CmdFields) : Word :=
  f.opc ++ f.unit ++ f.ch ++ f.sel ++ f.zero

/-- Why a command word is illegal: the items of R116. Each raises ILLEGAL (60_exceptions.md R431); the block does not
tell them apart. -/
inductive Illegal where
  /-- Item 1: ZERO (bits 7:0) is not 0. -/
  | zeroField
  /-- Item 2: OPC is reserved (0x11..0x3F). -/
  | reservedOpcode
  /-- Item 3: UNIT is reserved (10..15). -/
  | reservedUnit
  /-- Item 4: the opcode does not accept the unit, or OPC is NOP and UNIT is not 0. -/
  | unitNotAccepted
  /-- Item 5: the opcode does not use CH and CH is not 0. -/
  | chNotZero
  /-- Item 6: the opcode does not use SEL and SEL is not 0. -/
  | selNotZero
  /-- Item 7: SET_PARAM with a SEL that is no parameter select of the unit. -/
  | notParameter
  /-- Item 8: READ_COEF or READ_STATE with a SEL that is no register of the unit. -/
  | notRegister
  deriving DecidableEq, Repr

/-- The opcodes that use CH (R112). -/
def usesCh (opc : BitVec 6) : Bool :=
  opc == 0x04 || opc == 0x07 || opc == 0x08 || opc == 0x0C || opc == 0x0D || opc == 0x0E || opc == 0x10

/-- The opcodes that use SEL (R112). -/
def usesSel (opc : BitVec 6) : Bool :=
  opc == 0x0A || opc == 0x0F || opc == 0x10

/-- The units opcode 0x00 accepts (R112). -/
def decodeNop (unit : BitVec 4) : Option Instr :=
  match unit with
  | 0#4 => some .nop
  | _ => none

/-- The units opcode 0x01 accepts (R112). -/
def decodeInit (unit : BitVec 4) : Option Instr :=
  match unit with
  | 0#4 => some .initOnepole
  | 1#4 => some .initMm1
  | 2#4 => some .initMm2
  | 3#4 => some .initHp1
  | 4#4 => some .initLs1
  | 5#4 => some .initLs2
  | 6#4 => some .initAp2
  | 7#4 => some .initPeak
  | 8#4 => some .initDelay
  | 9#4 => some .initReverb
  | _ => none

/-- The units opcode 0x02 accepts (R112). -/
def decodeSetSr (unit : BitVec 4) : Option Instr :=
  match unit with
  | 0#4 => some .setSrOnepole
  | 1#4 => some .setSrMm1
  | 2#4 => some .setSrMm2
  | 3#4 => some .setSrHp1
  | 4#4 => some .setSrLs1
  | 5#4 => some .setSrLs2
  | 6#4 => some .setSrAp2
  | 7#4 => some .setSrPeak
  | 8#4 => some .setSrDelay
  | 9#4 => some .setSrReverb
  | _ => none

/-- The units opcode 0x03 accepts (R112). -/
def decodeResetCoeffs (unit : BitVec 4) : Option Instr :=
  match unit with
  | 0#4 => some .resetCoeffsOnepole
  | 1#4 => some .resetCoeffsMm1
  | 2#4 => some .resetCoeffsMm2
  | 3#4 => some .resetCoeffsHp1
  | 4#4 => some .resetCoeffsLs1
  | 5#4 => some .resetCoeffsLs2
  | 6#4 => some .resetCoeffsAp2
  | 7#4 => some .resetCoeffsPeak
  | 8#4 => some .resetCoeffsDelay
  | 9#4 => some .resetCoeffsReverb
  | _ => none

/-- The units opcode 0x04 accepts (R112). -/
def decodeResetState (ch : BitVec 6) (unit : BitVec 4) : Option Instr :=
  match unit with
  | 0#4 => some (.resetStateOnepole ch)
  | 1#4 => some (.resetStateMm1 ch)
  | 2#4 => some (.resetStateMm2 ch)
  | 3#4 => some (.resetStateHp1 ch)
  | 4#4 => some (.resetStateLs1 ch)
  | 5#4 => some (.resetStateLs2 ch)
  | 6#4 => some (.resetStateAp2 ch)
  | 7#4 => some (.resetStatePeak ch)
  | 8#4 => some (.resetStateDelay ch)
  | 9#4 => some (.resetStateReverb ch)
  | _ => none

/-- The units opcode 0x05 accepts (R112). -/
def decodeUpdateCtrl (unit : BitVec 4) : Option Instr :=
  match unit with
  | 0#4 => some .updateCtrlOnepole
  | 1#4 => some .updateCtrlMm1
  | 2#4 => some .updateCtrlMm2
  | 3#4 => some .updateCtrlHp1
  | 4#4 => some .updateCtrlLs1
  | 5#4 => some .updateCtrlLs2
  | 6#4 => some .updateCtrlAp2
  | 7#4 => some .updateCtrlPeak
  | 8#4 => some .updateCtrlDelay
  | 9#4 => some .updateCtrlReverb
  | _ => none

/-- The units opcode 0x06 accepts (R112). -/
def decodeUpdateAudio (unit : BitVec 4) : Option Instr :=
  match unit with
  | 0#4 => some .updateAudioOnepole
  | 1#4 => some .updateAudioMm1
  | 2#4 => some .updateAudioMm2
  | 3#4 => some .updateAudioHp1
  | 4#4 => some .updateAudioLs1
  | 5#4 => some .updateAudioLs2
  | 6#4 => some .updateAudioAp2
  | 7#4 => some .updateAudioPeak
  | 8#4 => some .updateAudioDelay
  | 9#4 => some .updateAudioReverb
  | _ => none

/-- The units opcode 0x07 accepts (R112). -/
def decodeProcess1 (ch : BitVec 6) (unit : BitVec 4) : Option Instr :=
  match unit with
  | 0#4 => some (.process1Onepole ch)
  | 1#4 => some (.process1Mm1 ch)
  | 2#4 => some (.process1Mm2 ch)
  | 3#4 => some (.process1Hp1 ch)
  | 4#4 => some (.process1Ls1 ch)
  | 5#4 => some (.process1Ls2 ch)
  | 6#4 => some (.process1Ap2 ch)
  | 7#4 => some (.process1Peak ch)
  | 8#4 => some (.process1Delay ch)
  | 9#4 => some (.process1Reverb ch)
  | _ => none

/-- The units opcode 0x08 accepts (R112). -/
def decodeProcess (ch : BitVec 6) (unit : BitVec 4) : Option Instr :=
  match unit with
  | 0#4 => some (.processOnepole ch)
  | 1#4 => some (.processMm1 ch)
  | 2#4 => some (.processMm2 ch)
  | 3#4 => some (.processHp1 ch)
  | 4#4 => some (.processLs1 ch)
  | 5#4 => some (.processLs2 ch)
  | 6#4 => some (.processAp2 ch)
  | 7#4 => some (.processPeak ch)
  | 8#4 => some (.processDelay ch)
  | 9#4 => some (.processReverb ch)
  | _ => none

/-- The units opcode 0x09 accepts (R112). -/
def decodeProcessMulti (unit : BitVec 4) : Option Instr :=
  match unit with
  | 0#4 => some .processMultiOnepole
  | 1#4 => some .processMultiMm1
  | 2#4 => some .processMultiMm2
  | 3#4 => some .processMultiHp1
  | 4#4 => some .processMultiLs1
  | 5#4 => some .processMultiLs2
  | 6#4 => some .processMultiAp2
  | 7#4 => some .processMultiPeak
  | 8#4 => some .processMultiDelay
  | 9#4 => some .processMultiReverb
  | _ => none

/-- The selects of opcode 0x0a on unit ONEPOLE (R115). -/
def decodeSetParamOnepole (sel : BitVec 8) : Option Instr :=
  match sel with
  | 0x00#8 => some .setParamOnepoleCutoff
  | 0x01#8 => some .setParamOnepoleCutoffUp
  | 0x02#8 => some .setParamOnepoleCutoffDown
  | 0x03#8 => some .setParamOnepoleTau
  | 0x04#8 => some .setParamOnepoleTauUp
  | 0x05#8 => some .setParamOnepoleTauDown
  | 0x06#8 => some .setParamOnepoleStickyThresh
  | 0x07#8 => some .setParamOnepoleStickyMode
  | _ => none

/-- The selects of opcode 0x0a on unit MM1 (R115). -/
def decodeSetParamMm1 (sel : BitVec 8) : Option Instr :=
  match sel with
  | 0x00#8 => some .setParamMm1Cutoff
  | 0x01#8 => some .setParamMm1PrewarpAtCutoff
  | 0x02#8 => some .setParamMm1PrewarpFreq
  | 0x03#8 => some .setParamMm1CoeffX
  | 0x04#8 => some .setParamMm1CoeffLp
  | _ => none

/-- The selects of opcode 0x0a on unit MM2 (R115). -/
def decodeSetParamMm2 (sel : BitVec 8) : Option Instr :=
  match sel with
  | 0x00#8 => some .setParamMm2Cutoff
  | 0x01#8 => some .setParamMm2Q
  | 0x02#8 => some .setParamMm2PrewarpAtCutoff
  | 0x03#8 => some .setParamMm2PrewarpFreq
  | 0x04#8 => some .setParamMm2CoeffX
  | 0x05#8 => some .setParamMm2CoeffLp
  | 0x06#8 => some .setParamMm2CoeffBp
  | 0x07#8 => some .setParamMm2CoeffHp
  | _ => none

/-- The selects of opcode 0x0a on unit HP1 (R115). -/
def decodeSetParamHp1 (sel : BitVec 8) : Option Instr :=
  match sel with
  | 0x00#8 => some .setParamHp1Cutoff
  | 0x01#8 => some .setParamHp1PrewarpAtCutoff
  | 0x02#8 => some .setParamHp1PrewarpFreq
  | _ => none

/-- The selects of opcode 0x0a on unit LS1 (R115). -/
def decodeSetParamLs1 (sel : BitVec 8) : Option Instr :=
  match sel with
  | 0x00#8 => some .setParamLs1Cutoff
  | 0x01#8 => some .setParamLs1DcGainLin
  | 0x02#8 => some .setParamLs1DcGainDb
  | 0x03#8 => some .setParamLs1PrewarpAtCutoff
  | 0x04#8 => some .setParamLs1PrewarpFreq
  | _ => none

/-- The selects of opcode 0x0a on unit LS2 (R115). -/
def decodeSetParamLs2 (sel : BitVec 8) : Option Instr :=
  match sel with
  | 0x00#8 => some .setParamLs2Cutoff
  | 0x01#8 => some .setParamLs2Q
  | 0x02#8 => some .setParamLs2DcGainLin
  | 0x03#8 => some .setParamLs2DcGainDb
  | 0x04#8 => some .setParamLs2PrewarpAtCutoff
  | 0x05#8 => some .setParamLs2PrewarpFreq
  | _ => none

/-- The selects of opcode 0x0a on unit AP2 (R115). -/
def decodeSetParamAp2 (sel : BitVec 8) : Option Instr :=
  match sel with
  | 0x00#8 => some .setParamAp2Cutoff
  | 0x01#8 => some .setParamAp2Q
  | 0x02#8 => some .setParamAp2PrewarpAtCutoff
  | 0x03#8 => some .setParamAp2PrewarpFreq
  | _ => none

/-- The selects of opcode 0x0a on unit PEAK (R115). -/
def decodeSetParamPeak (sel : BitVec 8) : Option Instr :=
  match sel with
  | 0x00#8 => some .setParamPeakCutoff
  | 0x01#8 => some .setParamPeakQ
  | 0x02#8 => some .setParamPeakPeakGainLin
  | 0x03#8 => some .setParamPeakPeakGainDb
  | 0x04#8 => some .setParamPeakBandwidth
  | 0x05#8 => some .setParamPeakUseBandwidth
  | 0x06#8 => some .setParamPeakPrewarpAtCutoff
  | 0x07#8 => some .setParamPeakPrewarpFreq
  | _ => none

/-- The selects of opcode 0x0a on unit DELAY (R115). -/
def decodeSetParamDelay (sel : BitVec 8) : Option Instr :=
  match sel with
  | 0x00#8 => some .setParamDelayDelay
  | _ => none

/-- The selects of opcode 0x0a on unit REVERB (R115). -/
def decodeSetParamReverb (sel : BitVec 8) : Option Instr :=
  match sel with
  | 0x00#8 => some .setParamReverbPredelay
  | 0x01#8 => some .setParamReverbBandwidth
  | 0x02#8 => some .setParamReverbDamping
  | 0x03#8 => some .setParamReverbDecay
  | _ => none

/-- The selects of opcode 0x0a (R115): those of each unit. -/
def decodeSetParam (unit : BitVec 4) (sel : BitVec 8) : Option Instr :=
  match unit with
  | 0#4 => decodeSetParamOnepole sel
  | 1#4 => decodeSetParamMm1 sel
  | 2#4 => decodeSetParamMm2 sel
  | 3#4 => decodeSetParamHp1 sel
  | 4#4 => decodeSetParamLs1 sel
  | 5#4 => decodeSetParamLs2 sel
  | 6#4 => decodeSetParamAp2 sel
  | 7#4 => decodeSetParamPeak sel
  | 8#4 => decodeSetParamDelay sel
  | 9#4 => decodeSetParamReverb sel
  | _ => none

/-- The units opcode 0x0b accepts (R112). -/
def decodeMemReq (unit : BitVec 4) : Option Instr :=
  match unit with
  | 8#4 => some .memReqDelay
  | 9#4 => some .memReqReverb
  | _ => none

/-- The units opcode 0x0c accepts (R112). -/
def decodeMemSet (ch : BitVec 6) (unit : BitVec 4) : Option Instr :=
  match unit with
  | 8#4 => some (.memSetDelay ch)
  | 9#4 => some (.memSetReverb ch)
  | _ => none

/-- The units opcode 0x0d accepts (R112). -/
def decodeDelayRead (ch : BitVec 6) (unit : BitVec 4) : Option Instr :=
  match unit with
  | 8#4 => some (.delayReadDelay ch)
  | _ => none

/-- The units opcode 0x0e accepts (R112). -/
def decodeDelayWrite (ch : BitVec 6) (unit : BitVec 4) : Option Instr :=
  match unit with
  | 8#4 => some (.delayWriteDelay ch)
  | _ => none

/-- The selects of opcode 0x0f on unit ONEPOLE (R115). -/
def decodeReadCoefOnepole (sel : BitVec 8) : Option Instr :=
  match sel with
  | 0x01#8 => some .readCoefOnepoleCutoffUp
  | 0x02#8 => some .readCoefOnepoleCutoffDown
  | 0x06#8 => some .readCoefOnepoleStickyThresh
  | 0x07#8 => some .readCoefOnepoleStickyMode
  | 0x40#8 => some .readCoefOnepoleKExp
  | 0x41#8 => some .readCoefOnepoleAUp
  | 0x42#8 => some .readCoefOnepoleADown
  | 0x43#8 => some .readCoefOnepoleSt2
  | 0x44#8 => some .readCoefOnepoleModeAct
  | 0xf0#8 => some .readCoefOnepoleLife
  | 0xf1#8 => some .readCoefOnepoleGen
  | 0xf2#8 => some .readCoefOnepoleFs
  | 0xf3#8 => some .readCoefOnepoleDirty
  | 0xf4#8 => some .readCoefOnepoleMemreq
  | _ => none

/-- The selects of opcode 0x0f on unit MM1 (R115). -/
def decodeReadCoefMm1 (sel : BitVec 8) : Option Instr :=
  match sel with
  | 0x00#8 => some .readCoefMm1Cutoff
  | 0x01#8 => some .readCoefMm1PrewarpAtCutoff
  | 0x02#8 => some .readCoefMm1PrewarpFreq
  | 0x03#8 => some .readCoefMm1CoeffX
  | 0x04#8 => some .readCoefMm1CoeffLp
  | 0x40#8 => some .readCoefMm1KPi
  | 0x41#8 => some .readCoefMm1G
  | 0x42#8 => some .readCoefMm1G1
  | 0x43#8 => some .readCoefMm1CxAct
  | 0x44#8 => some .readCoefMm1ClpAct
  | 0xf0#8 => some .readCoefMm1Life
  | 0xf1#8 => some .readCoefMm1Gen
  | 0xf2#8 => some .readCoefMm1Fs
  | 0xf3#8 => some .readCoefMm1Dirty
  | 0xf4#8 => some .readCoefMm1Memreq
  | _ => none

/-- The selects of opcode 0x0f on unit MM2 (R115). -/
def decodeReadCoefMm2 (sel : BitVec 8) : Option Instr :=
  match sel with
  | 0x00#8 => some .readCoefMm2Cutoff
  | 0x01#8 => some .readCoefMm2Q
  | 0x02#8 => some .readCoefMm2PrewarpAtCutoff
  | 0x03#8 => some .readCoefMm2PrewarpFreq
  | 0x04#8 => some .readCoefMm2CoeffX
  | 0x05#8 => some .readCoefMm2CoeffLp
  | 0x06#8 => some .readCoefMm2CoeffBp
  | 0x07#8 => some .readCoefMm2CoeffHp
  | 0x40#8 => some .readCoefMm2KPi
  | 0x41#8 => some .readCoefMm2G
  | 0x42#8 => some .readCoefMm2K
  | 0x43#8 => some .readCoefMm2Gk
  | 0x44#8 => some .readCoefMm2HpD
  | 0x45#8 => some .readCoefMm2CxAct
  | 0x46#8 => some .readCoefMm2ClpAct
  | 0x47#8 => some .readCoefMm2CbpAct
  | 0x48#8 => some .readCoefMm2ChpAct
  | 0xf0#8 => some .readCoefMm2Life
  | 0xf1#8 => some .readCoefMm2Gen
  | 0xf2#8 => some .readCoefMm2Fs
  | 0xf3#8 => some .readCoefMm2Dirty
  | 0xf4#8 => some .readCoefMm2Memreq
  | _ => none

/-- The selects of opcode 0x0f on unit HP1 (R115). -/
def decodeReadCoefHp1 (sel : BitVec 8) : Option Instr :=
  match sel with
  | 0x00#8 => some .readCoefHp1Cutoff
  | 0x01#8 => some .readCoefHp1PrewarpAtCutoff
  | 0x02#8 => some .readCoefHp1PrewarpFreq
  | 0x80#8 => some .readCoefHp1InnerCutoff
  | 0x81#8 => some .readCoefHp1InnerPrewarpAtCutoff
  | 0x82#8 => some .readCoefHp1InnerPrewarpFreq
  | 0x83#8 => some .readCoefHp1InnerCoeffX
  | 0x84#8 => some .readCoefHp1InnerCoeffLp
  | 0xc0#8 => some .readCoefHp1InnerKPi
  | 0xc1#8 => some .readCoefHp1InnerG
  | 0xc2#8 => some .readCoefHp1InnerG1
  | 0xc3#8 => some .readCoefHp1InnerCxAct
  | 0xc4#8 => some .readCoefHp1InnerClpAct
  | 0xe0#8 => some .readCoefHp1InnerDirty
  | 0xf0#8 => some .readCoefHp1Life
  | 0xf1#8 => some .readCoefHp1Gen
  | 0xf2#8 => some .readCoefHp1Fs
  | 0xf3#8 => some .readCoefHp1Dirty
  | 0xf4#8 => some .readCoefHp1Memreq
  | _ => none

/-- The selects of opcode 0x0f on unit LS1 (R115). -/
def decodeReadCoefLs1 (sel : BitVec 8) : Option Instr :=
  match sel with
  | 0x00#8 => some .readCoefLs1Cutoff
  | 0x01#8 => some .readCoefLs1DcGainLin
  | 0x02#8 => some .readCoefLs1DcGainDb
  | 0x03#8 => some .readCoefLs1PrewarpAtCutoff
  | 0x04#8 => some .readCoefLs1PrewarpFreq
  | 0x05#8 => some .readCoefLs1GainIsDb
  | 0x40#8 => some .readCoefLs1G
  | 0x80#8 => some .readCoefLs1InnerCutoff
  | 0x81#8 => some .readCoefLs1InnerPrewarpAtCutoff
  | 0x82#8 => some .readCoefLs1InnerPrewarpFreq
  | 0x83#8 => some .readCoefLs1InnerCoeffX
  | 0x84#8 => some .readCoefLs1InnerCoeffLp
  | 0xc0#8 => some .readCoefLs1InnerKPi
  | 0xc1#8 => some .readCoefLs1InnerG
  | 0xc2#8 => some .readCoefLs1InnerG1
  | 0xc3#8 => some .readCoefLs1InnerCxAct
  | 0xc4#8 => some .readCoefLs1InnerClpAct
  | 0xe0#8 => some .readCoefLs1InnerDirty
  | 0xf0#8 => some .readCoefLs1Life
  | 0xf1#8 => some .readCoefLs1Gen
  | 0xf2#8 => some .readCoefLs1Fs
  | 0xf3#8 => some .readCoefLs1Dirty
  | 0xf4#8 => some .readCoefLs1Memreq
  | _ => none

/-- The selects of opcode 0x0f on unit LS2 (R115). -/
def decodeReadCoefLs2 (sel : BitVec 8) : Option Instr :=
  match sel with
  | 0x00#8 => some .readCoefLs2Cutoff
  | 0x01#8 => some .readCoefLs2Q
  | 0x02#8 => some .readCoefLs2DcGainLin
  | 0x03#8 => some .readCoefLs2DcGainDb
  | 0x04#8 => some .readCoefLs2PrewarpAtCutoff
  | 0x05#8 => some .readCoefLs2PrewarpFreq
  | 0x06#8 => some .readCoefLs2GainIsDb
  | 0x40#8 => some .readCoefLs2G
  | 0x41#8 => some .readCoefLs2Ki
  | 0x80#8 => some .readCoefLs2InnerCutoff
  | 0x81#8 => some .readCoefLs2InnerQ
  | 0x82#8 => some .readCoefLs2InnerPrewarpAtCutoff
  | 0x83#8 => some .readCoefLs2InnerPrewarpFreq
  | 0x84#8 => some .readCoefLs2InnerCoeffX
  | 0x85#8 => some .readCoefLs2InnerCoeffLp
  | 0x86#8 => some .readCoefLs2InnerCoeffBp
  | 0x87#8 => some .readCoefLs2InnerCoeffHp
  | 0xc0#8 => some .readCoefLs2InnerKPi
  | 0xc1#8 => some .readCoefLs2InnerG
  | 0xc2#8 => some .readCoefLs2InnerK
  | 0xc3#8 => some .readCoefLs2InnerGk
  | 0xc4#8 => some .readCoefLs2InnerHpD
  | 0xc5#8 => some .readCoefLs2InnerCxAct
  | 0xc6#8 => some .readCoefLs2InnerClpAct
  | 0xc7#8 => some .readCoefLs2InnerCbpAct
  | 0xc8#8 => some .readCoefLs2InnerChpAct
  | 0xe0#8 => some .readCoefLs2InnerDirty
  | 0xf0#8 => some .readCoefLs2Life
  | 0xf1#8 => some .readCoefLs2Gen
  | 0xf2#8 => some .readCoefLs2Fs
  | 0xf3#8 => some .readCoefLs2Dirty
  | 0xf4#8 => some .readCoefLs2Memreq
  | _ => none

/-- The selects of opcode 0x0f on unit AP2 (R115). -/
def decodeReadCoefAp2 (sel : BitVec 8) : Option Instr :=
  match sel with
  | 0x00#8 => some .readCoefAp2Cutoff
  | 0x01#8 => some .readCoefAp2Q
  | 0x02#8 => some .readCoefAp2PrewarpAtCutoff
  | 0x03#8 => some .readCoefAp2PrewarpFreq
  | 0x41#8 => some .readCoefAp2Ki
  | 0x80#8 => some .readCoefAp2InnerCutoff
  | 0x81#8 => some .readCoefAp2InnerQ
  | 0x82#8 => some .readCoefAp2InnerPrewarpAtCutoff
  | 0x83#8 => some .readCoefAp2InnerPrewarpFreq
  | 0x84#8 => some .readCoefAp2InnerCoeffX
  | 0x85#8 => some .readCoefAp2InnerCoeffLp
  | 0x86#8 => some .readCoefAp2InnerCoeffBp
  | 0x87#8 => some .readCoefAp2InnerCoeffHp
  | 0xc0#8 => some .readCoefAp2InnerKPi
  | 0xc1#8 => some .readCoefAp2InnerG
  | 0xc2#8 => some .readCoefAp2InnerK
  | 0xc3#8 => some .readCoefAp2InnerGk
  | 0xc4#8 => some .readCoefAp2InnerHpD
  | 0xc5#8 => some .readCoefAp2InnerCxAct
  | 0xc6#8 => some .readCoefAp2InnerClpAct
  | 0xc7#8 => some .readCoefAp2InnerCbpAct
  | 0xc8#8 => some .readCoefAp2InnerChpAct
  | 0xe0#8 => some .readCoefAp2InnerDirty
  | 0xf0#8 => some .readCoefAp2Life
  | 0xf1#8 => some .readCoefAp2Gen
  | 0xf2#8 => some .readCoefAp2Fs
  | 0xf3#8 => some .readCoefAp2Dirty
  | 0xf4#8 => some .readCoefAp2Memreq
  | _ => none

/-- The selects of opcode 0x0f on unit PEAK (R115). -/
def decodeReadCoefPeak (sel : BitVec 8) : Option Instr :=
  match sel with
  | 0x00#8 => some .readCoefPeakCutoff
  | 0x01#8 => some .readCoefPeakQ
  | 0x02#8 => some .readCoefPeakPeakGainLin
  | 0x03#8 => some .readCoefPeakPeakGainDb
  | 0x04#8 => some .readCoefPeakBandwidth
  | 0x05#8 => some .readCoefPeakUseBandwidth
  | 0x06#8 => some .readCoefPeakPrewarpAtCutoff
  | 0x07#8 => some .readCoefPeakPrewarpFreq
  | 0x08#8 => some .readCoefPeakGainIsDb
  | 0x40#8 => some .readCoefPeakG
  | 0x41#8 => some .readCoefPeakQu
  | 0x42#8 => some .readCoefPeakQi
  | 0x43#8 => some .readCoefPeakKi
  | 0x80#8 => some .readCoefPeakInnerCutoff
  | 0x81#8 => some .readCoefPeakInnerQ
  | 0x82#8 => some .readCoefPeakInnerPrewarpAtCutoff
  | 0x83#8 => some .readCoefPeakInnerPrewarpFreq
  | 0x84#8 => some .readCoefPeakInnerCoeffX
  | 0x85#8 => some .readCoefPeakInnerCoeffLp
  | 0x86#8 => some .readCoefPeakInnerCoeffBp
  | 0x87#8 => some .readCoefPeakInnerCoeffHp
  | 0xc0#8 => some .readCoefPeakInnerKPi
  | 0xc1#8 => some .readCoefPeakInnerG
  | 0xc2#8 => some .readCoefPeakInnerK
  | 0xc3#8 => some .readCoefPeakInnerGk
  | 0xc4#8 => some .readCoefPeakInnerHpD
  | 0xc5#8 => some .readCoefPeakInnerCxAct
  | 0xc6#8 => some .readCoefPeakInnerClpAct
  | 0xc7#8 => some .readCoefPeakInnerCbpAct
  | 0xc8#8 => some .readCoefPeakInnerChpAct
  | 0xe0#8 => some .readCoefPeakInnerDirty
  | 0xf0#8 => some .readCoefPeakLife
  | 0xf1#8 => some .readCoefPeakGen
  | 0xf2#8 => some .readCoefPeakFs
  | 0xf3#8 => some .readCoefPeakDirty
  | 0xf4#8 => some .readCoefPeakMemreq
  | _ => none

/-- The selects of opcode 0x0f on unit DELAY (R115). -/
def decodeReadCoefDelay (sel : BitVec 8) : Option Instr :=
  match sel with
  | 0x00#8 => some .readCoefDelayDelay
  | 0x01#8 => some .readCoefDelayMaxDelay
  | 0x40#8 => some .readCoefDelayLen
  | 0x41#8 => some .readCoefDelayDi
  | 0x42#8 => some .readCoefDelayDf
  | 0xf0#8 => some .readCoefDelayLife
  | 0xf1#8 => some .readCoefDelayGen
  | 0xf2#8 => some .readCoefDelayFs
  | 0xf3#8 => some .readCoefDelayDirty
  | 0xf4#8 => some .readCoefDelayMemreq
  | _ => none

/-- The selects of opcode 0x0f on unit REVERB (R115). -/
def decodeReadCoefReverb (sel : BitVec 8) : Option Instr :=
  match sel with
  | 0x00#8 => some .readCoefReverbPredelay
  | 0x01#8 => some .readCoefReverbBandwidth
  | 0x02#8 => some .readCoefReverbDamping
  | 0x03#8 => some .readCoefReverbDecay
  | 0x40#8 => some .readCoefReverbKExp
  | 0x41#8 => some .readCoefReverbABw
  | 0x42#8 => some .readCoefReverbADamp
  | 0x43#8 => some .readCoefReverbDecayG
  | 0x44#8 => some .readCoefReverbDd2g
  | 0x45#8 => some .readCoefReverbAPds
  | 0x46#8 => some .readCoefReverbSt2Pd
  | 0x47#8 => some .readCoefReverbPdTarget
  | 0x48#8 => some .readCoefReverbPdS
  | 0x49#8 => some .readCoefReverbPdN
  | 0x4a#8 => some .readCoefReverbLfoPhase
  | 0x4b#8 => some .readCoefReverbLfoInc
  | 0x4c#8 => some .readCoefReverbLfoM
  | 0x4d#8 => some .readCoefReverbExc
  | 0x4e#8 => some .readCoefReverbRatio
  | 0x4f#8 => some .readCoefReverbDi1
  | 0x50#8 => some .readCoefReverbDf1
  | 0x51#8 => some .readCoefReverbDi3
  | 0x52#8 => some .readCoefReverbDf3
  | 0x60#8 => some .readCoefReverbN1
  | 0x61#8 => some .readCoefReverbN2
  | 0x62#8 => some .readCoefReverbN3
  | 0x63#8 => some .readCoefReverbN4
  | 0x64#8 => some .readCoefReverbN5
  | 0x65#8 => some .readCoefReverbN6
  | 0x66#8 => some .readCoefReverbN7
  | 0x67#8 => some .readCoefReverbN8
  | 0x68#8 => some .readCoefReverbN9
  | 0x69#8 => some .readCoefReverbN10
  | 0x6a#8 => some .readCoefReverbN11
  | 0x6b#8 => some .readCoefReverbN12
  | 0x70#8 => some .readCoefReverbCap0
  | 0x71#8 => some .readCoefReverbCap1
  | 0x72#8 => some .readCoefReverbCap2
  | 0x73#8 => some .readCoefReverbCap3
  | 0x74#8 => some .readCoefReverbCap4
  | 0x75#8 => some .readCoefReverbCap5
  | 0x76#8 => some .readCoefReverbCap6
  | 0x77#8 => some .readCoefReverbCap7
  | 0x78#8 => some .readCoefReverbCap8
  | 0x79#8 => some .readCoefReverbCap9
  | 0x7a#8 => some .readCoefReverbCap10
  | 0x7b#8 => some .readCoefReverbCap11
  | 0x7c#8 => some .readCoefReverbCap12
  | 0x80#8 => some .readCoefReverbOff0
  | 0x81#8 => some .readCoefReverbOff1
  | 0x82#8 => some .readCoefReverbOff2
  | 0x83#8 => some .readCoefReverbOff3
  | 0x84#8 => some .readCoefReverbOff4
  | 0x85#8 => some .readCoefReverbOff5
  | 0x86#8 => some .readCoefReverbOff6
  | 0x87#8 => some .readCoefReverbOff7
  | 0x88#8 => some .readCoefReverbOff8
  | 0x89#8 => some .readCoefReverbOff9
  | 0x8a#8 => some .readCoefReverbOff10
  | 0x8b#8 => some .readCoefReverbOff11
  | 0x8c#8 => some .readCoefReverbOff12
  | 0x90#8 => some .readCoefReverbTaplK0
  | 0x91#8 => some .readCoefReverbTaplK1
  | 0x92#8 => some .readCoefReverbTaplK2
  | 0x93#8 => some .readCoefReverbTaplK3
  | 0x94#8 => some .readCoefReverbTaplK4
  | 0x95#8 => some .readCoefReverbTaplK5
  | 0x96#8 => some .readCoefReverbTaplK6
  | 0x98#8 => some .readCoefReverbTaprK0
  | 0x99#8 => some .readCoefReverbTaprK1
  | 0x9a#8 => some .readCoefReverbTaprK2
  | 0x9b#8 => some .readCoefReverbTaprK3
  | 0x9c#8 => some .readCoefReverbTaprK4
  | 0x9d#8 => some .readCoefReverbTaprK5
  | 0x9e#8 => some .readCoefReverbTaprK6
  | 0xf0#8 => some .readCoefReverbLife
  | 0xf1#8 => some .readCoefReverbGen
  | 0xf2#8 => some .readCoefReverbFs
  | 0xf3#8 => some .readCoefReverbDirty
  | 0xf4#8 => some .readCoefReverbMemreq
  | _ => none

/-- The selects of opcode 0x0f (R115): those of each unit. -/
def decodeReadCoef (unit : BitVec 4) (sel : BitVec 8) : Option Instr :=
  match unit with
  | 0#4 => decodeReadCoefOnepole sel
  | 1#4 => decodeReadCoefMm1 sel
  | 2#4 => decodeReadCoefMm2 sel
  | 3#4 => decodeReadCoefHp1 sel
  | 4#4 => decodeReadCoefLs1 sel
  | 5#4 => decodeReadCoefLs2 sel
  | 6#4 => decodeReadCoefAp2 sel
  | 7#4 => decodeReadCoefPeak sel
  | 8#4 => decodeReadCoefDelay sel
  | 9#4 => decodeReadCoefReverb sel
  | _ => none

/-- The selects of opcode 0x10 on unit ONEPOLE (R115). -/
def decodeReadStateOnepole (ch : BitVec 6) (sel : BitVec 8) : Option Instr :=
  match sel with
  | 0x00#8 => some (.readStateOnepoleYZ1 ch)
  | 0xf0#8 => some (.readStateOnepoleStValid ch)
  | _ => none

/-- The selects of opcode 0x10 on unit MM1 (R115). -/
def decodeReadStateMm1 (ch : BitVec 6) (sel : BitVec 8) : Option Instr :=
  match sel with
  | 0x00#8 => some (.readStateMm1S ch)
  | 0xf0#8 => some (.readStateMm1StValid ch)
  | _ => none

/-- The selects of opcode 0x10 on unit MM2 (R115). -/
def decodeReadStateMm2 (ch : BitVec 6) (sel : BitVec 8) : Option Instr :=
  match sel with
  | 0x00#8 => some (.readStateMm2S1 ch)
  | 0x01#8 => some (.readStateMm2S2 ch)
  | 0xf0#8 => some (.readStateMm2StValid ch)
  | _ => none

/-- The selects of opcode 0x10 on unit HP1 (R115). -/
def decodeReadStateHp1 (ch : BitVec 6) (sel : BitVec 8) : Option Instr :=
  match sel with
  | 0x00#8 => some (.readStateHp1S ch)
  | 0xf0#8 => some (.readStateHp1StValid ch)
  | _ => none

/-- The selects of opcode 0x10 on unit LS1 (R115). -/
def decodeReadStateLs1 (ch : BitVec 6) (sel : BitVec 8) : Option Instr :=
  match sel with
  | 0x00#8 => some (.readStateLs1S ch)
  | 0xf0#8 => some (.readStateLs1StValid ch)
  | _ => none

/-- The selects of opcode 0x10 on unit LS2 (R115). -/
def decodeReadStateLs2 (ch : BitVec 6) (sel : BitVec 8) : Option Instr :=
  match sel with
  | 0x00#8 => some (.readStateLs2S1 ch)
  | 0x01#8 => some (.readStateLs2S2 ch)
  | 0xf0#8 => some (.readStateLs2StValid ch)
  | _ => none

/-- The selects of opcode 0x10 on unit AP2 (R115). -/
def decodeReadStateAp2 (ch : BitVec 6) (sel : BitVec 8) : Option Instr :=
  match sel with
  | 0x00#8 => some (.readStateAp2S1 ch)
  | 0x01#8 => some (.readStateAp2S2 ch)
  | 0xf0#8 => some (.readStateAp2StValid ch)
  | _ => none

/-- The selects of opcode 0x10 on unit PEAK (R115). -/
def decodeReadStatePeak (ch : BitVec 6) (sel : BitVec 8) : Option Instr :=
  match sel with
  | 0x00#8 => some (.readStatePeakS1 ch)
  | 0x01#8 => some (.readStatePeakS2 ch)
  | 0xf0#8 => some (.readStatePeakStValid ch)
  | _ => none

/-- The selects of opcode 0x10 on unit DELAY (R115). -/
def decodeReadStateDelay (ch : BitVec 6) (sel : BitVec 8) : Option Instr :=
  match sel with
  | 0x00#8 => some (.readStateDelayW ch)
  | 0xf0#8 => some (.readStateDelayStValid ch)
  | 0xf1#8 => some (.readStateDelayMemBound ch)
  | 0xf2#8 => some (.readStateDelayMemBase ch)
  | _ => none

/-- The selects of opcode 0x10 on unit REVERB (R115). -/
def decodeReadStateReverb (ch : BitVec 6) (sel : BitVec 8) : Option Instr :=
  match sel with
  | 0x00#8 => some (.readStateReverbBwZ1 ch)
  | 0x01#8 => some (.readStateReverbDlZ1 ch)
  | 0x02#8 => some (.readStateReverbDrZ1 ch)
  | 0x10#8 => some (.readStateReverbW0 ch)
  | 0x11#8 => some (.readStateReverbW1 ch)
  | 0x12#8 => some (.readStateReverbW2 ch)
  | 0x13#8 => some (.readStateReverbW3 ch)
  | 0x14#8 => some (.readStateReverbW4 ch)
  | 0x15#8 => some (.readStateReverbW5 ch)
  | 0x16#8 => some (.readStateReverbW6 ch)
  | 0x17#8 => some (.readStateReverbW7 ch)
  | 0x18#8 => some (.readStateReverbW8 ch)
  | 0x19#8 => some (.readStateReverbW9 ch)
  | 0x1a#8 => some (.readStateReverbW10 ch)
  | 0x1b#8 => some (.readStateReverbW11 ch)
  | 0x1c#8 => some (.readStateReverbW12 ch)
  | 0xf0#8 => some (.readStateReverbStValid ch)
  | 0xf1#8 => some (.readStateReverbMemBound ch)
  | 0xf2#8 => some (.readStateReverbMemBase ch)
  | _ => none

/-- The selects of opcode 0x10 (R115): those of each unit. -/
def decodeReadState (ch : BitVec 6) (unit : BitVec 4) (sel : BitVec 8) : Option Instr :=
  match unit with
  | 0#4 => decodeReadStateOnepole ch sel
  | 1#4 => decodeReadStateMm1 ch sel
  | 2#4 => decodeReadStateMm2 ch sel
  | 3#4 => decodeReadStateHp1 ch sel
  | 4#4 => decodeReadStateLs1 ch sel
  | 5#4 => decodeReadStateLs2 ch sel
  | 6#4 => decodeReadStateAp2 ch sel
  | 7#4 => decodeReadStatePeak ch sel
  | 8#4 => decodeReadStateDelay ch sel
  | 9#4 => decodeReadStateReverb ch sel
  | _ => none

/-- The command of legal fields (R112, R115): `none` where the opcode does not accept the unit or the select. -/
def decodeOp (f : CmdFields) : Option Instr :=
  match f.opc with
  | 0x00#6 => decodeNop f.unit
  | 0x01#6 => decodeInit f.unit
  | 0x02#6 => decodeSetSr f.unit
  | 0x03#6 => decodeResetCoeffs f.unit
  | 0x04#6 => decodeResetState f.ch f.unit
  | 0x05#6 => decodeUpdateCtrl f.unit
  | 0x06#6 => decodeUpdateAudio f.unit
  | 0x07#6 => decodeProcess1 f.ch f.unit
  | 0x08#6 => decodeProcess f.ch f.unit
  | 0x09#6 => decodeProcessMulti f.unit
  | 0x0a#6 => decodeSetParam f.unit f.sel
  | 0x0b#6 => decodeMemReq f.unit
  | 0x0c#6 => decodeMemSet f.ch f.unit
  | 0x0d#6 => decodeDelayRead f.ch f.unit
  | 0x0e#6 => decodeDelayWrite f.ch f.unit
  | 0x0f#6 => decodeReadCoef f.unit f.sel
  | 0x10#6 => decodeReadState f.ch f.unit f.sel
  | _ => none

/-- Which item of R116 an opcode that does not accept its unit or select breaks. -/
def rejectOp (f : CmdFields) : Illegal :=
  if 0x10 < f.opc.toNat then .reservedOpcode
  else if 9 < f.unit.toNat then .reservedUnit
  else if f.opc == 0x0A then .notParameter
  else if f.opc == 0x0F || f.opc == 0x10 then .notRegister
  else .unitNotAccepted

/-- The command of five fields, or the item of R116 they break. -/
def decodeFields (f : CmdFields) : Except Illegal Instr :=
  if f.zero ≠ 0 then .error .zeroField
  else if usesCh f.opc = false ∧ f.ch ≠ 0 then .error .chNotZero
  else if usesSel f.opc = false ∧ f.sel ≠ 0 then .error .selNotZero
  else match decodeOp f with
    | some i => .ok i
    | none => .error (rejectOp f)

/-- The decoder (R116, R118): total on every 32-bit word. -/
def decode (w : Word) : Except Illegal Instr := decodeFields (unpackCmd w)

/-- The fields of a command's word (R111 to R113, R115). -/
def Instr.fields : Instr → CmdFields
  | .nop => ⟨0x00, 0, 0, 0x00, 0⟩
  | .initOnepole => ⟨0x01, 0, 0, 0x00, 0⟩
  | .setSrOnepole => ⟨0x02, 0, 0, 0x00, 0⟩
  | .resetCoeffsOnepole => ⟨0x03, 0, 0, 0x00, 0⟩
  | .resetStateOnepole ch => ⟨0x04, 0, ch, 0x00, 0⟩
  | .updateCtrlOnepole => ⟨0x05, 0, 0, 0x00, 0⟩
  | .updateAudioOnepole => ⟨0x06, 0, 0, 0x00, 0⟩
  | .process1Onepole ch => ⟨0x07, 0, ch, 0x00, 0⟩
  | .processOnepole ch => ⟨0x08, 0, ch, 0x00, 0⟩
  | .processMultiOnepole => ⟨0x09, 0, 0, 0x00, 0⟩
  | .setParamOnepoleCutoff => ⟨0x0a, 0, 0, 0x00, 0⟩
  | .setParamOnepoleCutoffUp => ⟨0x0a, 0, 0, 0x01, 0⟩
  | .setParamOnepoleCutoffDown => ⟨0x0a, 0, 0, 0x02, 0⟩
  | .setParamOnepoleTau => ⟨0x0a, 0, 0, 0x03, 0⟩
  | .setParamOnepoleTauUp => ⟨0x0a, 0, 0, 0x04, 0⟩
  | .setParamOnepoleTauDown => ⟨0x0a, 0, 0, 0x05, 0⟩
  | .setParamOnepoleStickyThresh => ⟨0x0a, 0, 0, 0x06, 0⟩
  | .setParamOnepoleStickyMode => ⟨0x0a, 0, 0, 0x07, 0⟩
  | .readCoefOnepoleCutoffUp => ⟨0x0f, 0, 0, 0x01, 0⟩
  | .readCoefOnepoleCutoffDown => ⟨0x0f, 0, 0, 0x02, 0⟩
  | .readCoefOnepoleStickyThresh => ⟨0x0f, 0, 0, 0x06, 0⟩
  | .readCoefOnepoleStickyMode => ⟨0x0f, 0, 0, 0x07, 0⟩
  | .readCoefOnepoleKExp => ⟨0x0f, 0, 0, 0x40, 0⟩
  | .readCoefOnepoleAUp => ⟨0x0f, 0, 0, 0x41, 0⟩
  | .readCoefOnepoleADown => ⟨0x0f, 0, 0, 0x42, 0⟩
  | .readCoefOnepoleSt2 => ⟨0x0f, 0, 0, 0x43, 0⟩
  | .readCoefOnepoleModeAct => ⟨0x0f, 0, 0, 0x44, 0⟩
  | .readCoefOnepoleLife => ⟨0x0f, 0, 0, 0xf0, 0⟩
  | .readCoefOnepoleGen => ⟨0x0f, 0, 0, 0xf1, 0⟩
  | .readCoefOnepoleFs => ⟨0x0f, 0, 0, 0xf2, 0⟩
  | .readCoefOnepoleDirty => ⟨0x0f, 0, 0, 0xf3, 0⟩
  | .readCoefOnepoleMemreq => ⟨0x0f, 0, 0, 0xf4, 0⟩
  | .readStateOnepoleYZ1 ch => ⟨0x10, 0, ch, 0x00, 0⟩
  | .readStateOnepoleStValid ch => ⟨0x10, 0, ch, 0xf0, 0⟩
  | .initMm1 => ⟨0x01, 1, 0, 0x00, 0⟩
  | .setSrMm1 => ⟨0x02, 1, 0, 0x00, 0⟩
  | .resetCoeffsMm1 => ⟨0x03, 1, 0, 0x00, 0⟩
  | .resetStateMm1 ch => ⟨0x04, 1, ch, 0x00, 0⟩
  | .updateCtrlMm1 => ⟨0x05, 1, 0, 0x00, 0⟩
  | .updateAudioMm1 => ⟨0x06, 1, 0, 0x00, 0⟩
  | .process1Mm1 ch => ⟨0x07, 1, ch, 0x00, 0⟩
  | .processMm1 ch => ⟨0x08, 1, ch, 0x00, 0⟩
  | .processMultiMm1 => ⟨0x09, 1, 0, 0x00, 0⟩
  | .setParamMm1Cutoff => ⟨0x0a, 1, 0, 0x00, 0⟩
  | .setParamMm1PrewarpAtCutoff => ⟨0x0a, 1, 0, 0x01, 0⟩
  | .setParamMm1PrewarpFreq => ⟨0x0a, 1, 0, 0x02, 0⟩
  | .setParamMm1CoeffX => ⟨0x0a, 1, 0, 0x03, 0⟩
  | .setParamMm1CoeffLp => ⟨0x0a, 1, 0, 0x04, 0⟩
  | .readCoefMm1Cutoff => ⟨0x0f, 1, 0, 0x00, 0⟩
  | .readCoefMm1PrewarpAtCutoff => ⟨0x0f, 1, 0, 0x01, 0⟩
  | .readCoefMm1PrewarpFreq => ⟨0x0f, 1, 0, 0x02, 0⟩
  | .readCoefMm1CoeffX => ⟨0x0f, 1, 0, 0x03, 0⟩
  | .readCoefMm1CoeffLp => ⟨0x0f, 1, 0, 0x04, 0⟩
  | .readCoefMm1KPi => ⟨0x0f, 1, 0, 0x40, 0⟩
  | .readCoefMm1G => ⟨0x0f, 1, 0, 0x41, 0⟩
  | .readCoefMm1G1 => ⟨0x0f, 1, 0, 0x42, 0⟩
  | .readCoefMm1CxAct => ⟨0x0f, 1, 0, 0x43, 0⟩
  | .readCoefMm1ClpAct => ⟨0x0f, 1, 0, 0x44, 0⟩
  | .readCoefMm1Life => ⟨0x0f, 1, 0, 0xf0, 0⟩
  | .readCoefMm1Gen => ⟨0x0f, 1, 0, 0xf1, 0⟩
  | .readCoefMm1Fs => ⟨0x0f, 1, 0, 0xf2, 0⟩
  | .readCoefMm1Dirty => ⟨0x0f, 1, 0, 0xf3, 0⟩
  | .readCoefMm1Memreq => ⟨0x0f, 1, 0, 0xf4, 0⟩
  | .readStateMm1S ch => ⟨0x10, 1, ch, 0x00, 0⟩
  | .readStateMm1StValid ch => ⟨0x10, 1, ch, 0xf0, 0⟩
  | .initMm2 => ⟨0x01, 2, 0, 0x00, 0⟩
  | .setSrMm2 => ⟨0x02, 2, 0, 0x00, 0⟩
  | .resetCoeffsMm2 => ⟨0x03, 2, 0, 0x00, 0⟩
  | .resetStateMm2 ch => ⟨0x04, 2, ch, 0x00, 0⟩
  | .updateCtrlMm2 => ⟨0x05, 2, 0, 0x00, 0⟩
  | .updateAudioMm2 => ⟨0x06, 2, 0, 0x00, 0⟩
  | .process1Mm2 ch => ⟨0x07, 2, ch, 0x00, 0⟩
  | .processMm2 ch => ⟨0x08, 2, ch, 0x00, 0⟩
  | .processMultiMm2 => ⟨0x09, 2, 0, 0x00, 0⟩
  | .setParamMm2Cutoff => ⟨0x0a, 2, 0, 0x00, 0⟩
  | .setParamMm2Q => ⟨0x0a, 2, 0, 0x01, 0⟩
  | .setParamMm2PrewarpAtCutoff => ⟨0x0a, 2, 0, 0x02, 0⟩
  | .setParamMm2PrewarpFreq => ⟨0x0a, 2, 0, 0x03, 0⟩
  | .setParamMm2CoeffX => ⟨0x0a, 2, 0, 0x04, 0⟩
  | .setParamMm2CoeffLp => ⟨0x0a, 2, 0, 0x05, 0⟩
  | .setParamMm2CoeffBp => ⟨0x0a, 2, 0, 0x06, 0⟩
  | .setParamMm2CoeffHp => ⟨0x0a, 2, 0, 0x07, 0⟩
  | .readCoefMm2Cutoff => ⟨0x0f, 2, 0, 0x00, 0⟩
  | .readCoefMm2Q => ⟨0x0f, 2, 0, 0x01, 0⟩
  | .readCoefMm2PrewarpAtCutoff => ⟨0x0f, 2, 0, 0x02, 0⟩
  | .readCoefMm2PrewarpFreq => ⟨0x0f, 2, 0, 0x03, 0⟩
  | .readCoefMm2CoeffX => ⟨0x0f, 2, 0, 0x04, 0⟩
  | .readCoefMm2CoeffLp => ⟨0x0f, 2, 0, 0x05, 0⟩
  | .readCoefMm2CoeffBp => ⟨0x0f, 2, 0, 0x06, 0⟩
  | .readCoefMm2CoeffHp => ⟨0x0f, 2, 0, 0x07, 0⟩
  | .readCoefMm2KPi => ⟨0x0f, 2, 0, 0x40, 0⟩
  | .readCoefMm2G => ⟨0x0f, 2, 0, 0x41, 0⟩
  | .readCoefMm2K => ⟨0x0f, 2, 0, 0x42, 0⟩
  | .readCoefMm2Gk => ⟨0x0f, 2, 0, 0x43, 0⟩
  | .readCoefMm2HpD => ⟨0x0f, 2, 0, 0x44, 0⟩
  | .readCoefMm2CxAct => ⟨0x0f, 2, 0, 0x45, 0⟩
  | .readCoefMm2ClpAct => ⟨0x0f, 2, 0, 0x46, 0⟩
  | .readCoefMm2CbpAct => ⟨0x0f, 2, 0, 0x47, 0⟩
  | .readCoefMm2ChpAct => ⟨0x0f, 2, 0, 0x48, 0⟩
  | .readCoefMm2Life => ⟨0x0f, 2, 0, 0xf0, 0⟩
  | .readCoefMm2Gen => ⟨0x0f, 2, 0, 0xf1, 0⟩
  | .readCoefMm2Fs => ⟨0x0f, 2, 0, 0xf2, 0⟩
  | .readCoefMm2Dirty => ⟨0x0f, 2, 0, 0xf3, 0⟩
  | .readCoefMm2Memreq => ⟨0x0f, 2, 0, 0xf4, 0⟩
  | .readStateMm2S1 ch => ⟨0x10, 2, ch, 0x00, 0⟩
  | .readStateMm2S2 ch => ⟨0x10, 2, ch, 0x01, 0⟩
  | .readStateMm2StValid ch => ⟨0x10, 2, ch, 0xf0, 0⟩
  | .initHp1 => ⟨0x01, 3, 0, 0x00, 0⟩
  | .setSrHp1 => ⟨0x02, 3, 0, 0x00, 0⟩
  | .resetCoeffsHp1 => ⟨0x03, 3, 0, 0x00, 0⟩
  | .resetStateHp1 ch => ⟨0x04, 3, ch, 0x00, 0⟩
  | .updateCtrlHp1 => ⟨0x05, 3, 0, 0x00, 0⟩
  | .updateAudioHp1 => ⟨0x06, 3, 0, 0x00, 0⟩
  | .process1Hp1 ch => ⟨0x07, 3, ch, 0x00, 0⟩
  | .processHp1 ch => ⟨0x08, 3, ch, 0x00, 0⟩
  | .processMultiHp1 => ⟨0x09, 3, 0, 0x00, 0⟩
  | .setParamHp1Cutoff => ⟨0x0a, 3, 0, 0x00, 0⟩
  | .setParamHp1PrewarpAtCutoff => ⟨0x0a, 3, 0, 0x01, 0⟩
  | .setParamHp1PrewarpFreq => ⟨0x0a, 3, 0, 0x02, 0⟩
  | .readCoefHp1Cutoff => ⟨0x0f, 3, 0, 0x00, 0⟩
  | .readCoefHp1PrewarpAtCutoff => ⟨0x0f, 3, 0, 0x01, 0⟩
  | .readCoefHp1PrewarpFreq => ⟨0x0f, 3, 0, 0x02, 0⟩
  | .readCoefHp1InnerCutoff => ⟨0x0f, 3, 0, 0x80, 0⟩
  | .readCoefHp1InnerPrewarpAtCutoff => ⟨0x0f, 3, 0, 0x81, 0⟩
  | .readCoefHp1InnerPrewarpFreq => ⟨0x0f, 3, 0, 0x82, 0⟩
  | .readCoefHp1InnerCoeffX => ⟨0x0f, 3, 0, 0x83, 0⟩
  | .readCoefHp1InnerCoeffLp => ⟨0x0f, 3, 0, 0x84, 0⟩
  | .readCoefHp1InnerKPi => ⟨0x0f, 3, 0, 0xc0, 0⟩
  | .readCoefHp1InnerG => ⟨0x0f, 3, 0, 0xc1, 0⟩
  | .readCoefHp1InnerG1 => ⟨0x0f, 3, 0, 0xc2, 0⟩
  | .readCoefHp1InnerCxAct => ⟨0x0f, 3, 0, 0xc3, 0⟩
  | .readCoefHp1InnerClpAct => ⟨0x0f, 3, 0, 0xc4, 0⟩
  | .readCoefHp1InnerDirty => ⟨0x0f, 3, 0, 0xe0, 0⟩
  | .readCoefHp1Life => ⟨0x0f, 3, 0, 0xf0, 0⟩
  | .readCoefHp1Gen => ⟨0x0f, 3, 0, 0xf1, 0⟩
  | .readCoefHp1Fs => ⟨0x0f, 3, 0, 0xf2, 0⟩
  | .readCoefHp1Dirty => ⟨0x0f, 3, 0, 0xf3, 0⟩
  | .readCoefHp1Memreq => ⟨0x0f, 3, 0, 0xf4, 0⟩
  | .readStateHp1S ch => ⟨0x10, 3, ch, 0x00, 0⟩
  | .readStateHp1StValid ch => ⟨0x10, 3, ch, 0xf0, 0⟩
  | .initLs1 => ⟨0x01, 4, 0, 0x00, 0⟩
  | .setSrLs1 => ⟨0x02, 4, 0, 0x00, 0⟩
  | .resetCoeffsLs1 => ⟨0x03, 4, 0, 0x00, 0⟩
  | .resetStateLs1 ch => ⟨0x04, 4, ch, 0x00, 0⟩
  | .updateCtrlLs1 => ⟨0x05, 4, 0, 0x00, 0⟩
  | .updateAudioLs1 => ⟨0x06, 4, 0, 0x00, 0⟩
  | .process1Ls1 ch => ⟨0x07, 4, ch, 0x00, 0⟩
  | .processLs1 ch => ⟨0x08, 4, ch, 0x00, 0⟩
  | .processMultiLs1 => ⟨0x09, 4, 0, 0x00, 0⟩
  | .setParamLs1Cutoff => ⟨0x0a, 4, 0, 0x00, 0⟩
  | .setParamLs1DcGainLin => ⟨0x0a, 4, 0, 0x01, 0⟩
  | .setParamLs1DcGainDb => ⟨0x0a, 4, 0, 0x02, 0⟩
  | .setParamLs1PrewarpAtCutoff => ⟨0x0a, 4, 0, 0x03, 0⟩
  | .setParamLs1PrewarpFreq => ⟨0x0a, 4, 0, 0x04, 0⟩
  | .readCoefLs1Cutoff => ⟨0x0f, 4, 0, 0x00, 0⟩
  | .readCoefLs1DcGainLin => ⟨0x0f, 4, 0, 0x01, 0⟩
  | .readCoefLs1DcGainDb => ⟨0x0f, 4, 0, 0x02, 0⟩
  | .readCoefLs1PrewarpAtCutoff => ⟨0x0f, 4, 0, 0x03, 0⟩
  | .readCoefLs1PrewarpFreq => ⟨0x0f, 4, 0, 0x04, 0⟩
  | .readCoefLs1GainIsDb => ⟨0x0f, 4, 0, 0x05, 0⟩
  | .readCoefLs1G => ⟨0x0f, 4, 0, 0x40, 0⟩
  | .readCoefLs1InnerCutoff => ⟨0x0f, 4, 0, 0x80, 0⟩
  | .readCoefLs1InnerPrewarpAtCutoff => ⟨0x0f, 4, 0, 0x81, 0⟩
  | .readCoefLs1InnerPrewarpFreq => ⟨0x0f, 4, 0, 0x82, 0⟩
  | .readCoefLs1InnerCoeffX => ⟨0x0f, 4, 0, 0x83, 0⟩
  | .readCoefLs1InnerCoeffLp => ⟨0x0f, 4, 0, 0x84, 0⟩
  | .readCoefLs1InnerKPi => ⟨0x0f, 4, 0, 0xc0, 0⟩
  | .readCoefLs1InnerG => ⟨0x0f, 4, 0, 0xc1, 0⟩
  | .readCoefLs1InnerG1 => ⟨0x0f, 4, 0, 0xc2, 0⟩
  | .readCoefLs1InnerCxAct => ⟨0x0f, 4, 0, 0xc3, 0⟩
  | .readCoefLs1InnerClpAct => ⟨0x0f, 4, 0, 0xc4, 0⟩
  | .readCoefLs1InnerDirty => ⟨0x0f, 4, 0, 0xe0, 0⟩
  | .readCoefLs1Life => ⟨0x0f, 4, 0, 0xf0, 0⟩
  | .readCoefLs1Gen => ⟨0x0f, 4, 0, 0xf1, 0⟩
  | .readCoefLs1Fs => ⟨0x0f, 4, 0, 0xf2, 0⟩
  | .readCoefLs1Dirty => ⟨0x0f, 4, 0, 0xf3, 0⟩
  | .readCoefLs1Memreq => ⟨0x0f, 4, 0, 0xf4, 0⟩
  | .readStateLs1S ch => ⟨0x10, 4, ch, 0x00, 0⟩
  | .readStateLs1StValid ch => ⟨0x10, 4, ch, 0xf0, 0⟩
  | .initLs2 => ⟨0x01, 5, 0, 0x00, 0⟩
  | .setSrLs2 => ⟨0x02, 5, 0, 0x00, 0⟩
  | .resetCoeffsLs2 => ⟨0x03, 5, 0, 0x00, 0⟩
  | .resetStateLs2 ch => ⟨0x04, 5, ch, 0x00, 0⟩
  | .updateCtrlLs2 => ⟨0x05, 5, 0, 0x00, 0⟩
  | .updateAudioLs2 => ⟨0x06, 5, 0, 0x00, 0⟩
  | .process1Ls2 ch => ⟨0x07, 5, ch, 0x00, 0⟩
  | .processLs2 ch => ⟨0x08, 5, ch, 0x00, 0⟩
  | .processMultiLs2 => ⟨0x09, 5, 0, 0x00, 0⟩
  | .setParamLs2Cutoff => ⟨0x0a, 5, 0, 0x00, 0⟩
  | .setParamLs2Q => ⟨0x0a, 5, 0, 0x01, 0⟩
  | .setParamLs2DcGainLin => ⟨0x0a, 5, 0, 0x02, 0⟩
  | .setParamLs2DcGainDb => ⟨0x0a, 5, 0, 0x03, 0⟩
  | .setParamLs2PrewarpAtCutoff => ⟨0x0a, 5, 0, 0x04, 0⟩
  | .setParamLs2PrewarpFreq => ⟨0x0a, 5, 0, 0x05, 0⟩
  | .readCoefLs2Cutoff => ⟨0x0f, 5, 0, 0x00, 0⟩
  | .readCoefLs2Q => ⟨0x0f, 5, 0, 0x01, 0⟩
  | .readCoefLs2DcGainLin => ⟨0x0f, 5, 0, 0x02, 0⟩
  | .readCoefLs2DcGainDb => ⟨0x0f, 5, 0, 0x03, 0⟩
  | .readCoefLs2PrewarpAtCutoff => ⟨0x0f, 5, 0, 0x04, 0⟩
  | .readCoefLs2PrewarpFreq => ⟨0x0f, 5, 0, 0x05, 0⟩
  | .readCoefLs2GainIsDb => ⟨0x0f, 5, 0, 0x06, 0⟩
  | .readCoefLs2G => ⟨0x0f, 5, 0, 0x40, 0⟩
  | .readCoefLs2Ki => ⟨0x0f, 5, 0, 0x41, 0⟩
  | .readCoefLs2InnerCutoff => ⟨0x0f, 5, 0, 0x80, 0⟩
  | .readCoefLs2InnerQ => ⟨0x0f, 5, 0, 0x81, 0⟩
  | .readCoefLs2InnerPrewarpAtCutoff => ⟨0x0f, 5, 0, 0x82, 0⟩
  | .readCoefLs2InnerPrewarpFreq => ⟨0x0f, 5, 0, 0x83, 0⟩
  | .readCoefLs2InnerCoeffX => ⟨0x0f, 5, 0, 0x84, 0⟩
  | .readCoefLs2InnerCoeffLp => ⟨0x0f, 5, 0, 0x85, 0⟩
  | .readCoefLs2InnerCoeffBp => ⟨0x0f, 5, 0, 0x86, 0⟩
  | .readCoefLs2InnerCoeffHp => ⟨0x0f, 5, 0, 0x87, 0⟩
  | .readCoefLs2InnerKPi => ⟨0x0f, 5, 0, 0xc0, 0⟩
  | .readCoefLs2InnerG => ⟨0x0f, 5, 0, 0xc1, 0⟩
  | .readCoefLs2InnerK => ⟨0x0f, 5, 0, 0xc2, 0⟩
  | .readCoefLs2InnerGk => ⟨0x0f, 5, 0, 0xc3, 0⟩
  | .readCoefLs2InnerHpD => ⟨0x0f, 5, 0, 0xc4, 0⟩
  | .readCoefLs2InnerCxAct => ⟨0x0f, 5, 0, 0xc5, 0⟩
  | .readCoefLs2InnerClpAct => ⟨0x0f, 5, 0, 0xc6, 0⟩
  | .readCoefLs2InnerCbpAct => ⟨0x0f, 5, 0, 0xc7, 0⟩
  | .readCoefLs2InnerChpAct => ⟨0x0f, 5, 0, 0xc8, 0⟩
  | .readCoefLs2InnerDirty => ⟨0x0f, 5, 0, 0xe0, 0⟩
  | .readCoefLs2Life => ⟨0x0f, 5, 0, 0xf0, 0⟩
  | .readCoefLs2Gen => ⟨0x0f, 5, 0, 0xf1, 0⟩
  | .readCoefLs2Fs => ⟨0x0f, 5, 0, 0xf2, 0⟩
  | .readCoefLs2Dirty => ⟨0x0f, 5, 0, 0xf3, 0⟩
  | .readCoefLs2Memreq => ⟨0x0f, 5, 0, 0xf4, 0⟩
  | .readStateLs2S1 ch => ⟨0x10, 5, ch, 0x00, 0⟩
  | .readStateLs2S2 ch => ⟨0x10, 5, ch, 0x01, 0⟩
  | .readStateLs2StValid ch => ⟨0x10, 5, ch, 0xf0, 0⟩
  | .initAp2 => ⟨0x01, 6, 0, 0x00, 0⟩
  | .setSrAp2 => ⟨0x02, 6, 0, 0x00, 0⟩
  | .resetCoeffsAp2 => ⟨0x03, 6, 0, 0x00, 0⟩
  | .resetStateAp2 ch => ⟨0x04, 6, ch, 0x00, 0⟩
  | .updateCtrlAp2 => ⟨0x05, 6, 0, 0x00, 0⟩
  | .updateAudioAp2 => ⟨0x06, 6, 0, 0x00, 0⟩
  | .process1Ap2 ch => ⟨0x07, 6, ch, 0x00, 0⟩
  | .processAp2 ch => ⟨0x08, 6, ch, 0x00, 0⟩
  | .processMultiAp2 => ⟨0x09, 6, 0, 0x00, 0⟩
  | .setParamAp2Cutoff => ⟨0x0a, 6, 0, 0x00, 0⟩
  | .setParamAp2Q => ⟨0x0a, 6, 0, 0x01, 0⟩
  | .setParamAp2PrewarpAtCutoff => ⟨0x0a, 6, 0, 0x02, 0⟩
  | .setParamAp2PrewarpFreq => ⟨0x0a, 6, 0, 0x03, 0⟩
  | .readCoefAp2Cutoff => ⟨0x0f, 6, 0, 0x00, 0⟩
  | .readCoefAp2Q => ⟨0x0f, 6, 0, 0x01, 0⟩
  | .readCoefAp2PrewarpAtCutoff => ⟨0x0f, 6, 0, 0x02, 0⟩
  | .readCoefAp2PrewarpFreq => ⟨0x0f, 6, 0, 0x03, 0⟩
  | .readCoefAp2Ki => ⟨0x0f, 6, 0, 0x41, 0⟩
  | .readCoefAp2InnerCutoff => ⟨0x0f, 6, 0, 0x80, 0⟩
  | .readCoefAp2InnerQ => ⟨0x0f, 6, 0, 0x81, 0⟩
  | .readCoefAp2InnerPrewarpAtCutoff => ⟨0x0f, 6, 0, 0x82, 0⟩
  | .readCoefAp2InnerPrewarpFreq => ⟨0x0f, 6, 0, 0x83, 0⟩
  | .readCoefAp2InnerCoeffX => ⟨0x0f, 6, 0, 0x84, 0⟩
  | .readCoefAp2InnerCoeffLp => ⟨0x0f, 6, 0, 0x85, 0⟩
  | .readCoefAp2InnerCoeffBp => ⟨0x0f, 6, 0, 0x86, 0⟩
  | .readCoefAp2InnerCoeffHp => ⟨0x0f, 6, 0, 0x87, 0⟩
  | .readCoefAp2InnerKPi => ⟨0x0f, 6, 0, 0xc0, 0⟩
  | .readCoefAp2InnerG => ⟨0x0f, 6, 0, 0xc1, 0⟩
  | .readCoefAp2InnerK => ⟨0x0f, 6, 0, 0xc2, 0⟩
  | .readCoefAp2InnerGk => ⟨0x0f, 6, 0, 0xc3, 0⟩
  | .readCoefAp2InnerHpD => ⟨0x0f, 6, 0, 0xc4, 0⟩
  | .readCoefAp2InnerCxAct => ⟨0x0f, 6, 0, 0xc5, 0⟩
  | .readCoefAp2InnerClpAct => ⟨0x0f, 6, 0, 0xc6, 0⟩
  | .readCoefAp2InnerCbpAct => ⟨0x0f, 6, 0, 0xc7, 0⟩
  | .readCoefAp2InnerChpAct => ⟨0x0f, 6, 0, 0xc8, 0⟩
  | .readCoefAp2InnerDirty => ⟨0x0f, 6, 0, 0xe0, 0⟩
  | .readCoefAp2Life => ⟨0x0f, 6, 0, 0xf0, 0⟩
  | .readCoefAp2Gen => ⟨0x0f, 6, 0, 0xf1, 0⟩
  | .readCoefAp2Fs => ⟨0x0f, 6, 0, 0xf2, 0⟩
  | .readCoefAp2Dirty => ⟨0x0f, 6, 0, 0xf3, 0⟩
  | .readCoefAp2Memreq => ⟨0x0f, 6, 0, 0xf4, 0⟩
  | .readStateAp2S1 ch => ⟨0x10, 6, ch, 0x00, 0⟩
  | .readStateAp2S2 ch => ⟨0x10, 6, ch, 0x01, 0⟩
  | .readStateAp2StValid ch => ⟨0x10, 6, ch, 0xf0, 0⟩
  | .initPeak => ⟨0x01, 7, 0, 0x00, 0⟩
  | .setSrPeak => ⟨0x02, 7, 0, 0x00, 0⟩
  | .resetCoeffsPeak => ⟨0x03, 7, 0, 0x00, 0⟩
  | .resetStatePeak ch => ⟨0x04, 7, ch, 0x00, 0⟩
  | .updateCtrlPeak => ⟨0x05, 7, 0, 0x00, 0⟩
  | .updateAudioPeak => ⟨0x06, 7, 0, 0x00, 0⟩
  | .process1Peak ch => ⟨0x07, 7, ch, 0x00, 0⟩
  | .processPeak ch => ⟨0x08, 7, ch, 0x00, 0⟩
  | .processMultiPeak => ⟨0x09, 7, 0, 0x00, 0⟩
  | .setParamPeakCutoff => ⟨0x0a, 7, 0, 0x00, 0⟩
  | .setParamPeakQ => ⟨0x0a, 7, 0, 0x01, 0⟩
  | .setParamPeakPeakGainLin => ⟨0x0a, 7, 0, 0x02, 0⟩
  | .setParamPeakPeakGainDb => ⟨0x0a, 7, 0, 0x03, 0⟩
  | .setParamPeakBandwidth => ⟨0x0a, 7, 0, 0x04, 0⟩
  | .setParamPeakUseBandwidth => ⟨0x0a, 7, 0, 0x05, 0⟩
  | .setParamPeakPrewarpAtCutoff => ⟨0x0a, 7, 0, 0x06, 0⟩
  | .setParamPeakPrewarpFreq => ⟨0x0a, 7, 0, 0x07, 0⟩
  | .readCoefPeakCutoff => ⟨0x0f, 7, 0, 0x00, 0⟩
  | .readCoefPeakQ => ⟨0x0f, 7, 0, 0x01, 0⟩
  | .readCoefPeakPeakGainLin => ⟨0x0f, 7, 0, 0x02, 0⟩
  | .readCoefPeakPeakGainDb => ⟨0x0f, 7, 0, 0x03, 0⟩
  | .readCoefPeakBandwidth => ⟨0x0f, 7, 0, 0x04, 0⟩
  | .readCoefPeakUseBandwidth => ⟨0x0f, 7, 0, 0x05, 0⟩
  | .readCoefPeakPrewarpAtCutoff => ⟨0x0f, 7, 0, 0x06, 0⟩
  | .readCoefPeakPrewarpFreq => ⟨0x0f, 7, 0, 0x07, 0⟩
  | .readCoefPeakGainIsDb => ⟨0x0f, 7, 0, 0x08, 0⟩
  | .readCoefPeakG => ⟨0x0f, 7, 0, 0x40, 0⟩
  | .readCoefPeakQu => ⟨0x0f, 7, 0, 0x41, 0⟩
  | .readCoefPeakQi => ⟨0x0f, 7, 0, 0x42, 0⟩
  | .readCoefPeakKi => ⟨0x0f, 7, 0, 0x43, 0⟩
  | .readCoefPeakInnerCutoff => ⟨0x0f, 7, 0, 0x80, 0⟩
  | .readCoefPeakInnerQ => ⟨0x0f, 7, 0, 0x81, 0⟩
  | .readCoefPeakInnerPrewarpAtCutoff => ⟨0x0f, 7, 0, 0x82, 0⟩
  | .readCoefPeakInnerPrewarpFreq => ⟨0x0f, 7, 0, 0x83, 0⟩
  | .readCoefPeakInnerCoeffX => ⟨0x0f, 7, 0, 0x84, 0⟩
  | .readCoefPeakInnerCoeffLp => ⟨0x0f, 7, 0, 0x85, 0⟩
  | .readCoefPeakInnerCoeffBp => ⟨0x0f, 7, 0, 0x86, 0⟩
  | .readCoefPeakInnerCoeffHp => ⟨0x0f, 7, 0, 0x87, 0⟩
  | .readCoefPeakInnerKPi => ⟨0x0f, 7, 0, 0xc0, 0⟩
  | .readCoefPeakInnerG => ⟨0x0f, 7, 0, 0xc1, 0⟩
  | .readCoefPeakInnerK => ⟨0x0f, 7, 0, 0xc2, 0⟩
  | .readCoefPeakInnerGk => ⟨0x0f, 7, 0, 0xc3, 0⟩
  | .readCoefPeakInnerHpD => ⟨0x0f, 7, 0, 0xc4, 0⟩
  | .readCoefPeakInnerCxAct => ⟨0x0f, 7, 0, 0xc5, 0⟩
  | .readCoefPeakInnerClpAct => ⟨0x0f, 7, 0, 0xc6, 0⟩
  | .readCoefPeakInnerCbpAct => ⟨0x0f, 7, 0, 0xc7, 0⟩
  | .readCoefPeakInnerChpAct => ⟨0x0f, 7, 0, 0xc8, 0⟩
  | .readCoefPeakInnerDirty => ⟨0x0f, 7, 0, 0xe0, 0⟩
  | .readCoefPeakLife => ⟨0x0f, 7, 0, 0xf0, 0⟩
  | .readCoefPeakGen => ⟨0x0f, 7, 0, 0xf1, 0⟩
  | .readCoefPeakFs => ⟨0x0f, 7, 0, 0xf2, 0⟩
  | .readCoefPeakDirty => ⟨0x0f, 7, 0, 0xf3, 0⟩
  | .readCoefPeakMemreq => ⟨0x0f, 7, 0, 0xf4, 0⟩
  | .readStatePeakS1 ch => ⟨0x10, 7, ch, 0x00, 0⟩
  | .readStatePeakS2 ch => ⟨0x10, 7, ch, 0x01, 0⟩
  | .readStatePeakStValid ch => ⟨0x10, 7, ch, 0xf0, 0⟩
  | .initDelay => ⟨0x01, 8, 0, 0x00, 0⟩
  | .setSrDelay => ⟨0x02, 8, 0, 0x00, 0⟩
  | .resetCoeffsDelay => ⟨0x03, 8, 0, 0x00, 0⟩
  | .resetStateDelay ch => ⟨0x04, 8, ch, 0x00, 0⟩
  | .updateCtrlDelay => ⟨0x05, 8, 0, 0x00, 0⟩
  | .updateAudioDelay => ⟨0x06, 8, 0, 0x00, 0⟩
  | .process1Delay ch => ⟨0x07, 8, ch, 0x00, 0⟩
  | .processDelay ch => ⟨0x08, 8, ch, 0x00, 0⟩
  | .processMultiDelay => ⟨0x09, 8, 0, 0x00, 0⟩
  | .memReqDelay => ⟨0x0b, 8, 0, 0x00, 0⟩
  | .memSetDelay ch => ⟨0x0c, 8, ch, 0x00, 0⟩
  | .delayReadDelay ch => ⟨0x0d, 8, ch, 0x00, 0⟩
  | .delayWriteDelay ch => ⟨0x0e, 8, ch, 0x00, 0⟩
  | .setParamDelayDelay => ⟨0x0a, 8, 0, 0x00, 0⟩
  | .readCoefDelayDelay => ⟨0x0f, 8, 0, 0x00, 0⟩
  | .readCoefDelayMaxDelay => ⟨0x0f, 8, 0, 0x01, 0⟩
  | .readCoefDelayLen => ⟨0x0f, 8, 0, 0x40, 0⟩
  | .readCoefDelayDi => ⟨0x0f, 8, 0, 0x41, 0⟩
  | .readCoefDelayDf => ⟨0x0f, 8, 0, 0x42, 0⟩
  | .readCoefDelayLife => ⟨0x0f, 8, 0, 0xf0, 0⟩
  | .readCoefDelayGen => ⟨0x0f, 8, 0, 0xf1, 0⟩
  | .readCoefDelayFs => ⟨0x0f, 8, 0, 0xf2, 0⟩
  | .readCoefDelayDirty => ⟨0x0f, 8, 0, 0xf3, 0⟩
  | .readCoefDelayMemreq => ⟨0x0f, 8, 0, 0xf4, 0⟩
  | .readStateDelayW ch => ⟨0x10, 8, ch, 0x00, 0⟩
  | .readStateDelayStValid ch => ⟨0x10, 8, ch, 0xf0, 0⟩
  | .readStateDelayMemBound ch => ⟨0x10, 8, ch, 0xf1, 0⟩
  | .readStateDelayMemBase ch => ⟨0x10, 8, ch, 0xf2, 0⟩
  | .initReverb => ⟨0x01, 9, 0, 0x00, 0⟩
  | .setSrReverb => ⟨0x02, 9, 0, 0x00, 0⟩
  | .resetCoeffsReverb => ⟨0x03, 9, 0, 0x00, 0⟩
  | .resetStateReverb ch => ⟨0x04, 9, ch, 0x00, 0⟩
  | .updateCtrlReverb => ⟨0x05, 9, 0, 0x00, 0⟩
  | .updateAudioReverb => ⟨0x06, 9, 0, 0x00, 0⟩
  | .process1Reverb ch => ⟨0x07, 9, ch, 0x00, 0⟩
  | .processReverb ch => ⟨0x08, 9, ch, 0x00, 0⟩
  | .processMultiReverb => ⟨0x09, 9, 0, 0x00, 0⟩
  | .memReqReverb => ⟨0x0b, 9, 0, 0x00, 0⟩
  | .memSetReverb ch => ⟨0x0c, 9, ch, 0x00, 0⟩
  | .setParamReverbPredelay => ⟨0x0a, 9, 0, 0x00, 0⟩
  | .setParamReverbBandwidth => ⟨0x0a, 9, 0, 0x01, 0⟩
  | .setParamReverbDamping => ⟨0x0a, 9, 0, 0x02, 0⟩
  | .setParamReverbDecay => ⟨0x0a, 9, 0, 0x03, 0⟩
  | .readCoefReverbPredelay => ⟨0x0f, 9, 0, 0x00, 0⟩
  | .readCoefReverbBandwidth => ⟨0x0f, 9, 0, 0x01, 0⟩
  | .readCoefReverbDamping => ⟨0x0f, 9, 0, 0x02, 0⟩
  | .readCoefReverbDecay => ⟨0x0f, 9, 0, 0x03, 0⟩
  | .readCoefReverbKExp => ⟨0x0f, 9, 0, 0x40, 0⟩
  | .readCoefReverbABw => ⟨0x0f, 9, 0, 0x41, 0⟩
  | .readCoefReverbADamp => ⟨0x0f, 9, 0, 0x42, 0⟩
  | .readCoefReverbDecayG => ⟨0x0f, 9, 0, 0x43, 0⟩
  | .readCoefReverbDd2g => ⟨0x0f, 9, 0, 0x44, 0⟩
  | .readCoefReverbAPds => ⟨0x0f, 9, 0, 0x45, 0⟩
  | .readCoefReverbSt2Pd => ⟨0x0f, 9, 0, 0x46, 0⟩
  | .readCoefReverbPdTarget => ⟨0x0f, 9, 0, 0x47, 0⟩
  | .readCoefReverbPdS => ⟨0x0f, 9, 0, 0x48, 0⟩
  | .readCoefReverbPdN => ⟨0x0f, 9, 0, 0x49, 0⟩
  | .readCoefReverbLfoPhase => ⟨0x0f, 9, 0, 0x4a, 0⟩
  | .readCoefReverbLfoInc => ⟨0x0f, 9, 0, 0x4b, 0⟩
  | .readCoefReverbLfoM => ⟨0x0f, 9, 0, 0x4c, 0⟩
  | .readCoefReverbExc => ⟨0x0f, 9, 0, 0x4d, 0⟩
  | .readCoefReverbRatio => ⟨0x0f, 9, 0, 0x4e, 0⟩
  | .readCoefReverbDi1 => ⟨0x0f, 9, 0, 0x4f, 0⟩
  | .readCoefReverbDf1 => ⟨0x0f, 9, 0, 0x50, 0⟩
  | .readCoefReverbDi3 => ⟨0x0f, 9, 0, 0x51, 0⟩
  | .readCoefReverbDf3 => ⟨0x0f, 9, 0, 0x52, 0⟩
  | .readCoefReverbN1 => ⟨0x0f, 9, 0, 0x60, 0⟩
  | .readCoefReverbN2 => ⟨0x0f, 9, 0, 0x61, 0⟩
  | .readCoefReverbN3 => ⟨0x0f, 9, 0, 0x62, 0⟩
  | .readCoefReverbN4 => ⟨0x0f, 9, 0, 0x63, 0⟩
  | .readCoefReverbN5 => ⟨0x0f, 9, 0, 0x64, 0⟩
  | .readCoefReverbN6 => ⟨0x0f, 9, 0, 0x65, 0⟩
  | .readCoefReverbN7 => ⟨0x0f, 9, 0, 0x66, 0⟩
  | .readCoefReverbN8 => ⟨0x0f, 9, 0, 0x67, 0⟩
  | .readCoefReverbN9 => ⟨0x0f, 9, 0, 0x68, 0⟩
  | .readCoefReverbN10 => ⟨0x0f, 9, 0, 0x69, 0⟩
  | .readCoefReverbN11 => ⟨0x0f, 9, 0, 0x6a, 0⟩
  | .readCoefReverbN12 => ⟨0x0f, 9, 0, 0x6b, 0⟩
  | .readCoefReverbCap0 => ⟨0x0f, 9, 0, 0x70, 0⟩
  | .readCoefReverbCap1 => ⟨0x0f, 9, 0, 0x71, 0⟩
  | .readCoefReverbCap2 => ⟨0x0f, 9, 0, 0x72, 0⟩
  | .readCoefReverbCap3 => ⟨0x0f, 9, 0, 0x73, 0⟩
  | .readCoefReverbCap4 => ⟨0x0f, 9, 0, 0x74, 0⟩
  | .readCoefReverbCap5 => ⟨0x0f, 9, 0, 0x75, 0⟩
  | .readCoefReverbCap6 => ⟨0x0f, 9, 0, 0x76, 0⟩
  | .readCoefReverbCap7 => ⟨0x0f, 9, 0, 0x77, 0⟩
  | .readCoefReverbCap8 => ⟨0x0f, 9, 0, 0x78, 0⟩
  | .readCoefReverbCap9 => ⟨0x0f, 9, 0, 0x79, 0⟩
  | .readCoefReverbCap10 => ⟨0x0f, 9, 0, 0x7a, 0⟩
  | .readCoefReverbCap11 => ⟨0x0f, 9, 0, 0x7b, 0⟩
  | .readCoefReverbCap12 => ⟨0x0f, 9, 0, 0x7c, 0⟩
  | .readCoefReverbOff0 => ⟨0x0f, 9, 0, 0x80, 0⟩
  | .readCoefReverbOff1 => ⟨0x0f, 9, 0, 0x81, 0⟩
  | .readCoefReverbOff2 => ⟨0x0f, 9, 0, 0x82, 0⟩
  | .readCoefReverbOff3 => ⟨0x0f, 9, 0, 0x83, 0⟩
  | .readCoefReverbOff4 => ⟨0x0f, 9, 0, 0x84, 0⟩
  | .readCoefReverbOff5 => ⟨0x0f, 9, 0, 0x85, 0⟩
  | .readCoefReverbOff6 => ⟨0x0f, 9, 0, 0x86, 0⟩
  | .readCoefReverbOff7 => ⟨0x0f, 9, 0, 0x87, 0⟩
  | .readCoefReverbOff8 => ⟨0x0f, 9, 0, 0x88, 0⟩
  | .readCoefReverbOff9 => ⟨0x0f, 9, 0, 0x89, 0⟩
  | .readCoefReverbOff10 => ⟨0x0f, 9, 0, 0x8a, 0⟩
  | .readCoefReverbOff11 => ⟨0x0f, 9, 0, 0x8b, 0⟩
  | .readCoefReverbOff12 => ⟨0x0f, 9, 0, 0x8c, 0⟩
  | .readCoefReverbTaplK0 => ⟨0x0f, 9, 0, 0x90, 0⟩
  | .readCoefReverbTaplK1 => ⟨0x0f, 9, 0, 0x91, 0⟩
  | .readCoefReverbTaplK2 => ⟨0x0f, 9, 0, 0x92, 0⟩
  | .readCoefReverbTaplK3 => ⟨0x0f, 9, 0, 0x93, 0⟩
  | .readCoefReverbTaplK4 => ⟨0x0f, 9, 0, 0x94, 0⟩
  | .readCoefReverbTaplK5 => ⟨0x0f, 9, 0, 0x95, 0⟩
  | .readCoefReverbTaplK6 => ⟨0x0f, 9, 0, 0x96, 0⟩
  | .readCoefReverbTaprK0 => ⟨0x0f, 9, 0, 0x98, 0⟩
  | .readCoefReverbTaprK1 => ⟨0x0f, 9, 0, 0x99, 0⟩
  | .readCoefReverbTaprK2 => ⟨0x0f, 9, 0, 0x9a, 0⟩
  | .readCoefReverbTaprK3 => ⟨0x0f, 9, 0, 0x9b, 0⟩
  | .readCoefReverbTaprK4 => ⟨0x0f, 9, 0, 0x9c, 0⟩
  | .readCoefReverbTaprK5 => ⟨0x0f, 9, 0, 0x9d, 0⟩
  | .readCoefReverbTaprK6 => ⟨0x0f, 9, 0, 0x9e, 0⟩
  | .readCoefReverbLife => ⟨0x0f, 9, 0, 0xf0, 0⟩
  | .readCoefReverbGen => ⟨0x0f, 9, 0, 0xf1, 0⟩
  | .readCoefReverbFs => ⟨0x0f, 9, 0, 0xf2, 0⟩
  | .readCoefReverbDirty => ⟨0x0f, 9, 0, 0xf3, 0⟩
  | .readCoefReverbMemreq => ⟨0x0f, 9, 0, 0xf4, 0⟩
  | .readStateReverbBwZ1 ch => ⟨0x10, 9, ch, 0x00, 0⟩
  | .readStateReverbDlZ1 ch => ⟨0x10, 9, ch, 0x01, 0⟩
  | .readStateReverbDrZ1 ch => ⟨0x10, 9, ch, 0x02, 0⟩
  | .readStateReverbW0 ch => ⟨0x10, 9, ch, 0x10, 0⟩
  | .readStateReverbW1 ch => ⟨0x10, 9, ch, 0x11, 0⟩
  | .readStateReverbW2 ch => ⟨0x10, 9, ch, 0x12, 0⟩
  | .readStateReverbW3 ch => ⟨0x10, 9, ch, 0x13, 0⟩
  | .readStateReverbW4 ch => ⟨0x10, 9, ch, 0x14, 0⟩
  | .readStateReverbW5 ch => ⟨0x10, 9, ch, 0x15, 0⟩
  | .readStateReverbW6 ch => ⟨0x10, 9, ch, 0x16, 0⟩
  | .readStateReverbW7 ch => ⟨0x10, 9, ch, 0x17, 0⟩
  | .readStateReverbW8 ch => ⟨0x10, 9, ch, 0x18, 0⟩
  | .readStateReverbW9 ch => ⟨0x10, 9, ch, 0x19, 0⟩
  | .readStateReverbW10 ch => ⟨0x10, 9, ch, 0x1a, 0⟩
  | .readStateReverbW11 ch => ⟨0x10, 9, ch, 0x1b, 0⟩
  | .readStateReverbW12 ch => ⟨0x10, 9, ch, 0x1c, 0⟩
  | .readStateReverbStValid ch => ⟨0x10, 9, ch, 0xf0, 0⟩
  | .readStateReverbMemBound ch => ⟨0x10, 9, ch, 0xf1, 0⟩
  | .readStateReverbMemBase ch => ⟨0x10, 9, ch, 0xf2, 0⟩

/-- The encoder: the command word of a command (R111). -/
def encode (i : Instr) : Word := packCmd i.fields

/-- The command a table row's bits decode to, the row being `nbits` bits wide and the bits above them zero. A command
is one 32-bit word (R110), so the bits are the word. -/
def decodeTableWord (nbits w : Nat) : Option Instr :=
  match decode (BitVec.ofNat 32 (w % 2 ^ nbits)) with
  | .ok i => some i
  | .error _ => none

/-! ### Every command's word, written out from the spec's encoding

One row per command: its word from spec/opcode_table.json (R118; a command that uses CH with channel 0x2A in bits
21:16), and the command. `decodesTo` checks both directions on a list of rows. -/

/-- The words of a list of rows decode to the rows' commands, and the commands encode to the words. -/
def decodesTo (rows : List (Word × Instr)) : Bool :=
  rows.all fun r => (match decode r.1 with | .ok i => decide (i = r.2) | .error _ => false) && encode r.2 == r.1

/-- Rows of unit ONEPOLE (R118). -/
def wordsOnepoleA : List (Word × Instr) :=
  [ (0x00000000, .nop)
  , (0x04000000, .initOnepole)
  , (0x08000000, .setSrOnepole)
  , (0x0c000000, .resetCoeffsOnepole)
  , (0x102a0000, .resetStateOnepole 0x2A)
  , (0x14000000, .updateCtrlOnepole)
  , (0x18000000, .updateAudioOnepole)
  , (0x1c2a0000, .process1Onepole 0x2A)
  , (0x202a0000, .processOnepole 0x2A)
  , (0x24000000, .processMultiOnepole)
  , (0x28000000, .setParamOnepoleCutoff)
  , (0x28000100, .setParamOnepoleCutoffUp)
  , (0x28000200, .setParamOnepoleCutoffDown)
  , (0x28000300, .setParamOnepoleTau)
  , (0x28000400, .setParamOnepoleTauUp)
  , (0x28000500, .setParamOnepoleTauDown)
  , (0x28000600, .setParamOnepoleStickyThresh)
  , (0x28000700, .setParamOnepoleStickyMode)
  , (0x3c000100, .readCoefOnepoleCutoffUp)
  , (0x3c000200, .readCoefOnepoleCutoffDown)
  , (0x3c000600, .readCoefOnepoleStickyThresh)
  , (0x3c000700, .readCoefOnepoleStickyMode)
  , (0x3c004000, .readCoefOnepoleKExp)
  , (0x3c004100, .readCoefOnepoleAUp)
  , (0x3c004200, .readCoefOnepoleADown)
  , (0x3c004300, .readCoefOnepoleSt2)
  , (0x3c004400, .readCoefOnepoleModeAct)
  , (0x3c00f000, .readCoefOnepoleLife)
  , (0x3c00f100, .readCoefOnepoleGen)
  , (0x3c00f200, .readCoefOnepoleFs)
  , (0x3c00f300, .readCoefOnepoleDirty)
  , (0x3c00f400, .readCoefOnepoleMemreq)
  , (0x402a0000, .readStateOnepoleYZ1 0x2A)
  , (0x402af000, .readStateOnepoleStValid 0x2A) ]

/-- Rows of unit MM1 (R118). -/
def wordsMm1A : List (Word × Instr) :=
  [ (0x04400000, .initMm1)
  , (0x08400000, .setSrMm1)
  , (0x0c400000, .resetCoeffsMm1)
  , (0x106a0000, .resetStateMm1 0x2A)
  , (0x14400000, .updateCtrlMm1)
  , (0x18400000, .updateAudioMm1)
  , (0x1c6a0000, .process1Mm1 0x2A)
  , (0x206a0000, .processMm1 0x2A)
  , (0x24400000, .processMultiMm1)
  , (0x28400000, .setParamMm1Cutoff)
  , (0x28400100, .setParamMm1PrewarpAtCutoff)
  , (0x28400200, .setParamMm1PrewarpFreq)
  , (0x28400300, .setParamMm1CoeffX)
  , (0x28400400, .setParamMm1CoeffLp)
  , (0x3c400000, .readCoefMm1Cutoff)
  , (0x3c400100, .readCoefMm1PrewarpAtCutoff)
  , (0x3c400200, .readCoefMm1PrewarpFreq)
  , (0x3c400300, .readCoefMm1CoeffX)
  , (0x3c400400, .readCoefMm1CoeffLp)
  , (0x3c404000, .readCoefMm1KPi)
  , (0x3c404100, .readCoefMm1G)
  , (0x3c404200, .readCoefMm1G1)
  , (0x3c404300, .readCoefMm1CxAct)
  , (0x3c404400, .readCoefMm1ClpAct)
  , (0x3c40f000, .readCoefMm1Life)
  , (0x3c40f100, .readCoefMm1Gen)
  , (0x3c40f200, .readCoefMm1Fs)
  , (0x3c40f300, .readCoefMm1Dirty)
  , (0x3c40f400, .readCoefMm1Memreq)
  , (0x406a0000, .readStateMm1S 0x2A)
  , (0x406af000, .readStateMm1StValid 0x2A) ]

/-- Rows of unit MM2 (R118). -/
def wordsMm2A : List (Word × Instr) :=
  [ (0x04800000, .initMm2)
  , (0x08800000, .setSrMm2)
  , (0x0c800000, .resetCoeffsMm2)
  , (0x10aa0000, .resetStateMm2 0x2A)
  , (0x14800000, .updateCtrlMm2)
  , (0x18800000, .updateAudioMm2)
  , (0x1caa0000, .process1Mm2 0x2A)
  , (0x20aa0000, .processMm2 0x2A)
  , (0x24800000, .processMultiMm2)
  , (0x28800000, .setParamMm2Cutoff)
  , (0x28800100, .setParamMm2Q)
  , (0x28800200, .setParamMm2PrewarpAtCutoff)
  , (0x28800300, .setParamMm2PrewarpFreq)
  , (0x28800400, .setParamMm2CoeffX)
  , (0x28800500, .setParamMm2CoeffLp)
  , (0x28800600, .setParamMm2CoeffBp)
  , (0x28800700, .setParamMm2CoeffHp)
  , (0x3c800000, .readCoefMm2Cutoff)
  , (0x3c800100, .readCoefMm2Q)
  , (0x3c800200, .readCoefMm2PrewarpAtCutoff)
  , (0x3c800300, .readCoefMm2PrewarpFreq)
  , (0x3c800400, .readCoefMm2CoeffX)
  , (0x3c800500, .readCoefMm2CoeffLp)
  , (0x3c800600, .readCoefMm2CoeffBp)
  , (0x3c800700, .readCoefMm2CoeffHp)
  , (0x3c804000, .readCoefMm2KPi)
  , (0x3c804100, .readCoefMm2G)
  , (0x3c804200, .readCoefMm2K)
  , (0x3c804300, .readCoefMm2Gk)
  , (0x3c804400, .readCoefMm2HpD)
  , (0x3c804500, .readCoefMm2CxAct)
  , (0x3c804600, .readCoefMm2ClpAct)
  , (0x3c804700, .readCoefMm2CbpAct)
  , (0x3c804800, .readCoefMm2ChpAct)
  , (0x3c80f000, .readCoefMm2Life)
  , (0x3c80f100, .readCoefMm2Gen)
  , (0x3c80f200, .readCoefMm2Fs)
  , (0x3c80f300, .readCoefMm2Dirty)
  , (0x3c80f400, .readCoefMm2Memreq)
  , (0x40aa0000, .readStateMm2S1 0x2A) ]

/-- Rows of unit MM2 (R118). -/
def wordsMm2B : List (Word × Instr) :=
  [ (0x40aa0100, .readStateMm2S2 0x2A)
  , (0x40aaf000, .readStateMm2StValid 0x2A) ]

/-- Rows of unit HP1 (R118). -/
def wordsHp1A : List (Word × Instr) :=
  [ (0x04c00000, .initHp1)
  , (0x08c00000, .setSrHp1)
  , (0x0cc00000, .resetCoeffsHp1)
  , (0x10ea0000, .resetStateHp1 0x2A)
  , (0x14c00000, .updateCtrlHp1)
  , (0x18c00000, .updateAudioHp1)
  , (0x1cea0000, .process1Hp1 0x2A)
  , (0x20ea0000, .processHp1 0x2A)
  , (0x24c00000, .processMultiHp1)
  , (0x28c00000, .setParamHp1Cutoff)
  , (0x28c00100, .setParamHp1PrewarpAtCutoff)
  , (0x28c00200, .setParamHp1PrewarpFreq)
  , (0x3cc00000, .readCoefHp1Cutoff)
  , (0x3cc00100, .readCoefHp1PrewarpAtCutoff)
  , (0x3cc00200, .readCoefHp1PrewarpFreq)
  , (0x3cc08000, .readCoefHp1InnerCutoff)
  , (0x3cc08100, .readCoefHp1InnerPrewarpAtCutoff)
  , (0x3cc08200, .readCoefHp1InnerPrewarpFreq)
  , (0x3cc08300, .readCoefHp1InnerCoeffX)
  , (0x3cc08400, .readCoefHp1InnerCoeffLp)
  , (0x3cc0c000, .readCoefHp1InnerKPi)
  , (0x3cc0c100, .readCoefHp1InnerG)
  , (0x3cc0c200, .readCoefHp1InnerG1)
  , (0x3cc0c300, .readCoefHp1InnerCxAct)
  , (0x3cc0c400, .readCoefHp1InnerClpAct)
  , (0x3cc0e000, .readCoefHp1InnerDirty)
  , (0x3cc0f000, .readCoefHp1Life)
  , (0x3cc0f100, .readCoefHp1Gen)
  , (0x3cc0f200, .readCoefHp1Fs)
  , (0x3cc0f300, .readCoefHp1Dirty)
  , (0x3cc0f400, .readCoefHp1Memreq)
  , (0x40ea0000, .readStateHp1S 0x2A)
  , (0x40eaf000, .readStateHp1StValid 0x2A) ]

/-- Rows of unit LS1 (R118). -/
def wordsLs1A : List (Word × Instr) :=
  [ (0x05000000, .initLs1)
  , (0x09000000, .setSrLs1)
  , (0x0d000000, .resetCoeffsLs1)
  , (0x112a0000, .resetStateLs1 0x2A)
  , (0x15000000, .updateCtrlLs1)
  , (0x19000000, .updateAudioLs1)
  , (0x1d2a0000, .process1Ls1 0x2A)
  , (0x212a0000, .processLs1 0x2A)
  , (0x25000000, .processMultiLs1)
  , (0x29000000, .setParamLs1Cutoff)
  , (0x29000100, .setParamLs1DcGainLin)
  , (0x29000200, .setParamLs1DcGainDb)
  , (0x29000300, .setParamLs1PrewarpAtCutoff)
  , (0x29000400, .setParamLs1PrewarpFreq)
  , (0x3d000000, .readCoefLs1Cutoff)
  , (0x3d000100, .readCoefLs1DcGainLin)
  , (0x3d000200, .readCoefLs1DcGainDb)
  , (0x3d000300, .readCoefLs1PrewarpAtCutoff)
  , (0x3d000400, .readCoefLs1PrewarpFreq)
  , (0x3d000500, .readCoefLs1GainIsDb)
  , (0x3d004000, .readCoefLs1G)
  , (0x3d008000, .readCoefLs1InnerCutoff)
  , (0x3d008100, .readCoefLs1InnerPrewarpAtCutoff)
  , (0x3d008200, .readCoefLs1InnerPrewarpFreq)
  , (0x3d008300, .readCoefLs1InnerCoeffX)
  , (0x3d008400, .readCoefLs1InnerCoeffLp)
  , (0x3d00c000, .readCoefLs1InnerKPi)
  , (0x3d00c100, .readCoefLs1InnerG)
  , (0x3d00c200, .readCoefLs1InnerG1)
  , (0x3d00c300, .readCoefLs1InnerCxAct)
  , (0x3d00c400, .readCoefLs1InnerClpAct)
  , (0x3d00e000, .readCoefLs1InnerDirty)
  , (0x3d00f000, .readCoefLs1Life)
  , (0x3d00f100, .readCoefLs1Gen)
  , (0x3d00f200, .readCoefLs1Fs)
  , (0x3d00f300, .readCoefLs1Dirty)
  , (0x3d00f400, .readCoefLs1Memreq)
  , (0x412a0000, .readStateLs1S 0x2A)
  , (0x412af000, .readStateLs1StValid 0x2A) ]

/-- Rows of unit LS2 (R118). -/
def wordsLs2A : List (Word × Instr) :=
  [ (0x05400000, .initLs2)
  , (0x09400000, .setSrLs2)
  , (0x0d400000, .resetCoeffsLs2)
  , (0x116a0000, .resetStateLs2 0x2A)
  , (0x15400000, .updateCtrlLs2)
  , (0x19400000, .updateAudioLs2)
  , (0x1d6a0000, .process1Ls2 0x2A)
  , (0x216a0000, .processLs2 0x2A)
  , (0x25400000, .processMultiLs2)
  , (0x29400000, .setParamLs2Cutoff)
  , (0x29400100, .setParamLs2Q)
  , (0x29400200, .setParamLs2DcGainLin)
  , (0x29400300, .setParamLs2DcGainDb)
  , (0x29400400, .setParamLs2PrewarpAtCutoff)
  , (0x29400500, .setParamLs2PrewarpFreq)
  , (0x3d400000, .readCoefLs2Cutoff)
  , (0x3d400100, .readCoefLs2Q)
  , (0x3d400200, .readCoefLs2DcGainLin)
  , (0x3d400300, .readCoefLs2DcGainDb)
  , (0x3d400400, .readCoefLs2PrewarpAtCutoff)
  , (0x3d400500, .readCoefLs2PrewarpFreq)
  , (0x3d400600, .readCoefLs2GainIsDb)
  , (0x3d404000, .readCoefLs2G)
  , (0x3d404100, .readCoefLs2Ki)
  , (0x3d408000, .readCoefLs2InnerCutoff)
  , (0x3d408100, .readCoefLs2InnerQ)
  , (0x3d408200, .readCoefLs2InnerPrewarpAtCutoff)
  , (0x3d408300, .readCoefLs2InnerPrewarpFreq)
  , (0x3d408400, .readCoefLs2InnerCoeffX)
  , (0x3d408500, .readCoefLs2InnerCoeffLp)
  , (0x3d408600, .readCoefLs2InnerCoeffBp)
  , (0x3d408700, .readCoefLs2InnerCoeffHp)
  , (0x3d40c000, .readCoefLs2InnerKPi)
  , (0x3d40c100, .readCoefLs2InnerG)
  , (0x3d40c200, .readCoefLs2InnerK)
  , (0x3d40c300, .readCoefLs2InnerGk)
  , (0x3d40c400, .readCoefLs2InnerHpD)
  , (0x3d40c500, .readCoefLs2InnerCxAct)
  , (0x3d40c600, .readCoefLs2InnerClpAct)
  , (0x3d40c700, .readCoefLs2InnerCbpAct) ]

/-- Rows of unit LS2 (R118). -/
def wordsLs2B : List (Word × Instr) :=
  [ (0x3d40c800, .readCoefLs2InnerChpAct)
  , (0x3d40e000, .readCoefLs2InnerDirty)
  , (0x3d40f000, .readCoefLs2Life)
  , (0x3d40f100, .readCoefLs2Gen)
  , (0x3d40f200, .readCoefLs2Fs)
  , (0x3d40f300, .readCoefLs2Dirty)
  , (0x3d40f400, .readCoefLs2Memreq)
  , (0x416a0000, .readStateLs2S1 0x2A)
  , (0x416a0100, .readStateLs2S2 0x2A)
  , (0x416af000, .readStateLs2StValid 0x2A) ]

/-- Rows of unit AP2 (R118). -/
def wordsAp2A : List (Word × Instr) :=
  [ (0x05800000, .initAp2)
  , (0x09800000, .setSrAp2)
  , (0x0d800000, .resetCoeffsAp2)
  , (0x11aa0000, .resetStateAp2 0x2A)
  , (0x15800000, .updateCtrlAp2)
  , (0x19800000, .updateAudioAp2)
  , (0x1daa0000, .process1Ap2 0x2A)
  , (0x21aa0000, .processAp2 0x2A)
  , (0x25800000, .processMultiAp2)
  , (0x29800000, .setParamAp2Cutoff)
  , (0x29800100, .setParamAp2Q)
  , (0x29800200, .setParamAp2PrewarpAtCutoff)
  , (0x29800300, .setParamAp2PrewarpFreq)
  , (0x3d800000, .readCoefAp2Cutoff)
  , (0x3d800100, .readCoefAp2Q)
  , (0x3d800200, .readCoefAp2PrewarpAtCutoff)
  , (0x3d800300, .readCoefAp2PrewarpFreq)
  , (0x3d804100, .readCoefAp2Ki)
  , (0x3d808000, .readCoefAp2InnerCutoff)
  , (0x3d808100, .readCoefAp2InnerQ)
  , (0x3d808200, .readCoefAp2InnerPrewarpAtCutoff)
  , (0x3d808300, .readCoefAp2InnerPrewarpFreq)
  , (0x3d808400, .readCoefAp2InnerCoeffX)
  , (0x3d808500, .readCoefAp2InnerCoeffLp)
  , (0x3d808600, .readCoefAp2InnerCoeffBp)
  , (0x3d808700, .readCoefAp2InnerCoeffHp)
  , (0x3d80c000, .readCoefAp2InnerKPi)
  , (0x3d80c100, .readCoefAp2InnerG)
  , (0x3d80c200, .readCoefAp2InnerK)
  , (0x3d80c300, .readCoefAp2InnerGk)
  , (0x3d80c400, .readCoefAp2InnerHpD)
  , (0x3d80c500, .readCoefAp2InnerCxAct)
  , (0x3d80c600, .readCoefAp2InnerClpAct)
  , (0x3d80c700, .readCoefAp2InnerCbpAct)
  , (0x3d80c800, .readCoefAp2InnerChpAct)
  , (0x3d80e000, .readCoefAp2InnerDirty)
  , (0x3d80f000, .readCoefAp2Life)
  , (0x3d80f100, .readCoefAp2Gen)
  , (0x3d80f200, .readCoefAp2Fs)
  , (0x3d80f300, .readCoefAp2Dirty) ]

/-- Rows of unit AP2 (R118). -/
def wordsAp2B : List (Word × Instr) :=
  [ (0x3d80f400, .readCoefAp2Memreq)
  , (0x41aa0000, .readStateAp2S1 0x2A)
  , (0x41aa0100, .readStateAp2S2 0x2A)
  , (0x41aaf000, .readStateAp2StValid 0x2A) ]

/-- Rows of unit PEAK (R118). -/
def wordsPeakA : List (Word × Instr) :=
  [ (0x05c00000, .initPeak)
  , (0x09c00000, .setSrPeak)
  , (0x0dc00000, .resetCoeffsPeak)
  , (0x11ea0000, .resetStatePeak 0x2A)
  , (0x15c00000, .updateCtrlPeak)
  , (0x19c00000, .updateAudioPeak)
  , (0x1dea0000, .process1Peak 0x2A)
  , (0x21ea0000, .processPeak 0x2A)
  , (0x25c00000, .processMultiPeak)
  , (0x29c00000, .setParamPeakCutoff)
  , (0x29c00100, .setParamPeakQ)
  , (0x29c00200, .setParamPeakPeakGainLin)
  , (0x29c00300, .setParamPeakPeakGainDb)
  , (0x29c00400, .setParamPeakBandwidth)
  , (0x29c00500, .setParamPeakUseBandwidth)
  , (0x29c00600, .setParamPeakPrewarpAtCutoff)
  , (0x29c00700, .setParamPeakPrewarpFreq)
  , (0x3dc00000, .readCoefPeakCutoff)
  , (0x3dc00100, .readCoefPeakQ)
  , (0x3dc00200, .readCoefPeakPeakGainLin)
  , (0x3dc00300, .readCoefPeakPeakGainDb)
  , (0x3dc00400, .readCoefPeakBandwidth)
  , (0x3dc00500, .readCoefPeakUseBandwidth)
  , (0x3dc00600, .readCoefPeakPrewarpAtCutoff)
  , (0x3dc00700, .readCoefPeakPrewarpFreq)
  , (0x3dc00800, .readCoefPeakGainIsDb)
  , (0x3dc04000, .readCoefPeakG)
  , (0x3dc04100, .readCoefPeakQu)
  , (0x3dc04200, .readCoefPeakQi)
  , (0x3dc04300, .readCoefPeakKi)
  , (0x3dc08000, .readCoefPeakInnerCutoff)
  , (0x3dc08100, .readCoefPeakInnerQ)
  , (0x3dc08200, .readCoefPeakInnerPrewarpAtCutoff)
  , (0x3dc08300, .readCoefPeakInnerPrewarpFreq)
  , (0x3dc08400, .readCoefPeakInnerCoeffX)
  , (0x3dc08500, .readCoefPeakInnerCoeffLp)
  , (0x3dc08600, .readCoefPeakInnerCoeffBp)
  , (0x3dc08700, .readCoefPeakInnerCoeffHp)
  , (0x3dc0c000, .readCoefPeakInnerKPi)
  , (0x3dc0c100, .readCoefPeakInnerG) ]

/-- Rows of unit PEAK (R118). -/
def wordsPeakB : List (Word × Instr) :=
  [ (0x3dc0c200, .readCoefPeakInnerK)
  , (0x3dc0c300, .readCoefPeakInnerGk)
  , (0x3dc0c400, .readCoefPeakInnerHpD)
  , (0x3dc0c500, .readCoefPeakInnerCxAct)
  , (0x3dc0c600, .readCoefPeakInnerClpAct)
  , (0x3dc0c700, .readCoefPeakInnerCbpAct)
  , (0x3dc0c800, .readCoefPeakInnerChpAct)
  , (0x3dc0e000, .readCoefPeakInnerDirty)
  , (0x3dc0f000, .readCoefPeakLife)
  , (0x3dc0f100, .readCoefPeakGen)
  , (0x3dc0f200, .readCoefPeakFs)
  , (0x3dc0f300, .readCoefPeakDirty)
  , (0x3dc0f400, .readCoefPeakMemreq)
  , (0x41ea0000, .readStatePeakS1 0x2A)
  , (0x41ea0100, .readStatePeakS2 0x2A)
  , (0x41eaf000, .readStatePeakStValid 0x2A) ]

/-- Rows of unit DELAY (R118). -/
def wordsDelayA : List (Word × Instr) :=
  [ (0x06000000, .initDelay)
  , (0x0a000000, .setSrDelay)
  , (0x0e000000, .resetCoeffsDelay)
  , (0x122a0000, .resetStateDelay 0x2A)
  , (0x16000000, .updateCtrlDelay)
  , (0x1a000000, .updateAudioDelay)
  , (0x1e2a0000, .process1Delay 0x2A)
  , (0x222a0000, .processDelay 0x2A)
  , (0x26000000, .processMultiDelay)
  , (0x2e000000, .memReqDelay)
  , (0x322a0000, .memSetDelay 0x2A)
  , (0x362a0000, .delayReadDelay 0x2A)
  , (0x3a2a0000, .delayWriteDelay 0x2A)
  , (0x2a000000, .setParamDelayDelay)
  , (0x3e000000, .readCoefDelayDelay)
  , (0x3e000100, .readCoefDelayMaxDelay)
  , (0x3e004000, .readCoefDelayLen)
  , (0x3e004100, .readCoefDelayDi)
  , (0x3e004200, .readCoefDelayDf)
  , (0x3e00f000, .readCoefDelayLife)
  , (0x3e00f100, .readCoefDelayGen)
  , (0x3e00f200, .readCoefDelayFs)
  , (0x3e00f300, .readCoefDelayDirty)
  , (0x3e00f400, .readCoefDelayMemreq)
  , (0x422a0000, .readStateDelayW 0x2A)
  , (0x422af000, .readStateDelayStValid 0x2A)
  , (0x422af100, .readStateDelayMemBound 0x2A)
  , (0x422af200, .readStateDelayMemBase 0x2A) ]

/-- Rows of unit REVERB (R118). -/
def wordsReverbA : List (Word × Instr) :=
  [ (0x06400000, .initReverb)
  , (0x0a400000, .setSrReverb)
  , (0x0e400000, .resetCoeffsReverb)
  , (0x126a0000, .resetStateReverb 0x2A)
  , (0x16400000, .updateCtrlReverb)
  , (0x1a400000, .updateAudioReverb)
  , (0x1e6a0000, .process1Reverb 0x2A)
  , (0x226a0000, .processReverb 0x2A)
  , (0x26400000, .processMultiReverb)
  , (0x2e400000, .memReqReverb)
  , (0x326a0000, .memSetReverb 0x2A)
  , (0x2a400000, .setParamReverbPredelay)
  , (0x2a400100, .setParamReverbBandwidth)
  , (0x2a400200, .setParamReverbDamping)
  , (0x2a400300, .setParamReverbDecay)
  , (0x3e400000, .readCoefReverbPredelay)
  , (0x3e400100, .readCoefReverbBandwidth)
  , (0x3e400200, .readCoefReverbDamping)
  , (0x3e400300, .readCoefReverbDecay)
  , (0x3e404000, .readCoefReverbKExp)
  , (0x3e404100, .readCoefReverbABw)
  , (0x3e404200, .readCoefReverbADamp)
  , (0x3e404300, .readCoefReverbDecayG)
  , (0x3e404400, .readCoefReverbDd2g)
  , (0x3e404500, .readCoefReverbAPds)
  , (0x3e404600, .readCoefReverbSt2Pd)
  , (0x3e404700, .readCoefReverbPdTarget)
  , (0x3e404800, .readCoefReverbPdS)
  , (0x3e404900, .readCoefReverbPdN)
  , (0x3e404a00, .readCoefReverbLfoPhase)
  , (0x3e404b00, .readCoefReverbLfoInc)
  , (0x3e404c00, .readCoefReverbLfoM)
  , (0x3e404d00, .readCoefReverbExc)
  , (0x3e404e00, .readCoefReverbRatio)
  , (0x3e404f00, .readCoefReverbDi1)
  , (0x3e405000, .readCoefReverbDf1)
  , (0x3e405100, .readCoefReverbDi3)
  , (0x3e405200, .readCoefReverbDf3)
  , (0x3e406000, .readCoefReverbN1)
  , (0x3e406100, .readCoefReverbN2) ]

/-- Rows of unit REVERB (R118). -/
def wordsReverbB : List (Word × Instr) :=
  [ (0x3e406200, .readCoefReverbN3)
  , (0x3e406300, .readCoefReverbN4)
  , (0x3e406400, .readCoefReverbN5)
  , (0x3e406500, .readCoefReverbN6)
  , (0x3e406600, .readCoefReverbN7)
  , (0x3e406700, .readCoefReverbN8)
  , (0x3e406800, .readCoefReverbN9)
  , (0x3e406900, .readCoefReverbN10)
  , (0x3e406a00, .readCoefReverbN11)
  , (0x3e406b00, .readCoefReverbN12)
  , (0x3e407000, .readCoefReverbCap0)
  , (0x3e407100, .readCoefReverbCap1)
  , (0x3e407200, .readCoefReverbCap2)
  , (0x3e407300, .readCoefReverbCap3)
  , (0x3e407400, .readCoefReverbCap4)
  , (0x3e407500, .readCoefReverbCap5)
  , (0x3e407600, .readCoefReverbCap6)
  , (0x3e407700, .readCoefReverbCap7)
  , (0x3e407800, .readCoefReverbCap8)
  , (0x3e407900, .readCoefReverbCap9)
  , (0x3e407a00, .readCoefReverbCap10)
  , (0x3e407b00, .readCoefReverbCap11)
  , (0x3e407c00, .readCoefReverbCap12)
  , (0x3e408000, .readCoefReverbOff0)
  , (0x3e408100, .readCoefReverbOff1)
  , (0x3e408200, .readCoefReverbOff2)
  , (0x3e408300, .readCoefReverbOff3)
  , (0x3e408400, .readCoefReverbOff4)
  , (0x3e408500, .readCoefReverbOff5)
  , (0x3e408600, .readCoefReverbOff6)
  , (0x3e408700, .readCoefReverbOff7)
  , (0x3e408800, .readCoefReverbOff8)
  , (0x3e408900, .readCoefReverbOff9)
  , (0x3e408a00, .readCoefReverbOff10)
  , (0x3e408b00, .readCoefReverbOff11)
  , (0x3e408c00, .readCoefReverbOff12)
  , (0x3e409000, .readCoefReverbTaplK0)
  , (0x3e409100, .readCoefReverbTaplK1)
  , (0x3e409200, .readCoefReverbTaplK2)
  , (0x3e409300, .readCoefReverbTaplK3) ]

/-- Rows of unit REVERB (R118). -/
def wordsReverbC : List (Word × Instr) :=
  [ (0x3e409400, .readCoefReverbTaplK4)
  , (0x3e409500, .readCoefReverbTaplK5)
  , (0x3e409600, .readCoefReverbTaplK6)
  , (0x3e409800, .readCoefReverbTaprK0)
  , (0x3e409900, .readCoefReverbTaprK1)
  , (0x3e409a00, .readCoefReverbTaprK2)
  , (0x3e409b00, .readCoefReverbTaprK3)
  , (0x3e409c00, .readCoefReverbTaprK4)
  , (0x3e409d00, .readCoefReverbTaprK5)
  , (0x3e409e00, .readCoefReverbTaprK6)
  , (0x3e40f000, .readCoefReverbLife)
  , (0x3e40f100, .readCoefReverbGen)
  , (0x3e40f200, .readCoefReverbFs)
  , (0x3e40f300, .readCoefReverbDirty)
  , (0x3e40f400, .readCoefReverbMemreq)
  , (0x426a0000, .readStateReverbBwZ1 0x2A)
  , (0x426a0100, .readStateReverbDlZ1 0x2A)
  , (0x426a0200, .readStateReverbDrZ1 0x2A)
  , (0x426a1000, .readStateReverbW0 0x2A)
  , (0x426a1100, .readStateReverbW1 0x2A)
  , (0x426a1200, .readStateReverbW2 0x2A)
  , (0x426a1300, .readStateReverbW3 0x2A)
  , (0x426a1400, .readStateReverbW4 0x2A)
  , (0x426a1500, .readStateReverbW5 0x2A)
  , (0x426a1600, .readStateReverbW6 0x2A)
  , (0x426a1700, .readStateReverbW7 0x2A)
  , (0x426a1800, .readStateReverbW8 0x2A)
  , (0x426a1900, .readStateReverbW9 0x2A)
  , (0x426a1a00, .readStateReverbW10 0x2A)
  , (0x426a1b00, .readStateReverbW11 0x2A)
  , (0x426a1c00, .readStateReverbW12 0x2A)
  , (0x426af000, .readStateReverbStValid 0x2A)
  , (0x426af100, .readStateReverbMemBound 0x2A)
  , (0x426af200, .readStateReverbMemBase 0x2A) ]

/-- Every row's word, unit by unit (R118: 471 rows). -/
def allWords : List (Word × Instr) :=
  wordsOnepoleA ++ wordsMm1A ++ wordsMm2A ++ wordsMm2B ++ wordsHp1A ++ wordsLs1A ++ wordsLs2A ++ wordsLs2B ++ wordsAp2A ++
  wordsAp2B ++ wordsPeakA ++ wordsPeakB ++ wordsDelayA ++ wordsReverbA ++ wordsReverbB ++ wordsReverbC

/-- Every command's written-out word decodes to it, and the encoder gives that word back. -/
theorem allWords_decode : decodesTo allWords = true := by decide +kernel

/-- The written-out words cover the table: one word for each of its 471 rows (R118). -/
theorem allWords_length : allWords.length = 471 := by decide +kernel

end Sys2Proof
end

