-- ==== Sys2Proof/Config.lean ====
section
/-! DEFINITION. What an implementation of the block fixes (00_scope.md R6), and the values the spec leaves
open. An `opaque` constant has no body: nothing in Lean can evaluate it, so a statement about it holds
for every value. The OPEN parameters `N_CH`, `BASE` and `REV_TABLE`, and the platform's memory map, are plain data of the
state (Machine/State.lean `Hardware`), so that every statement is about every instance; their values here are those of
the block `State.reset` describes. -/

namespace Sys2Proof.Config

/-! ### Free values -/

/-- The operations whose result can be a NaN. -/
inductive FloatOp where
  | add | sub | mul | div | sqrt
  deriving DecidableEq, Repr

/-- FREE VALUE. The word from which the NaN of an operation on its operands is made (Machine/Binary32.lean `nanOf`): R8
fixes every result but the sign and payload of a NaN. DESIGN CHOICE, notes/assumptions/5. -/
opaque nanWord : FloatOp → F32 → F32 → Word

/-- FREE VALUE. The numeric service `NUM.exp` of R10 before its stated properties are imposed
(Machine/Binary32.lean `numExp`). notes/assumptions/4. -/
opaque numExpRaw : F32 → F32

/-- FREE VALUE. The numeric service `NUM.tan` of R10 before its stated properties are imposed. -/
opaque numTanRaw : F32 → F32

/-- FREE VALUE. The numeric service `NUM.pow2` of R10 before its stated properties are imposed. -/
opaque numPow2Raw : F32 → F32

/-- FREE VALUE. The numeric service `NUM.sin2pi` of R10 before its stated properties are imposed. -/
opaque numSin2piRaw : F32 → F32

/-! ### Parameters with a value (R6) -/

/-- `N_CH` of the block `State.reset` describes (R6: OPEN, 1..64, "examples use 2"). DESIGN CHOICE, notes/assumptions/2. -/
def resetNCh : Nat := 2

/-- `BASE` of the block `State.reset` describes (R6: OPEN, 64-byte aligned). DESIGN CHOICE, notes/assumptions/14. -/
def resetBase : Nat := 0

/-- `FS_MIN`, 1.0 Hz (R6). -/
def fsMin : F32 := 0x3F800000#32

/-- `FS_MIN_REV`, 1000 Hz (R6). -/
def fsMinRev : F32 := 0x447A0000#32

/-- `FS_MAX_REV`, 768000 Hz (R6). -/
def fsMaxRev : F32 := 0x493B8000#32

/-- 16777215, the largest `fs * max_delay` that `DLEN_MAX` = 2^24 admits (R6, 44_delay.md R345). -/
def delayMax : F32 := 0x4B7FFFFF#32

/-- `REV_LFO_HZ`, 1.0 Hz (R6). -/
def revLfoHz : F32 := 0x3F800000#32

/-! ### The reverb's delay lines and REV_TABLE -/

/-- The thirteen delay lines of a REVERB channel, in index order j = 0..12 (10_state.md R43). -/
inductive RevLine where
  | pd | id1 | id2 | id3 | id4 | dd1 | dlL1 | dd2 | dlL2 | dd3 | dlR1 | dd4 | dlR2
  deriving DecidableEq, Repr

/-- The lines in index order (R43). -/
def revLines : List RevLine :=
  [.pd, .id1, .id2, .id3, .id4, .dd1, .dlL1, .dd2, .dlL2, .dd3, .dlR1, .dd4, .dlR2]

/-- The default REV_TABLE's reference length `L_j` in samples at 29761 Hz (R371); the predelay line has none. -/
def revLength : RevLine → Nat
  | .pd => 0
  | .id1 => 142 | .id2 => 107 | .id3 => 379 | .id4 => 277
  | .dd1 => 672 | .dlL1 => 4453 | .dd2 => 1800 | .dlL2 => 3720
  | .dd3 => 908 | .dlR1 => 4217 | .dd4 => 2656 | .dlR2 => 3163

/-- An output tap of a REV_TABLE: its line, its reference position and its sign (R371). -/
structure RevTap where
  /-- The line the tap reads. -/
  line : RevLine
  /-- The reference position `k_t`, in samples at 29761 Hz. -/
  pos : Nat
  /-- Whether the tap is added (`true`) or subtracted. -/
  plus : Bool
  deriving DecidableEq, Repr

/-- The index t = 0..6 of an output tap (R371). -/
inductive TapIx where
  | t0 | t1 | t2 | t3 | t4 | t5 | t6
  deriving DecidableEq, Repr

/-- The taps in the order they are summed (R371). -/
def tapOrder : List TapIx := [.t0, .t1, .t2, .t3, .t4, .t5, .t6]

/-- The default REV_TABLE's taps of the left output (R371, TAPL). -/
def tapL : TapIx → RevTap
  | .t0 => ⟨.dlR1, 266, true⟩
  | .t1 => ⟨.dlR1, 2974, true⟩
  | .t2 => ⟨.dd4, 1913, false⟩
  | .t3 => ⟨.dlR2, 1996, true⟩
  | .t4 => ⟨.dlL1, 1990, false⟩
  | .t5 => ⟨.dd2, 187, false⟩
  | .t6 => ⟨.dlL2, 1066, false⟩

/-- The default REV_TABLE's taps of the right output (R371, TAPR). -/
def tapR : TapIx → RevTap
  | .t0 => ⟨.dlL1, 353, true⟩
  | .t1 => ⟨.dlL1, 3627, true⟩
  | .t2 => ⟨.dd2, 1228, false⟩
  | .t3 => ⟨.dlL2, 2673, true⟩
  | .t4 => ⟨.dlR1, 2111, false⟩
  | .t5 => ⟨.dd4, 335, false⟩
  | .t6 => ⟨.dlR2, 121, false⟩

end Sys2Proof.Config
end

