-- ==== Sys2Proof/Machine/Constants.lean ====
section
/-! DEFINITION. The binary32 constants the rules name, by their encodings: a literal of a rule stands for the binary32
value nearest to it, and the rules give the encoding of every inexact one (00_scope.md R8). -/

namespace Sys2Proof.Machine

/-- +0. -/
def f0 : F32 := 0#32
/-- 0.15 (R371). -/
def f015 : F32 := 0x3E19999A#32
/-- 0.25 (R371). -/
def f025 : F32 := 0x3E800000#32
/-- 0.5. -/
def f05 : F32 := 0x3F000000#32
/-- 0.6 (R371). -/
def f06 : F32 := 0x3F19999A#32
/-- 0.625 (R371). -/
def f0625 : F32 := 0x3F200000#32
/-- 0.75 (R371). -/
def f075 : F32 := 0x3F400000#32
/-- -0.7 (R371). -/
def fm07 : F32 := 0xBF333333#32
/-- 0.1 (R371). -/
def f01 : F32 := 0x3DCCCCCD#32
/-- 1.0. -/
def f1 : F32 := 0x3F800000#32
/-- -1.0. -/
def fm1 : F32 := 0xBF800000#32
/-- -2.0. -/
def fm2 : F32 := 0xC0000000#32
/-- 8.0 (R371). -/
def f8 : F32 := 0x41000000#32
/-- 100.0, the bound of property P-POW2 (R10). -/
def f100 : F32 := 0x42C80000#32
/-- 600.0 dB (43_eq.md R295). -/
def db600 : F32 := 0x44160000#32
/-- -600.0 dB (43_eq.md R295). -/
def dbMinus600 : F32 := 0xC4160000#32
/-- 1000.0 Hz (10_state.md R38). -/
def hz1000 : F32 := 0x447A0000#32
/-- 2000.0 Hz (10_state.md R40). -/
def hz2000 : F32 := 0x44FA0000#32
/-- 20000.0 Hz (10_state.md R43). -/
def hz20000 : F32 := 0x469C4000#32
/-- 29761.0 Hz (R371). -/
def hz29761 : F32 := 0x46E88200#32
/-- +inf. -/
def posInf : F32 := 0x7F800000#32
/-- TWO_PI (41_one_pole.md R200). -/
def twoPi : F32 := 0x40C90FDB#32
/-- INV_2PI (R200). -/
def inv2Pi : F32 := 0x3E22F983#32
/-- CUTOFF_MAX (R200). -/
def cutoffMax : F32 := 0x4D17C830#32
/-- PI (42_svf.md R240). -/
def fPi : F32 := 0x40490FDB#32
/-- THETA_MAX (R240). -/
def thetaMax : F32 := 0x3FC8A8E9#32
/-- DB2LOG2 (43_eq.md R282). -/
def db2log2 : F32 := 0x3E2A152D#32
/-- 3.1830988 = 1/(2π·REV_PD_TAU) Hz, the predelay smoother's cutoff (45_reverb.md R376). -/
def pdCutoff : F32 := 0x404BB7E4#32
/-- 1e-6 s, the predelay smoother's threshold (R376). -/
def pdThresh : F32 := 0x358637BD#32
/-- The identification word (10_state.md R24). -/
def idWord : Word := 0x42570001#32

end Sys2Proof.Machine
end

