-- ==== Sys2Proof/Machine/Binary32.lean ====
section
/-! DEFINITION. IEEE 754 binary32 arithmetic on 32-bit encodings (00_scope.md R8, R9) and the numeric services (R10).

Every finite value is an integer multiple of 2^-149, so `scaled x = real(x) * 2^149` is an exact integer. An operation
computes its exact result as a ratio of integers in that unit and rounds it once, to nearest, ties to even, with gradual
underflow and overflow to infinity (R8). A result that is a NaN has a free sign and payload (notes/assumptions/5). -/

namespace Sys2Proof.Machine
open Sys2Proof.Config

/-! ### Fields and classes of an encoding -/

/-- The sign bit. -/
def signBit (x : F32) : Bool := x.msb

/-- The biased exponent field, bits 30:23. -/
def expField (x : F32) : Nat := x.toNat / 2 ^ 23 % 2 ^ 8

/-- The fraction field, bits 22:0. -/
def fracField (x : F32) : Nat := x.toNat % 2 ^ 23

/-- `isfinite` (R9): neither an infinity nor a NaN. -/
def isFinite (x : F32) : Bool := expField x != 255

/-- A NaN: exponent all ones, fraction not 0. -/
def isNaN (x : F32) : Bool := expField x == 255 && fracField x != 0

/-- An infinity of either sign. -/
def isInf (x : F32) : Bool := expField x == 255 && fracField x == 0

/-- A zero of either sign. -/
def isZero (x : F32) : Bool := x.toNat % 2 ^ 31 == 0

/-- `|real(x)| * 2^149` of a finite value; on an infinity the next value the pattern would reach, 2^277, which every
finite value is below. -/
def magnitude (x : F32) : Nat :=
  if expField x = 0 then fracField x else (2 ^ 23 + fracField x) * 2 ^ (expField x - 1)

/-- `real(x) * 2^149` (R9). -/
def scaled (x : F32) : Int := if signBit x then -(magnitude x : Int) else (magnitude x : Int)

/-! ### Rounding -/

/-- The integer nearest to `num / den`, ties to even. -/
def roundHalfEven (num den : Nat) : Nat :=
  let q := num / den
  let r := num % den
  if 2 * r < den then q else if den < 2 * r then q + 1 else q + q % 2

/-- The encoding, as a number with no sign and no bound, of the value nearest to `(num / den) * 2^-149`, ties to even.
Below 2^24 units the encodings are the multiples themselves (subnormals and the first normal binade); above, `k` is how
many binades up the value lies. -/
def roundMagnitude (num den : Nat) : Nat :=
  let k := Nat.log2 (num / den) - 23
  k * 2 ^ 23 + roundHalfEven num (den * 2 ^ k)

/-- A sign and the low 31 bits of an encoding. -/
def withSign (neg : Bool) (m : Nat) : F32 := BitVec.ofNat 32 (if neg then 2 ^ 31 + m else m)

/-- The infinity of a sign. -/
def infOf (neg : Bool) : F32 := withSign neg (255 * 2 ^ 23)

/-- The zero of a sign. -/
def zeroOf (neg : Bool) : F32 := withSign neg 0

/-- The binary32 value nearest to `± (num / den) * 2^-149`, ties to even, an infinity from the overflow threshold on
(R8). -/
def roundTo (neg : Bool) (num den : Nat) : F32 :=
  if roundMagnitude num den < 255 * 2 ^ 23 then withSign neg (roundMagnitude num den) else infOf neg

/-- The NaN of an operation: R8 fixes that it is one, and leaves sign and payload free. -/
def nanOf (op : FloatOp) (a b : F32) : F32 :=
  withSign (signBit (nanWord op a b))
    (255 * 2 ^ 23 + (if fracField (nanWord op a b) = 0 then 2 ^ 22 else fracField (nanWord op a b)))

/-! ### The operations of R8 -/

/-- `-a`: the sign flip, exact. -/
def fNeg (a : F32) : F32 := a ^^^ 0x80000000#32

/-- The sum of two values neither of which is a NaN, `op` naming the operation whose NaN an `inf - inf` gives. An exact
zero sum is +0 unless both operands are -0 (round to nearest). -/
def addCore (op : FloatOp) (a b b' : F32) : F32 :=
  if isNaN a || isNaN b' then nanOf op a b
  else if isInf a then (if isInf b' && signBit a != signBit b' then nanOf op a b else a)
  else if isInf b' then b'
  else if scaled a + scaled b' = 0 then zeroOf (signBit a && signBit b')
  else roundTo (decide (scaled a + scaled b' < 0)) (scaled a + scaled b').natAbs 1

/-- `a + b`. -/
def fAdd (a b : F32) : F32 := addCore .add a b b

/-- `a - b`: the sum of `a` and `-b`. -/
def fSub (a b : F32) : F32 := addCore .sub a b (fNeg b)

/-- `a * b`. -/
def fMul (a b : F32) : F32 :=
  if isNaN a || isNaN b then nanOf .mul a b
  else if isInf a || isInf b then
    (if isZero a || isZero b then nanOf .mul a b else infOf (signBit a != signBit b))
  else roundTo (signBit a != signBit b) (magnitude a * magnitude b) (2 ^ 149)

/-- `a / b`. -/
def fDiv (a b : F32) : F32 :=
  if isNaN a || isNaN b then nanOf .div a b
  else if isInf a then (if isInf b then nanOf .div a b else infOf (signBit a != signBit b))
  else if isInf b then zeroOf (signBit a != signBit b)
  else if isZero b then (if isZero a then nanOf .div a b else infOf (signBit a != signBit b))
  else roundTo (signBit a != signBit b) (magnitude a * 2 ^ 149) (magnitude b)

/-- The integer square root of `n` bit by bit: `acc` with each of 2^(k-1), ..., 2^0 added that keeps its square at
most `n`. -/
def isqrtFrom : Nat → Nat → Nat → Nat
  | 0, _, acc => acc
  | k + 1, n, acc => isqrtFrom k n (if (acc + 2 ^ k) * (acc + 2 ^ k) ≤ n then acc + 2 ^ k else acc)

/-- The integer square root of a number below 2^430. -/
def isqrt (n : Nat) : Nat := isqrtFrom 215 n 0

/-- `sqrt(a)`. The integer root of `real(a)·2^149·2^149` has more than 74 bits, so twice the root, plus one where the
root is not exact, rounds as the exact root does. -/
def fSqrt (a : F32) : F32 :=
  if isNaN a then nanOf .sqrt a a
  else if isZero a then a
  else if signBit a then nanOf .sqrt a a
  else if isInf a then a
  else
    let n := magnitude a * 2 ^ 149
    let r := isqrt n
    roundTo false (2 * r + (if r * r = n then 0 else 1)) 2

/-! ### Comparisons, min and max (R8) -/

/-- `a < b`: false when either is a NaN. -/
def fLt (a b : F32) : Bool := !isNaN a && !isNaN b && decide (scaled a < scaled b)

/-- `a <= b`: false when either is a NaN. -/
def fLe (a b : F32) : Bool := !isNaN a && !isNaN b && decide (scaled a ≤ scaled b)

/-- `a == b`: false when either is a NaN; `+0 == -0`. -/
def fEq (a b : F32) : Bool := !isNaN a && !isNaN b && decide (scaled a = scaled b)

/-- `a != b`: true when either is a NaN. -/
def fNe (a b : F32) : Bool := !fEq a b

/-- `min(a, b)` is `a` if `a <= b`, else `b`. -/
def fMin (a b : F32) : F32 := if fLe a b then a else b

/-- `max(a, b)` is `a` if `a >= b`, else `b`. -/
def fMax (a b : F32) : F32 := if fLe b a then a else b

/-! ### Conversions (R9) -/

/-- `floor(real(x))`. -/
def realFloor (x : F32) : Int := scaled x / 2 ^ 149

/-- `ceil(real(x))`. -/
def realCeil (x : F32) : Int := -(-scaled x / 2 ^ 149)

/-- `round_half_away(real(x))`. -/
def realRound (x : F32) : Int :=
  if signBit x then -(((2 * magnitude x + 2 ^ 149) / 2 ^ 150 : Nat) : Int)
  else (((2 * magnitude x + 2 ^ 149) / 2 ^ 150 : Nat) : Int)

/-- `to_f32(n)`, exact for n <= 2^24. -/
def toF32 (n : Nat) : F32 := roundTo false (n * 2 ^ 149) 1

/-! ### Numeric services (R10)

Each is the free function of Config with the properties of R10 imposed on it: where the raw value breaks a property, it is
replaced by one that keeps it. Every total function with the properties is such a function, and every such function has
them. -/

/-- `NUM.exp`, with P-EXP0 and P-EXP1. -/
def numExp (v : F32) : F32 :=
  if isZero v then f1
  else if isFinite v && fLe v f0 && !(isFinite (numExpRaw v) && fLe f0 (numExpRaw v) && fLe (numExpRaw v) f1) then f0
  else numExpRaw v

/-- `NUM.tan`, with P-TAN0 and P-TAN1. -/
def numTan (v : F32) : F32 :=
  if v = f0 then f0
  else if fLe f0 v && fLe v thetaMax && !(isFinite (numTanRaw v) && fLe f0 (numTanRaw v)) then f0
  else numTanRaw v

/-- `NUM.pow2`, with P-POW2. -/
def numPow2 (v : F32) : F32 :=
  if isFinite v && fLe (fNeg f100) v && fLe v f100 && !(isFinite (numPow2Raw v) && fLt f0 (numPow2Raw v)) then f1
  else numPow2Raw v

/-- `NUM.sin2pi`, with P-SIN. -/
def numSin2pi (v : F32) : F32 :=
  if fLe f0 v && fLt v f1 && !(isFinite (numSin2piRaw v) && fLe fm1 (numSin2piRaw v) && fLe (numSin2piRaw v) f1) then f0
  else numSin2piRaw v

end Sys2Proof.Machine
end

