-- ==== Sys2Proof/Machine/State.lean ====
section
/-! DEFINITION. The machine's state: every register, flag and memory the spec gives the block (10_state.md,
20_memory.md, 70_reset_and_hazards.md R471), as plain data; the three fields that are the model's own (the instance the
block is, the host's pending accesses, the answer to the last one); the ways a step can stop; and the state after reset. -/

namespace Sys2Proof.Machine
open Sys2Proof.Config

/-! ### Names -/

/-- The ten units (30_encoding.md R113). -/
inductive UnitId where
  | onepole | mm1 | mm2 | hp1 | ls1 | ls2 | ap2 | peak | delay | reverb
  deriving DecidableEq, Repr

/-- A unit's lifecycle (10_state.md R30). -/
inductive Life where
  | uninit | inited | srSet | ready
  deriving DecidableEq, Repr

/-- The fault codes (60_exceptions.md R431). A fault of the block is a NEXT state of the model (R440), not one of the
stops below. -/
inductive FaultCode where
  | illegal | badChannel | lifecycle | stateInvalid | memUnbound | paramRange | nonfinite | misaligned | busError
  | addrRange | operandRange
  deriving DecidableEq, Repr

/-! ### How a step of the model can stop -/

/-- Why a step ends with no next state although the spec describes the access: the address does not exist. -/
inductive Fault where
  /-- Raised by an engine access whose address is not 4-aligned or lies past 2^32 (20_memory.md R80, R85, R86). The
  checks of R85 and R86 keep every reachable state from it; only states no run reaches raise it. Safe. -/
  | engineAddress (a : Nat)
  /-- Raised by a host access to data memory that runs past 2^32 (R80). Safe. -/
  | hostAddress (a : Nat)
  deriving DecidableEq, Repr

/-- Why a step has no meaning in the model. -/
inductive Refusal where
  /-- Raised by an arm of `exec` that has no meaning yet. Safe. -/
  | notModelled (mnemonic : String)
  /-- Raised by an access, of the engine or of the host, to a location with read or write side effects, which R87
  (20_memory.md) puts outside the model: "a model refuses such a launch". Safe. -/
  | sideEffectMemory (a : Nat)
  deriving DecidableEq, Repr

/-! ### Tables by unit, line and tap -/

/-- One value for each unit. -/
structure PerUnit (α : Type) where
  onepole : α
  mm1 : α
  mm2 : α
  hp1 : α
  ls1 : α
  ls2 : α
  ap2 : α
  peak : α
  delay : α
  reverb : α
  deriving DecidableEq, Repr

/-- One value for each delay line of the reverb (10_state.md R43). -/
structure PerLine (α : Type) where
  pd : α
  id1 : α
  id2 : α
  id3 : α
  id4 : α
  dd1 : α
  dlL1 : α
  dd2 : α
  dlL2 : α
  dd3 : α
  dlR1 : α
  dd4 : α
  dlR2 : α
  deriving DecidableEq, Repr

/-- One value for each output tap t = 0..6 (45_reverb.md R371). -/
structure PerTap (α : Type) where
  t0 : α
  t1 : α
  t2 : α
  t3 : α
  t4 : α
  t5 : α
  t6 : α
  deriving DecidableEq, Repr

/-- The table of a function of the line. -/
def PerLine.of {α : Type} (f : RevLine → α) : PerLine α :=
  ⟨f .pd, f .id1, f .id2, f .id3, f .id4, f .dd1, f .dlL1, f .dd2, f .dlL2, f .dd3, f .dlR1, f .dd4, f .dlR2⟩

/-- The table of a function of the tap. -/
def PerTap.of {α : Type} (f : TapIx → α) : PerTap α := ⟨f .t0, f .t1, f .t2, f .t3, f .t4, f .t5, f .t6⟩

/-- The same value for every unit. -/
def PerUnit.const {α : Type} (v : α) : PerUnit α := ⟨v, v, v, v, v, v, v, v, v, v⟩

/-- The same value for every line. -/
def PerLine.const {α : Type} (v : α) : PerLine α := ⟨v, v, v, v, v, v, v, v, v, v, v, v, v⟩

/-- The same value for every tap. -/
def PerTap.const {α : Type} (v : α) : PerTap α := ⟨v, v, v, v, v, v, v⟩

/-! ### Coefficient banks (10_state.md, section 4)

Field defaults are the block-reset values (70_reset_and_hazards.md R470): every register 0. -/

/-- The registers every unit has (R30 to R33). -/
structure UnitRegs where
  /-- LIFE (R30). -/
  life : Life := .uninit
  /-- GEN (R31). -/
  gen : Word := 0
  /-- FS (R32). -/
  fs : F32 := 0
  /-- DIRTY (R33). -/
  dirty : Word := 0
  deriving DecidableEq, Repr

/-- ONEPOLE's coefficient registers (R37). -/
structure OnePoleCoefs where
  cutoffUp : F32 := 0
  cutoffDown : F32 := 0
  stickyThresh : F32 := 0
  stickyMode : Word := 0
  kExp : F32 := 0
  aUp : F32 := 0
  aDown : F32 := 0
  st2 : F32 := 0
  modeAct : Word := 0
  deriving DecidableEq, Repr

/-- A bank of the first-order core: MM1's registers (R38), and the inner bank of HP1 and LS1 (R41). -/
structure Mm1Bank where
  cutoff : F32 := 0
  prewarpAtCutoff : Word := 0
  prewarpFreq : F32 := 0
  coeffX : F32 := 0
  coeffLp : F32 := 0
  kPi : F32 := 0
  g : F32 := 0
  g1 : F32 := 0
  cxAct : F32 := 0
  clpAct : F32 := 0
  deriving DecidableEq, Repr

/-- A bank of the second-order core: MM2's registers (R39), and the inner bank of LS2, AP2 and PEAK (R41). -/
structure Mm2Bank where
  cutoff : F32 := 0
  q : F32 := 0
  prewarpAtCutoff : Word := 0
  prewarpFreq : F32 := 0
  coeffX : F32 := 0
  coeffLp : F32 := 0
  coeffBp : F32 := 0
  coeffHp : F32 := 0
  kPi : F32 := 0
  g : F32 := 0
  k : F32 := 0
  gk : F32 := 0
  hpD : F32 := 0
  cxAct : F32 := 0
  clpAct : F32 := 0
  cbpAct : F32 := 0
  chpAct : F32 := 0
  deriving DecidableEq, Repr

/-- HP1's own registers and its inner MM1 bank with its DIRTY mask (R40, R41). -/
structure Hp1Coefs where
  cutoff : F32 := 0
  prewarpAtCutoff : Word := 0
  prewarpFreq : F32 := 0
  inner : Mm1Bank := {}
  innerDirty : Word := 0
  deriving DecidableEq, Repr

/-- LS1's own registers and its inner MM1 bank with its DIRTY mask (R40, R41). -/
structure Ls1Coefs where
  cutoff : F32 := 0
  dcGainLin : F32 := 0
  dcGainDb : F32 := 0
  prewarpAtCutoff : Word := 0
  prewarpFreq : F32 := 0
  gainIsDb : Word := 0
  g : F32 := 0
  inner : Mm1Bank := {}
  innerDirty : Word := 0
  deriving DecidableEq, Repr

/-- LS2's own registers and its inner MM2 bank with its DIRTY mask (R40, R41). -/
structure Ls2Coefs where
  cutoff : F32 := 0
  q : F32 := 0
  dcGainLin : F32 := 0
  dcGainDb : F32 := 0
  prewarpAtCutoff : Word := 0
  prewarpFreq : F32 := 0
  gainIsDb : Word := 0
  g : F32 := 0
  ki : F32 := 0
  inner : Mm2Bank := {}
  innerDirty : Word := 0
  deriving DecidableEq, Repr

/-- AP2's own registers and its inner MM2 bank with its DIRTY mask (R40, R41). -/
structure Ap2Coefs where
  cutoff : F32 := 0
  q : F32 := 0
  prewarpAtCutoff : Word := 0
  prewarpFreq : F32 := 0
  ki : F32 := 0
  inner : Mm2Bank := {}
  innerDirty : Word := 0
  deriving DecidableEq, Repr

/-- PEAK's own registers and its inner MM2 bank with its DIRTY mask (R40, R41). -/
structure PeakCoefs where
  cutoff : F32 := 0
  q : F32 := 0
  peakGainLin : F32 := 0
  peakGainDb : F32 := 0
  bandwidth : F32 := 0
  useBandwidth : Word := 0
  prewarpAtCutoff : Word := 0
  prewarpFreq : F32 := 0
  gainIsDb : Word := 0
  g : F32 := 0
  qu : F32 := 0
  qi : F32 := 0
  ki : F32 := 0
  inner : Mm2Bank := {}
  innerDirty : Word := 0
  deriving DecidableEq, Repr

/-- DELAY's coefficient registers (R42). -/
structure DelayCoefs where
  delay : F32 := 0
  maxDelay : F32 := 0
  len : Word := 0
  di : Word := 0
  df : F32 := 0
  memReq : Word := 0
  deriving DecidableEq, Repr

/-- REVERB's coefficient registers (R43). `n` holds N[1] to N[12] under their lines' names; the predelay line has no
`N`, and its place in `n` is no register: it stays 0. -/
structure ReverbCoefs where
  predelay : F32 := 0
  bandwidth : F32 := 0
  damping : F32 := 0
  decay : F32 := 0
  kExp : F32 := 0
  aBw : F32 := 0
  aDamp : F32 := 0
  decayG : F32 := 0
  dd2G : F32 := 0
  aPds : F32 := 0
  st2Pd : F32 := 0
  pdTarget : F32 := 0
  pdS : F32 := 0
  pdN : Word := 0
  lfoPhase : F32 := 0
  lfoInc : F32 := 0
  lfoM : F32 := 0
  exc : F32 := 0
  ratio : F32 := 0
  di1 : Word := 0
  df1 : F32 := 0
  di3 : Word := 0
  df3 : F32 := 0
  n : PerLine Word := PerLine.const 0
  cap : PerLine Word := PerLine.const 0
  off : PerLine Word := PerLine.const 0
  tapLK : PerTap Word := PerTap.const 0
  tapRK : PerTap Word := PerTap.const 0
  memReq : Word := 0
  deriving DecidableEq, Repr

/-- The coefficient banks of the ten units. -/
structure Coefs where
  onepole : OnePoleCoefs := {}
  mm1 : Mm1Bank := {}
  mm2 : Mm2Bank := {}
  hp1 : Hp1Coefs := {}
  ls1 : Ls1Coefs := {}
  ls2 : Ls2Coefs := {}
  ap2 : Ap2Coefs := {}
  peak : PeakCoefs := {}
  delay : DelayCoefs := {}
  reverb : ReverbCoefs := {}
  deriving DecidableEq, Repr

/-! ### Channel state (10_state.md, section 5) -/

/-- ONEPOLE's channel state (R44). -/
structure OnePoleState where
  yZ1 : F32 := 0
  deriving DecidableEq, Repr

/-- The channel state of MM1, HP1 and LS1 (R44). -/
structure Mm1State where
  s : F32 := 0
  deriving DecidableEq, Repr

/-- The channel state of MM2, LS2, AP2 and PEAK (R44). -/
structure Mm2State where
  s1 : F32 := 0
  s2 : F32 := 0
  deriving DecidableEq, Repr

/-- DELAY's channel state (R44): the write cursor. -/
structure DelayState where
  w : Word := 0
  deriving DecidableEq, Repr

/-- REVERB's channel state (R44). -/
structure ReverbState where
  bwZ1 : F32 := 0
  dlZ1 : F32 := 0
  drZ1 : F32 := 0
  w : PerLine Word := PerLine.const 0
  deriving DecidableEq, Repr

/-- A DELAY or REVERB channel's memory binding (R36). -/
structure Binding where
  /-- MEM_BOUND. -/
  bound : Bool := false
  /-- MEM_BASE. -/
  base : Word := 0
  deriving DecidableEq, Repr

/-- The channel banks of every unit, each a list of `N_CH` banks (R44, 00_scope.md R6). -/
structure Chans where
  onepole : List OnePoleState
  mm1 : List Mm1State
  mm2 : List Mm2State
  hp1 : List Mm1State
  ls1 : List Mm1State
  ls2 : List Mm2State
  ap2 : List Mm2State
  peak : List Mm2State
  delay : List DelayState
  reverb : List ReverbState
  deriving DecidableEq, Repr

/-- The bindings of the units that have memory, each a list of `N_CH` (R36). -/
structure Binds where
  delay : List Binding
  reverb : List Binding
  deriving DecidableEq, Repr

/-- `n` channel banks of every unit, every register 0. -/
def Chans.zero (n : Nat) : Chans :=
  ⟨.replicate n {}, .replicate n {}, .replicate n {}, .replicate n {}, .replicate n {}, .replicate n {},
    .replicate n {}, .replicate n {}, .replicate n {}, .replicate n {}⟩

/-- `n` bindings of each unit that has memory, none bound. -/
def Binds.zero (n : Nat) : Binds := ⟨.replicate n {}, .replicate n {}⟩

/-! ### The register window (10_state.md, section 2) -/

/-- The registers of the window that hold something: CMD reads 0, CTRL reads 0 and its one bit only acts, ID and NCH are
constants (R23 to R28), so none of those four is stored. -/
structure Window where
  /-- STATUS (R25). -/
  status : Word := 0
  /-- FAULT_CMD (R26). -/
  faultCmd : Word := 0
  /-- FAULT_INFO0 (R26). -/
  faultInfo0 : Word := 0
  /-- FAULT_INFO1 (R26). -/
  faultInfo1 : Word := 0
  arg0 : Word := 0
  arg1 : Word := 0
  arg2 : Word := 0
  arg3 : Word := 0
  arg4 : Word := 0
  arg5 : Word := 0
  res0 : Word := 0
  res1 : Word := 0
  deriving DecidableEq, Repr

/-! ### The instance and the host (the model's own state) -/

/-- How the platform answers accesses to a range of data memory that is not ordinary memory, a read and a write alike:
R81 (20_memory.md) leaves to the platform whether they differ, as in read-only memory. DESIGN CHOICE,
notes/assumptions/3. -/
inductive RegionKind where
  /-- Nothing backs it: the bus answers an error (20_memory.md R81). -/
  | busError
  /-- A location with read or write side effects (R87). -/
  | sideEffect
  deriving DecidableEq, Repr

/-- A byte range of data memory that is not ordinary memory. -/
structure Region where
  base : Nat
  size : Nat
  kind : RegionKind
  deriving DecidableEq, Repr

/-- A REV_TABLE (00_scope.md R6, 45_reverb.md R371): the reference lengths and output taps of the reverb, in samples at
29761 Hz. -/
structure RevTable where
  /-- `L_j` of the lines j = 1..12; the predelay line has none, and its place stays 0. -/
  length : PerLine Nat
  /-- The taps of the left output, in the order they are summed. -/
  tapL : PerTap RevTap
  /-- The taps of the right output, in the order they are summed. -/
  tapR : PerTap RevTap
  deriving DecidableEq, Repr

/-- The default REV_TABLE, the value this hardware takes (R6, R371). -/
def RevTable.default : RevTable :=
  ⟨PerLine.of Config.revLength, PerTap.of Config.tapL, PerTap.of Config.tapR⟩

/-- Which block this is: the parameters that differ between instances (00_scope.md R6 `N_CH`, `BASE`, `REV_TABLE`;
20_memory.md R81, R90: the platform fixes the window's address and which data addresses memory backs). No step changes
it. -/
structure Hardware where
  /-- `N_CH`. -/
  nCh : Nat
  /-- `BASE`, the host physical address of the register window. -/
  base : Nat
  /-- `REV_TABLE`. -/
  revTable : RevTable
  /-- The ranges that are not ordinary memory; every other address is. -/
  regions : List Region
  deriving DecidableEq, Repr

/-- The width of a host access: one byte and `extra` more. 20_memory.md R89 speaks of narrower and wider accesses and
names no widths, so an access may have any number of bytes but none. -/
structure AccessSize where
  extra : Nat
  deriving DecidableEq, Repr

/-- An 8-bit access. -/
def AccessSize.byte : AccessSize := ⟨0⟩

/-- A 16-bit access. -/
def AccessSize.half : AccessSize := ⟨1⟩

/-- A 32-bit access, the one width the window takes (R89). -/
def AccessSize.word : AccessSize := ⟨3⟩

/-- A 64-bit access. -/
def AccessSize.double : AccessSize := ⟨7⟩

/-- What the outside does to the block or to data memory, one item a step, in the host's program order (20_memory.md
R95). -/
inductive HostEvent where
  /-- A host store at a host physical address, where the register window is (R80, R89, R90). Only an access of a word
  reaches a register, so `w` is all the data that matters. -/
  | store (a : Nat) (size : AccessSize) (w : Word)
  /-- A host load at a host physical address, where the register window is. -/
  | load (a : Nat) (size : AccessSize)
  /-- A host store of a word of data memory (30_encoding.md R119 `mw`). -/
  | memStore (a : Word) (w : Word)
  /-- A host load of a word of data memory (R119 `mr`). -/
  | memLoad (a : Word)
  /-- A host store of one byte of data memory (20_memory.md R83). -/
  | memStoreByte (a : Word) (b : Byte)
  /-- A host load of one byte of data memory (R83). -/
  | memLoadByte (a : Word)
  /-- The platform asserts the reset input (70_reset_and_hazards.md R470). -/
  | resetInput
  deriving DecidableEq, Repr

/-- What the last host access was answered with. -/
inductive Reply where
  /-- No host access has been made yet. -/
  | idle
  /-- A store completed. -/
  | stored
  /-- A load completed with this word. -/
  | data (w : Word)
  /-- A bus error response (R81, R89). -/
  | busError
  /-- The access reached no byte of the register window: the block does not answer it (R90; notes/assumptions/14). -/
  | elsewhere
  deriving DecidableEq, Repr

/-! ### The state -/

/-- The state of the block, of data memory and of the host's queue. -/
structure State where
  /-- The instance. The model's own. -/
  hw : Hardware
  /-- The register window (10_state.md R23). -/
  win : Window
  /-- LIFE, GEN, FS and DIRTY of every unit (R30 to R33). -/
  regs : PerUnit UnitRegs
  /-- ST_VALID of every channel of every unit (R35). -/
  valid : PerUnit (List Bool)
  /-- MEM_BOUND and MEM_BASE of every channel of DELAY and REVERB (R36). -/
  binds : Binds
  /-- The coefficient registers (R37 to R43). -/
  coefs : Coefs
  /-- The channel state registers (R44). -/
  chans : Chans
  /-- Data memory (20_memory.md R80): the bytes that differ from what an unlisted address reads as, addresses strictly
  rising. -/
  mem : List Host.Cell
  /-- The accesses the host has still to make, the next one first. The model's own. -/
  inbox : List HostEvent
  /-- The answer to the host's last access. The model's own. -/
  reply : Reply
  deriving DecidableEq, Repr

/-- The state right after reset of a block with `nCh` channels and the given memory map (70_reset_and_hazards.md R470,
R471): every register 0, every unit UNINIT, nothing listed in memory, no host access made. -/
def State.resetOf (hw : Hardware) : State where
  hw := hw
  win := {}
  regs := PerUnit.const {}
  valid := PerUnit.const (List.replicate hw.nCh false)
  binds := Binds.zero hw.nCh
  coefs := {}
  chans := Chans.zero hw.nCh
  mem := []
  inbox := []
  reply := .idle

/-- The machine right after reset (R471), for `N_CH` = 2, `BASE` = 0, the default REV_TABLE and ordinary memory
everywhere (notes/assumptions/2, 14, 7, 3). -/
def State.reset : State :=
  State.resetOf { nCh := Config.resetNCh, base := Config.resetBase, revTable := .default, regions := [] }

end Sys2Proof.Machine
end

