-- ==== Sys2Proof/Machine/Flags.lean ====
section
/-! DEFINITION. Every flag of the block (10_state.md R46): STATUS.FAULT and its CODE, the codes of LIFE, the 0/1 words,
and the DIRTY masks. The block has no condition codes: IEEE exception flags are discarded (R46). ST_VALID and MEM_BOUND
are written by the operations of Machine/Ops.lean. -/

namespace Sys2Proof.Machine

/-- The value of LIFE a host reads (R30). -/
def lifeCode : Life → Word
  | .uninit => 0
  | .inited => 1
  | .srSet => 2
  | .ready => 3

/-- STATUS.CODE of a fault (60_exceptions.md R431). -/
def faultByte : FaultCode → BitVec 8
  | .illegal => 0x01
  | .badChannel => 0x02
  | .lifecycle => 0x03
  | .stateInvalid => 0x04
  | .memUnbound => 0x05
  | .paramRange => 0x06
  | .nonfinite => 0x07
  | .misaligned => 0x08
  | .busError => 0x09
  | .addrRange => 0x0A
  | .operandRange => 0x0B

/-- A 0/1 register's word. -/
def flagWord (b : Bool) : Word := if b then 1 else 0

/-- STATUS.FAULT, bit 0 (R25). -/
def statusFault (status : Word) : Bool := status.getLsbD 0

/-- STATUS.BUSY, bit 1 (R25). -/
def statusBusy (status : Word) : Bool := status.getLsbD 1

/-- STATUS.CODE, bits 15:8 (R25). -/
def statusCode (status : Word) : BitVec 8 := status.extractLsb' 8 8

/-- STATUS after a fault (R25, R440): FAULT 1, BUSY 0, CODE the fault's, reserved bits 0. -/
def statusOf (c : FaultCode) : Word := 0#16 ++ faultByte c ++ 0x01#8

/-- The DIRTY bits a unit defines (R33, R37 to R43). -/
def allDirty : UnitId → Word
  | .onepole => 0b1111
  | .mm1 => 0b111
  | .mm2 => 0b1111
  | .hp1 => 0b11
  | .ls1 => 0b111
  | .ls2 => 0b1111
  | .ap2 => 0b111
  | .peak => 0b1111
  | .delay => 0b1
  | .reverb => 0b1111

/-- Whether bit `k` of a DIRTY mask is set. -/
def dirtyBit (m : Word) (k : Nat) : Bool := m.getLsbD k

end Sys2Proof.Machine
end

