-- ==== Sys2Proof/Machine/Ops.lean ====
section
/-! DEFINITION. The named operations over the state: registers by unit, channel, line and tap; data memory (20_memory.md);
the engine's computations, which can fault part-way; fault entry (60_exceptions.md R440) and, beside it, the block reset
that is the only way out of a fault (R443, 70_reset_and_hazards.md R470); and the admission checks of 40_protocol.md
R141. -/

namespace Sys2Proof.Machine
open Sys2Proof.Config

/-! ### Tables -/

/-- The value a table holds for a unit. -/
def PerUnit.get {α : Type} (t : PerUnit α) : UnitId → α
  | .onepole => t.onepole
  | .mm1 => t.mm1
  | .mm2 => t.mm2
  | .hp1 => t.hp1
  | .ls1 => t.ls1
  | .ls2 => t.ls2
  | .ap2 => t.ap2
  | .peak => t.peak
  | .delay => t.delay
  | .reverb => t.reverb

/-- A table with the value of one unit replaced. -/
def PerUnit.set {α : Type} (t : PerUnit α) (u : UnitId) (v : α) : PerUnit α :=
  match u with
  | .onepole => { t with onepole := v }
  | .mm1 => { t with mm1 := v }
  | .mm2 => { t with mm2 := v }
  | .hp1 => { t with hp1 := v }
  | .ls1 => { t with ls1 := v }
  | .ls2 => { t with ls2 := v }
  | .ap2 => { t with ap2 := v }
  | .peak => { t with peak := v }
  | .delay => { t with delay := v }
  | .reverb => { t with reverb := v }

/-- The value a table holds for a line. -/
def PerLine.get {α : Type} (t : PerLine α) : RevLine → α
  | .pd => t.pd
  | .id1 => t.id1
  | .id2 => t.id2
  | .id3 => t.id3
  | .id4 => t.id4
  | .dd1 => t.dd1
  | .dlL1 => t.dlL1
  | .dd2 => t.dd2
  | .dlL2 => t.dlL2
  | .dd3 => t.dd3
  | .dlR1 => t.dlR1
  | .dd4 => t.dd4
  | .dlR2 => t.dlR2

/-- A table with the value of one line replaced. -/
def PerLine.set {α : Type} (t : PerLine α) (j : RevLine) (v : α) : PerLine α :=
  match j with
  | .pd => { t with pd := v }
  | .id1 => { t with id1 := v }
  | .id2 => { t with id2 := v }
  | .id3 => { t with id3 := v }
  | .id4 => { t with id4 := v }
  | .dd1 => { t with dd1 := v }
  | .dlL1 => { t with dlL1 := v }
  | .dd2 => { t with dd2 := v }
  | .dlL2 => { t with dlL2 := v }
  | .dd3 => { t with dd3 := v }
  | .dlR1 => { t with dlR1 := v }
  | .dd4 => { t with dd4 := v }
  | .dlR2 => { t with dlR2 := v }

/-- The value a table holds for a tap. -/
def PerTap.get {α : Type} (t : PerTap α) : TapIx → α
  | .t0 => t.t0
  | .t1 => t.t1
  | .t2 => t.t2
  | .t3 => t.t3
  | .t4 => t.t4
  | .t5 => t.t5
  | .t6 => t.t6

/-! ### Unit registers and channel flags -/

/-- A state with the common registers of a unit changed (R30 to R33). -/
def State.updRegs (s : State) (u : UnitId) (f : UnitRegs → UnitRegs) : State :=
  { s with regs := s.regs.set u (f (s.regs.get u)) }

/-- `C[u].DIRTY <- C[u].DIRTY | bits` (R33, 40_protocol.md R149). -/
def State.markDirty (s : State) (u : UnitId) (bits : Word) : State :=
  s.updRegs u fun r => { r with dirty := r.dirty ||| bits }

/-- `C[u].DIRTY <- 0` (R33). -/
def State.clearDirty (s : State) (u : UnitId) : State :=
  s.updRegs u fun r => { r with dirty := 0 }

/-- ST_VALID of a channel (R35). -/
def State.stValid (s : State) (u : UnitId) (ch : Nat) : Bool := (s.valid.get u).getD ch false

/-- Write ST_VALID of a channel (R35). -/
def State.setStValid (s : State) (u : UnitId) (ch : Nat) (b : Bool) : State :=
  { s with valid := s.valid.set u ((s.valid.get u).set ch b) }

/-- `for every ch: S[u][ch].ST_VALID <- 0` (R35). -/
def State.clearValid (s : State) (u : UnitId) : State :=
  { s with valid := s.valid.set u (List.replicate s.hw.nCh false) }

/-- The units whose channels have memory (R36). -/
def hasMemory : UnitId → Bool
  | .delay => true
  | .reverb => true
  | _ => false

/-- A channel's memory binding (R36); the units with no memory have none. -/
def State.binding (s : State) (u : UnitId) (ch : Nat) : Binding :=
  match u with
  | .delay => s.binds.delay.getD ch {}
  | .reverb => s.binds.reverb.getD ch {}
  | _ => {}

/-- Write a channel's memory binding (R36). -/
def State.setBinding (s : State) (u : UnitId) (ch : Nat) (b : Binding) : State :=
  match u with
  | .delay => { s with binds := { s.binds with delay := s.binds.delay.set ch b } }
  | .reverb => { s with binds := { s.binds with reverb := s.binds.reverb.set ch b } }
  | _ => s

/-- `for every ch: MEM_BOUND <- 0, MEM_BASE <- 0` (R36). -/
def State.unbindAll (s : State) (u : UnitId) : State :=
  match u with
  | .delay => { s with binds := { s.binds with delay := List.replicate s.hw.nCh {} } }
  | .reverb => { s with binds := { s.binds with reverb := List.replicate s.hw.nCh {} } }
  | _ => s

/-- `C[u].MEMREQ`: 0 for the units that have none (R34, R42, R43). -/
def State.memReq (s : State) : UnitId → Word
  | .delay => s.coefs.delay.memReq
  | .reverb => s.coefs.reverb.memReq
  | _ => 0

/-! ### Data memory (20_memory.md) -/

/-- What an address that memory does not list reads as: the byte at power-up, which the spec leaves unspecified
(70_reset_and_hazards.md R471). DESIGN CHOICE, notes/assumptions/6. -/
def unlistedByte : Byte := 0

/-- The byte at an address. -/
def readByte : List Host.Cell → Nat → Byte
  | [], _ => unlistedByte
  | (k, b) :: r, a => if k = a then b else readByte r a

/-- Memory with the byte at an address replaced, in canonical form. -/
def writeByte : List Host.Cell → Nat → Byte → List Host.Cell
  | [], a, b => if b = unlistedByte then [] else [(a, b)]
  | (k, v) :: r, a, b =>
    if k < a then (k, v) :: writeByte r a b
    else if k = a then (if b = unlistedByte then r else (a, b) :: r)
    else if b = unlistedByte then (k, v) :: r else (a, b) :: (k, v) :: r

/-- The cells are in canonical form from address `lo` on: addresses strictly rising below 2^32, no byte that an unlisted
address reads as. -/
def Memory.wfFrom : Nat → List Host.Cell → Bool
  | _, [] => true
  | lo, (k, b) :: r => decide (lo ≤ k) && decide (k < 2 ^ 32) && b != unlistedByte && Memory.wfFrom (k + 1) r

/-- Memory is in its one canonical form. -/
def Memory.wf (m : List Host.Cell) : Bool := Memory.wfFrom 0 m

/-- `MemRead(a, 4)`: the little-endian word at an address (R82, R84). -/
def readWord (m : List Host.Cell) (a : Nat) : Word :=
  readByte m (a + 3) ++ readByte m (a + 2) ++ readByte m (a + 1) ++ readByte m a

/-- `MemWrite(a, 4, w)`: the little-endian store of a word (R82, R84). -/
def writeWord (m : List Host.Cell) (a : Nat) (w : Word) : List Host.Cell :=
  writeByte (writeByte (writeByte (writeByte m a (w.extractLsb' 0 8)) (a + 1) (w.extractLsb' 8 8))
    (a + 2) (w.extractLsb' 16 8)) (a + 3) (w.extractLsb' 24 8)

/-- Whether a region covers one of the `n` bytes from an address on. -/
def Region.overlaps (r : Region) (a n : Nat) : Bool := decide (r.base < a + n) && decide (a < r.base + r.size)

/-- How the platform answers an access to the `n` bytes from an address on: `none` for ordinary memory (R81, R87). -/
def regionAt (rs : List Region) (a n : Nat) : Option RegionKind :=
  match rs with
  | [] => none
  | r :: rest => if r.overlaps a n then some r.kind else regionAt rest a n

/-! ### The engine

A command's computation over the state. It ends with a value, or stops part-way with the state as it stands there: with
the block's fault (R430), or with one of the model's own stops. -/

/-- How a command's computation stops. -/
inductive Stop where
  /-- `raise Fault(code, info0, info1)` (00_scope.md R11). -/
  | trap (code : FaultCode) (info0 info1 : Word)
  /-- The address does not exist. -/
  | fault (f : Fault)
  /-- The step has no meaning in the model. -/
  | refuse (r : Refusal)
  deriving DecidableEq, Repr

/-- A computation of the engine. -/
abbrev Engine (α : Type) := EStateM Stop State α

/-- `require(cond, code, info0)` outside a batched command (R11, 40_protocol.md R139). -/
def require (cond : Bool) (code : FaultCode) (info0 : Word) : Engine Unit :=
  if cond then pure () else throw (.trap code info0 0)

/-- A computation of sample `i` of a batched command: a fault in it has FAULT_INFO1 = i (R139, 10_state.md R26). -/
def atSample (i : Nat) (e : Engine Unit) : Engine Unit := fun s =>
  match e s with
  | .error (.trap c a _) s' => .error (.trap c a (BitVec.ofNat 32 i)) s'
  | r => r

/-- Whether the engine may access the word at an address, as the platform answers it (R81, R85, R86, R87). A read and a
write of one address are answered alike, so read-only memory is not a case of its own: R81 leaves the answer to the
platform. DESIGN CHOICE, notes/assumptions/3. -/
def busCheck (a : Nat) : Engine Unit := do
  let s ← get
  if a % 4 ≠ 0 ∨ 2 ^ 32 < a + 4 then throw (.fault (.engineAddress a))
  else match regionAt s.hw.regions a 4 with
    | some .busError => throw (.trap .busError (BitVec.ofNat 32 a) 0)
    | some .sideEffect => throw (.refuse (.sideEffectMemory a))
    | none => pure ()

/-- The engine's read of the word at an address (R84): `LoadF` too. -/
def memRead (a : Nat) : Engine Word := do
  busCheck a
  let s ← get
  pure (readWord s.mem a)

/-- The engine's write of the word at an address (R84): `StoreF` too. -/
def memWrite (a : Nat) (w : Word) : Engine Unit := do
  busCheck a
  modify fun s => { s with mem := writeWord s.mem a w }

/-! ### Faults and reset -/

/-- Fault entry (60_exceptions.md R440): the only registers it writes are STATUS, FAULT_CMD, FAULT_INFO0 and
FAULT_INFO1. -/
def enterFault (cmd : Word) (code : FaultCode) (info0 info1 : Word) (s : State) : State :=
  { s with win := { s.win with
      status := statusOf code, faultCmd := cmd, faultInfo0 := info0, faultInfo1 := info1 } }

/-- Block reset (70_reset_and_hazards.md R470), the only way out of a fault (60_exceptions.md R443): every register 0,
every unit UNINIT, no channel valid or bound; data memory untouched. -/
def blockReset (s : State) : State :=
  { State.resetOf s.hw with mem := s.mem, inbox := s.inbox, reply := s.reply }

/-- Run a command: its computation from this state, a fault entered as R440 says with the command's own word as
FAULT_CMD. -/
def runCommand (i : Instr) (e : Engine Unit) (s : State) : Host.Outcome State Fault Refusal :=
  match e s with
  | .ok _ s' => .next s'
  | .error (.trap code info0 info1) s' => .next (enterFault (encode i) code info0 info1 s')
  | .error (.fault f) _ => .fault f
  | .error (.refuse r) _ => .refused r

/-! ### Admission (40_protocol.md R141) -/

/-- Item 2: `CH < N_CH`, else BAD_CHANNEL. -/
def requireChannel (ch : BitVec 6) : Engine Unit := do
  let s ← get
  require (decide (ch.toNat < s.hw.nCh)) .badChannel (ch.setWidth 32)

/-- Item 3: the unit's lifecycle is one the opcode accepts, else LIFECYCLE. -/
def requireLife (u : UnitId) (ok : Life → Bool) : Engine Unit := do
  let s ← get
  require (ok (s.regs.get u).life) .lifecycle (lifeCode (s.regs.get u).life)

/-- INITED, SR_SET or READY (R141's table). -/
def lifeInited : Life → Bool
  | .uninit => false
  | _ => true

/-- SR_SET or READY (R141's table). -/
def lifeSrSet : Life → Bool
  | .srSet => true
  | .ready => true
  | _ => false

/-- READY (R141's table). -/
def lifeReady : Life → Bool
  | .ready => true
  | _ => false

/-- Item 4: a DELAY or REVERB channel is bound, else MEM_UNBOUND. -/
def requireBound (u : UnitId) (ch : Nat) : Engine Unit := do
  let s ← get
  if hasMemory u then require (s.binding u ch).bound .memUnbound (BitVec.ofNat 32 ch) else pure ()

/-- Item 5: the channel's state is valid, else STATE_INVALID. -/
def requireValid (u : UnitId) (ch : Nat) : Engine Unit := do
  let s ← get
  require (s.stValid u ch) .stateInvalid (BitVec.ofNat 32 ch)

/-! ### Results -/

/-- `RES0 <- w`. -/
def State.setRes0 (s : State) (w : Word) : State := { s with win := { s.win with res0 := w } }

/-- `RES0 <- y` or, for a stereo result, `RES0 <- yl ; RES1 <- yr` (30_encoding.md R114). -/
def State.setResults (s : State) : List F32 → State
  | [] => s
  | [y] => { s with win := { s.win with res0 := y } }
  | yl :: yr :: _ => { s with win := { s.win with res0 := yl, res1 := yr } }

end Sys2Proof.Machine
end

