-- ==== Sys2Proof/Machine/Operands.lean ====
section
/-! DEFINITION. The operand forms of the commands: what each reads from ARG0..ARG5 (30_encoding.md R114), the legal sets of
the parameter setters (41 to 45), the tau conversion of 41_one_pole.md R223, and the register select spaces of READ_COEF and
READ_STATE (10_state.md R34, R37 to R44). -/

namespace Sys2Proof.Machine
open Sys2Proof.Config

/-! ### Samples and buffers (R114) -/

/-- The input samples of RESET_STATE and PROCESS1: ARG0, and for REVERB ARG1 too. -/
def sampleArgs (u : UnitId) (w : Window) : List F32 :=
  match u with
  | .reverb => [w.arg0, w.arg1]
  | _ => [w.arg0]

/-- The input buffer bases of PROCESS (40_protocol.md R156), and the input tables of PROCESS_MULTI (R157). -/
def inArgs (u : UnitId) (w : Window) : List Word :=
  match u with
  | .reverb => [w.arg0, w.arg1]
  | _ => [w.arg0]

/-- The output buffer bases of PROCESS (R156), and the output tables of PROCESS_MULTI (R157). -/
def outArgs (u : UnitId) (w : Window) : List Word :=
  match u with
  | .reverb => [w.arg2, w.arg3]
  | _ => [w.arg1]

/-- `n` of PROCESS (R156): ARG2, and ARG4 for REVERB. -/
def processN (u : UnitId) (w : Window) : Nat :=
  match u with
  | .reverb => w.arg4.toNat
  | _ => w.arg2.toNat

/-- `n_channels` of PROCESS_MULTI (R157): ARG2, and ARG4 for REVERB. -/
def multiM (u : UnitId) (w : Window) : Word :=
  match u with
  | .reverb => w.arg4
  | _ => w.arg2

/-- `n` of PROCESS_MULTI (R157): ARG3, and ARG5 for REVERB. -/
def multiN (u : UnitId) (w : Window) : Nat :=
  match u with
  | .reverb => w.arg5.toNat
  | _ => w.arg3.toNat

/-! ### Legal sets of the setters -/

/-- `v >= 0 or v == +inf` (41_one_pole.md R220, 45_reverb.md R395). -/
def okCutoff (v : F32) : Bool := fLe f0 v || fEq v posInf

/-- `isfinite(v)` (42_svf.md R253, R256). -/
def okFinite (v : F32) : Bool := isFinite v

/-- `isfinite(v) and v >= 0` (R226, R252). -/
def okNonneg (v : F32) : Bool := isFinite v && fLe f0 v

/-- `isfinite(v) and v > 0` (R255, R293). -/
def okPositive (v : F32) : Bool := isFinite v && fLt f0 v

/-- `ARG0 == 0 or ARG0 == 1` (R227, R254). -/
def okFlag (w : Word) : Bool := w == 0 || w == 1

/-- `-600 <= d and d <= 600` (43_eq.md R295). -/
def okDb (d : F32) : Bool := fLe dbMinus600 d && fLe d db600

/-- `p >= 0 and p <= 0.1` (45_reverb.md R394). -/
def okPredelay (p : F32) : Bool := fLe f0 p && fLe p f01

/-- `d >= 0 and d < 1` (R397). -/
def okDecay (d : F32) : Bool := fLe f0 d && fLt d f1

/-- The cutoff of a time constant (41_one_pole.md R223): +inf for 0, else `INV_2PI / t`. -/
def tauCutoff (t : F32) : F32 := if fEq t f0 then posInf else fDiv inv2Pi t

/-- An address is 4-aligned (20_memory.md R85). -/
def aligned4 (a : Word) : Bool := a.extractLsb' 0 2 == 0

/-- A buffer of `bytes` bytes at `a` does not pass the top of the address space (R86). -/
def inRange (a : Word) (bytes : Nat) : Bool := decide (a.toNat + bytes ≤ 2 ^ 32)

/-! ### Register selects (10_state.md R34, R37 to R44) -/

/-- The common registers (R34): SEL 0xF0 to 0xF4. -/
def commonReg (s : State) (u : UnitId) (sel : BitVec 8) : Option Word :=
  match sel with
  | 0xF0#8 => some (lifeCode (s.regs.get u).life)
  | 0xF1#8 => some (s.regs.get u).gen
  | 0xF2#8 => some (s.regs.get u).fs
  | 0xF3#8 => some (s.regs.get u).dirty
  | 0xF4#8 => some (s.memReq u)
  | _ => none

/-- ONEPOLE's selects (R37). -/
def onePoleReg (c : OnePoleCoefs) (sel : BitVec 8) : Option Word :=
  match sel with
  | 0x01#8 => some c.cutoffUp
  | 0x02#8 => some c.cutoffDown
  | 0x06#8 => some c.stickyThresh
  | 0x07#8 => some c.stickyMode
  | 0x40#8 => some c.kExp
  | 0x41#8 => some c.aUp
  | 0x42#8 => some c.aDown
  | 0x43#8 => some c.st2
  | 0x44#8 => some c.modeAct
  | _ => none

/-- The selects of an MM1 bank (R38). -/
def mm1Reg (b : Mm1Bank) (sel : BitVec 8) : Option Word :=
  match sel with
  | 0x00#8 => some b.cutoff
  | 0x01#8 => some b.prewarpAtCutoff
  | 0x02#8 => some b.prewarpFreq
  | 0x03#8 => some b.coeffX
  | 0x04#8 => some b.coeffLp
  | 0x40#8 => some b.kPi
  | 0x41#8 => some b.g
  | 0x42#8 => some b.g1
  | 0x43#8 => some b.cxAct
  | 0x44#8 => some b.clpAct
  | _ => none

/-- The selects of an MM2 bank (R39). -/
def mm2Reg (b : Mm2Bank) (sel : BitVec 8) : Option Word :=
  match sel with
  | 0x00#8 => some b.cutoff
  | 0x01#8 => some b.q
  | 0x02#8 => some b.prewarpAtCutoff
  | 0x03#8 => some b.prewarpFreq
  | 0x04#8 => some b.coeffX
  | 0x05#8 => some b.coeffLp
  | 0x06#8 => some b.coeffBp
  | 0x07#8 => some b.coeffHp
  | 0x40#8 => some b.kPi
  | 0x41#8 => some b.g
  | 0x42#8 => some b.k
  | 0x43#8 => some b.gk
  | 0x44#8 => some b.hpD
  | 0x45#8 => some b.cxAct
  | 0x46#8 => some b.clpAct
  | 0x47#8 => some b.cbpAct
  | 0x48#8 => some b.chpAct
  | _ => none

/-- The inner bank's registers at `0x80 + r` for r in 0x00..0x4F, and its DIRTY mask at 0xE0 (R41). -/
def innerReg (bank : BitVec 8 → Option Word) (dirty : Word) (sel : BitVec 8) : Option Word :=
  if sel = 0xE0#8 then some dirty
  else if 0x80 ≤ sel.toNat ∧ sel.toNat ≤ 0xCF then bank (sel - 0x80#8)
  else none

/-- HP1's own selects (R40). -/
def hp1Reg (c : Hp1Coefs) (sel : BitVec 8) : Option Word :=
  match sel with
  | 0x00#8 => some c.cutoff
  | 0x01#8 => some c.prewarpAtCutoff
  | 0x02#8 => some c.prewarpFreq
  | _ => none

/-- LS1's own selects (R40). -/
def ls1Reg (c : Ls1Coefs) (sel : BitVec 8) : Option Word :=
  match sel with
  | 0x00#8 => some c.cutoff
  | 0x01#8 => some c.dcGainLin
  | 0x02#8 => some c.dcGainDb
  | 0x03#8 => some c.prewarpAtCutoff
  | 0x04#8 => some c.prewarpFreq
  | 0x05#8 => some c.gainIsDb
  | 0x40#8 => some c.g
  | _ => none

/-- LS2's own selects (R40). -/
def ls2Reg (c : Ls2Coefs) (sel : BitVec 8) : Option Word :=
  match sel with
  | 0x00#8 => some c.cutoff
  | 0x01#8 => some c.q
  | 0x02#8 => some c.dcGainLin
  | 0x03#8 => some c.dcGainDb
  | 0x04#8 => some c.prewarpAtCutoff
  | 0x05#8 => some c.prewarpFreq
  | 0x06#8 => some c.gainIsDb
  | 0x40#8 => some c.g
  | 0x41#8 => some c.ki
  | _ => none

/-- AP2's own selects (R40). -/
def ap2Reg (c : Ap2Coefs) (sel : BitVec 8) : Option Word :=
  match sel with
  | 0x00#8 => some c.cutoff
  | 0x01#8 => some c.q
  | 0x02#8 => some c.prewarpAtCutoff
  | 0x03#8 => some c.prewarpFreq
  | 0x41#8 => some c.ki
  | _ => none

/-- PEAK's own selects (R40). -/
def peakReg (c : PeakCoefs) (sel : BitVec 8) : Option Word :=
  match sel with
  | 0x00#8 => some c.cutoff
  | 0x01#8 => some c.q
  | 0x02#8 => some c.peakGainLin
  | 0x03#8 => some c.peakGainDb
  | 0x04#8 => some c.bandwidth
  | 0x05#8 => some c.useBandwidth
  | 0x06#8 => some c.prewarpAtCutoff
  | 0x07#8 => some c.prewarpFreq
  | 0x08#8 => some c.gainIsDb
  | 0x40#8 => some c.g
  | 0x41#8 => some c.qu
  | 0x42#8 => some c.qi
  | 0x43#8 => some c.ki
  | _ => none

/-- DELAY's selects (R42); MEMREQ is a common one (R34). -/
def delayReg (c : DelayCoefs) (sel : BitVec 8) : Option Word :=
  match sel with
  | 0x00#8 => some c.delay
  | 0x01#8 => some c.maxDelay
  | 0x40#8 => some c.len
  | 0x41#8 => some c.di
  | 0x42#8 => some c.df
  | _ => none

/-- The line of index j (R43). -/
def lineOfIndex (j : Nat) : Option RevLine := revLines[j]?

/-- The tap of index t (45_reverb.md R371). -/
def tapOfIndex (t : Nat) : Option TapIx := tapOrder[t]?

/-- REVERB's selects (R43): the scalars, then the tables N at 0x60 + (j - 1), CAP at 0x70 + j, OFF at 0x80 + j, TAPL_K at
0x90 + t and TAPR_K at 0x98 + t. -/
def reverbReg (c : ReverbCoefs) (sel : BitVec 8) : Option Word :=
  match sel with
  | 0x00#8 => some c.predelay
  | 0x01#8 => some c.bandwidth
  | 0x02#8 => some c.damping
  | 0x03#8 => some c.decay
  | 0x40#8 => some c.kExp
  | 0x41#8 => some c.aBw
  | 0x42#8 => some c.aDamp
  | 0x43#8 => some c.decayG
  | 0x44#8 => some c.dd2G
  | 0x45#8 => some c.aPds
  | 0x46#8 => some c.st2Pd
  | 0x47#8 => some c.pdTarget
  | 0x48#8 => some c.pdS
  | 0x49#8 => some c.pdN
  | 0x4A#8 => some c.lfoPhase
  | 0x4B#8 => some c.lfoInc
  | 0x4C#8 => some c.lfoM
  | 0x4D#8 => some c.exc
  | 0x4E#8 => some c.ratio
  | 0x4F#8 => some c.di1
  | 0x50#8 => some c.df1
  | 0x51#8 => some c.di3
  | 0x52#8 => some c.df3
  | _ =>
    let n := sel.toNat
    if 0x60 ≤ n ∧ n < 0x6C then (lineOfIndex (n - 0x5F)).map c.n.get
    else if 0x70 ≤ n ∧ n < 0x7D then (lineOfIndex (n - 0x70)).map c.cap.get
    else if 0x80 ≤ n ∧ n < 0x8D then (lineOfIndex (n - 0x80)).map c.off.get
    else if 0x90 ≤ n ∧ n < 0x97 then (tapOfIndex (n - 0x90)).map c.tapLK.get
    else if 0x98 ≤ n ∧ n < 0x9F then (tapOfIndex (n - 0x98)).map c.tapRK.get
    else none

/-- The first of two answers. -/
def orReg (a b : Option Word) : Option Word :=
  match a with
  | some w => some w
  | none => b

/-- The register of `C[u]`, or of its inner bank, that a select names (R34, R37 to R43); `none` for an illegal select. -/
def coefReg (s : State) (u : UnitId) (sel : BitVec 8) : Option Word :=
  orReg (commonReg s u sel)
    (match u with
      | .onepole => onePoleReg s.coefs.onepole sel
      | .mm1 => mm1Reg s.coefs.mm1 sel
      | .mm2 => mm2Reg s.coefs.mm2 sel
      | .hp1 => orReg (hp1Reg s.coefs.hp1 sel) (innerReg (mm1Reg s.coefs.hp1.inner) s.coefs.hp1.innerDirty sel)
      | .ls1 => orReg (ls1Reg s.coefs.ls1 sel) (innerReg (mm1Reg s.coefs.ls1.inner) s.coefs.ls1.innerDirty sel)
      | .ls2 => orReg (ls2Reg s.coefs.ls2 sel) (innerReg (mm2Reg s.coefs.ls2.inner) s.coefs.ls2.innerDirty sel)
      | .ap2 => orReg (ap2Reg s.coefs.ap2 sel) (innerReg (mm2Reg s.coefs.ap2.inner) s.coefs.ap2.innerDirty sel)
      | .peak => orReg (peakReg s.coefs.peak sel) (innerReg (mm2Reg s.coefs.peak.inner) s.coefs.peak.innerDirty sel)
      | .delay => delayReg s.coefs.delay sel
      | .reverb => reverbReg s.coefs.reverb sel)

/-- The state of an MM1 channel's select (R44). -/
def mm1StateReg (st : Mm1State) (sel : BitVec 8) : Option Word :=
  match sel with
  | 0x00#8 => some st.s
  | _ => none

/-- The state of an MM2 channel's select (R44). -/
def mm2StateReg (st : Mm2State) (sel : BitVec 8) : Option Word :=
  match sel with
  | 0x00#8 => some st.s1
  | 0x01#8 => some st.s2
  | _ => none

/-- The state of a REVERB channel's select (R44). -/
def reverbStateReg (st : ReverbState) (sel : BitVec 8) : Option Word :=
  match sel with
  | 0x00#8 => some st.bwZ1
  | 0x01#8 => some st.dlZ1
  | 0x02#8 => some st.drZ1
  | _ => if 0x10 ≤ sel.toNat ∧ sel.toNat < 0x1D then (lineOfIndex (sel.toNat - 0x10)).map st.w.get else none

/-- The flags of a channel: ST_VALID at 0xF0, and for DELAY and REVERB MEM_BOUND at 0xF1 and MEM_BASE at 0xF2 (R44). -/
def flagReg (s : State) (u : UnitId) (ch : Nat) (sel : BitVec 8) : Option Word :=
  if sel = 0xF0#8 then some (flagWord (s.stValid u ch))
  else if hasMemory u ∧ sel = 0xF1#8 then some (flagWord (s.binding u ch).bound)
  else if hasMemory u ∧ sel = 0xF2#8 then some (s.binding u ch).base
  else none

/-- The register of `S[u][ch]` that a select names (R44); `none` for an illegal select. -/
def stateReg (s : State) (u : UnitId) (ch : Nat) (sel : BitVec 8) : Option Word :=
  orReg (flagReg s u ch sel)
    (match u with
      | .onepole => if sel = 0x00#8 then some (s.chans.onepole.getD ch {}).yZ1 else none
      | .mm1 => mm1StateReg (s.chans.mm1.getD ch {}) sel
      | .mm2 => mm2StateReg (s.chans.mm2.getD ch {}) sel
      | .hp1 => mm1StateReg (s.chans.hp1.getD ch {}) sel
      | .ls1 => mm1StateReg (s.chans.ls1.getD ch {}) sel
      | .ls2 => mm2StateReg (s.chans.ls2.getD ch {}) sel
      | .ap2 => mm2StateReg (s.chans.ap2.getD ch {}) sel
      | .peak => mm2StateReg (s.chans.peak.getD ch {}) sel
      | .delay => if sel = 0x00#8 then some (s.chans.delay.getD ch {}).w else none
      | .reverb => reverbStateReg (s.chans.reverb.getD ch {}) sel)

end Sys2Proof.Machine
end

