-- ==== Sys2Proof/Machine/Svf.lean ====
section
/-! DEFINITION. The multi-mode filter cores' arithmetic and hooks (42_svf.md), over a bank: unit MM1's or MM2's own, or the
inner bank of a derived unit (10_state.md R41). -/

namespace Sys2Proof.Machine
open Sys2Proof.Config

/-- `K_PI` of a sample rate (R243): `PI / fs`. -/
def kPiOf (fs : F32) : F32 := fDiv fPi fs

/-- The integrator gain (R245, R246). -/
def svfGain (kPi cutoff : F32) (prewarpAtCutoff : Word) (prewarpFreq : F32) : F32 :=
  let fw := if prewarpAtCutoff = 1 then cutoff else prewarpFreq
  let t := numTan (fMin (fMul kPi fw) thetaMax)
  if prewarpAtCutoff = 1 then t else fMul (fDiv t prewarpFreq) cutoff

/-- The damping of a Q (R247): `1 / max(Q, 0.5)`. -/
def dampingOf (q : F32) : F32 := fDiv f1 (fMax q f05)

/-! ### MM1 (R265 to R268) -/

/-- The INIT values of R38. -/
def Mm1Bank.initial : Mm1Bank :=
  { cutoff := hz1000, prewarpAtCutoff := 1, prewarpFreq := hz1000, coeffX := f0, coeffLp := f1 }

/-- The SET_SR hook (R243). -/
def mm1SetSr (fs : F32) (b : Mm1Bank) : Mm1Bank := { b with kPi := kPiOf fs }

/-- The UPDATE_CTRL hook (R265): the derived registers of the set bits of the mask. -/
def mm1Update (m : Word) (b : Mm1Bank) : Mm1Bank :=
  let g := if dirtyBit m 0 || dirtyBit m 1 then svfGain b.kPi b.cutoff b.prewarpAtCutoff b.prewarpFreq else b.g
  { b with
    g := g
    g1 := if dirtyBit m 0 || dirtyBit m 1 then fDiv g (fAdd f1 g) else b.g1
    cxAct := if dirtyBit m 2 then b.coeffX else b.cxAct
    clpAct := if dirtyBit m 2 then b.coeffLp else b.clpAct }

/-- MM1's output mix (R241, R268): `CX_ACT * x + CLP_ACT * lp`. -/
def mm1Mix (b : Mm1Bank) (x lp : F32) : F32 := fAdd (fMul b.cxAct x) (fMul b.clpAct lp)

/-- The RESET_STATE hook (R267): the output and the seeded state. -/
def mm1Reset (b : Mm1Bank) (x0 : F32) : F32 × Mm1State := (mm1Mix b x0 x0, { s := x0 })

/-- The PROCESS1 hook (R268): the output and the new state. -/
def mm1Step (b : Mm1Bank) (st : Mm1State) (x : F32) : F32 × Mm1State :=
  let v := fMul b.g1 (fSub x st.s)
  let lp := fAdd v st.s
  (mm1Mix b x lp, { s := fAdd lp v })

/-! ### MM2 (R248 to R251) -/

/-- The INIT values of R39. -/
def Mm2Bank.initial : Mm2Bank :=
  { cutoff := hz1000, q := f05, prewarpAtCutoff := 1, prewarpFreq := hz1000, coeffX := f0, coeffLp := f1
    coeffBp := f0, coeffHp := f0 }

/-- The SET_SR hook (R243). -/
def mm2SetSr (fs : F32) (b : Mm2Bank) : Mm2Bank := { b with kPi := kPiOf fs }

/-- The UPDATE_CTRL hook (R248): the derived registers of the set bits of the mask. -/
def mm2Update (m : Word) (b : Mm2Bank) : Mm2Bank :=
  let g := if dirtyBit m 0 || dirtyBit m 2 then svfGain b.kPi b.cutoff b.prewarpAtCutoff b.prewarpFreq else b.g
  let k := if dirtyBit m 1 then dampingOf b.q else b.k
  let any := dirtyBit m 0 || dirtyBit m 1 || dirtyBit m 2
  let gk := if any then fAdd g k else b.gk
  { b with
    g := g
    k := k
    gk := gk
    hpD := if any then fDiv f1 (fAdd f1 (fMul g gk)) else b.hpD
    cxAct := if dirtyBit m 3 then b.coeffX else b.cxAct
    clpAct := if dirtyBit m 3 then b.coeffLp else b.clpAct
    cbpAct := if dirtyBit m 3 then b.coeffBp else b.cbpAct
    chpAct := if dirtyBit m 3 then b.coeffHp else b.chpAct }

/-- MM2's output mix (R241, R251): `((CX_ACT * x + CLP_ACT * lp) + CBP_ACT * bp) + CHP_ACT * hp`. -/
def mm2Mix (b : Mm2Bank) (x lp bp hp : F32) : F32 :=
  fAdd (fAdd (fAdd (fMul b.cxAct x) (fMul b.clpAct lp)) (fMul b.cbpAct bp)) (fMul b.chpAct hp)

/-- The RESET_STATE hook (R250): the output and the seeded state. -/
def mm2Reset (b : Mm2Bank) (x0 : F32) : F32 × Mm2State := (mm2Mix b x0 x0 f0 f0, { s1 := f0, s2 := x0 })

/-- The PROCESS1 hook (R251): the output and the new state. R260's property of it is `mm2NoOvershoot` (Properties.lean). -/
def mm2Step (b : Mm2Bank) (st : Mm2State) (x : F32) : F32 × Mm2State :=
  let hp := fMul b.hpD (fSub (fSub x (fMul b.gk st.s1)) st.s2)
  let v1 := fMul b.g hp
  let bp := fAdd v1 st.s1
  let v2 := fMul b.g bp
  let lp := fAdd v2 st.s2
  (mm2Mix b x lp bp hp, { s1 := fAdd v1 bp, s2 := fAdd v2 lp })

end Sys2Proof.Machine
end

