-- ==== Sys2Proof/Machine/Eq.lean ====
section
/-! DEFINITION. The derived filter stages' coefficient translations (43_eq.md R280 to R314). Each writes the unit's own
derived registers and every parameter register of its inner bank, then runs the inner bank's UPDATE_CTRL hook with every
bit set (R280). Their RESET_STATE and PROCESS1 hooks are the inner core's (Machine/Svf.lean). -/

namespace Sys2Proof.Machine
open Sys2Proof.Config

/-- The gain conversion (R282). -/
def gainOf (gainIsDb : Word) (db lin : F32) : F32 :=
  if gainIsDb = 1 then numPow2 (fMul db2log2 db) else lin

/-- The unit's own prewarp frequency (R283). -/
def ownPrewarp (prewarpAtCutoff : Word) (cutoff prewarpFreq : F32) : F32 :=
  if prewarpAtCutoff = 1 then cutoff else prewarpFreq

/-- `I.DIRTY <- all bits`, the inner UPDATE_CTRL hook with that mask (R280), for an MM1 bank. -/
def mm1Refresh (b : Mm1Bank) : Mm1Bank := mm1Update (allDirty .mm1) b

/-- `I.DIRTY <- all bits`, the inner UPDATE_CTRL hook with that mask (R280), for an MM2 bank. -/
def mm2Refresh (b : Mm2Bank) : Mm2Bank := mm2Update (allDirty .mm2) b

/-! ### HP1 -/

/-- The INIT values of R40, and of the inner bank (40_protocol.md R142). -/
def Hp1Coefs.initial : Hp1Coefs :=
  { cutoff := hz1000, prewarpAtCutoff := 1, prewarpFreq := hz1000, inner := Mm1Bank.initial
    innerDirty := allDirty .mm1 }

/-- HP1's coefficient translation (R284). -/
def hp1Translate (c : Hp1Coefs) : Hp1Coefs :=
  { c with
    inner := mm1Refresh { c.inner with
      cutoff := c.cutoff, prewarpAtCutoff := c.prewarpAtCutoff, prewarpFreq := c.prewarpFreq
      coeffX := f1, coeffLp := fm1 }
    innerDirty := 0 }

/-! ### LS1 -/

/-- The INIT values of R40, and of the inner bank (R142). -/
def Ls1Coefs.initial : Ls1Coefs :=
  { cutoff := hz1000, dcGainLin := f1, dcGainDb := f0, prewarpAtCutoff := 1, prewarpFreq := hz1000, gainIsDb := 0
    inner := Mm1Bank.initial, innerDirty := allDirty .mm1 }

/-- LS1's coefficient translation (R290). -/
def ls1Translate (c : Ls1Coefs) : Ls1Coefs :=
  let g := gainOf c.gainIsDb c.dcGainDb c.dcGainLin
  { c with
    g := g
    inner := mm1Refresh { c.inner with
      cutoff := fDiv c.cutoff (fSqrt g), prewarpAtCutoff := 0
      prewarpFreq := ownPrewarp c.prewarpAtCutoff c.cutoff c.prewarpFreq
      coeffX := f1, coeffLp := fSub g f1 }
    innerDirty := 0 }

/-! ### LS2 -/

/-- The INIT values of R40, and of the inner bank (R142). -/
def Ls2Coefs.initial : Ls2Coefs :=
  { cutoff := hz1000, q := f05, dcGainLin := f1, dcGainDb := f0, prewarpAtCutoff := 1, prewarpFreq := hz1000
    gainIsDb := 0, inner := Mm2Bank.initial, innerDirty := allDirty .mm2 }

/-- LS2's coefficient translation (R298). -/
def ls2Translate (c : Ls2Coefs) : Ls2Coefs :=
  let g := gainOf c.gainIsDb c.dcGainDb c.dcGainLin
  let sg := fSqrt g
  let ki := dampingOf c.q
  { c with
    g := g
    ki := ki
    inner := mm2Refresh { c.inner with
      cutoff := fDiv c.cutoff (fSqrt sg), q := c.q, prewarpAtCutoff := 0
      prewarpFreq := ownPrewarp c.prewarpAtCutoff c.cutoff c.prewarpFreq
      coeffX := f1, coeffLp := fSub g f1, coeffBp := fMul (fSub sg f1) ki, coeffHp := f0 }
    innerDirty := 0 }

/-! ### AP2 -/

/-- The INIT values of R40, and of the inner bank (R142). -/
def Ap2Coefs.initial : Ap2Coefs :=
  { cutoff := hz1000, q := f05, prewarpAtCutoff := 1, prewarpFreq := hz1000, inner := Mm2Bank.initial
    innerDirty := allDirty .mm2 }

/-- AP2's coefficient translation (R307). -/
def ap2Translate (c : Ap2Coefs) : Ap2Coefs :=
  let ki := dampingOf c.q
  { c with
    ki := ki
    inner := mm2Refresh { c.inner with
      cutoff := c.cutoff, q := c.q, prewarpAtCutoff := c.prewarpAtCutoff, prewarpFreq := c.prewarpFreq
      coeffX := f1, coeffLp := f0, coeffBp := fMul fm2 ki, coeffHp := f0 }
    innerDirty := 0 }

/-! ### PEAK -/

/-- The INIT values of R40, and of the inner bank (R142). -/
def PeakCoefs.initial : PeakCoefs :=
  { cutoff := hz1000, q := f05, peakGainLin := f1, peakGainDb := f0, bandwidth := hz2000, useBandwidth := 0
    prewarpAtCutoff := 1, prewarpFreq := hz1000, gainIsDb := 0, inner := Mm2Bank.initial
    innerDirty := allDirty .mm2 }

/-- PEAK's coefficient translation (R314). -/
def peakTranslate (c : PeakCoefs) : PeakCoefs :=
  let g := gainOf c.gainIsDb c.peakGainDb c.peakGainLin
  let qu := if c.useBandwidth = 1 then fDiv c.cutoff c.bandwidth else c.q
  let qi := fMul qu (fSqrt g)
  let ki := dampingOf qi
  { c with
    g := g
    qu := qu
    qi := qi
    ki := ki
    inner := mm2Refresh { c.inner with
      cutoff := c.cutoff, q := qi, prewarpAtCutoff := c.prewarpAtCutoff, prewarpFreq := c.prewarpFreq
      coeffX := f1, coeffLp := f0, coeffBp := fMul (fSub g f1) ki, coeffHp := f0 }
    innerDirty := 0 }

end Sys2Proof.Machine
end

