-- ==== Sys2Proof/Machine/OnePole.lean ====
section
/-! DEFINITION. The one-pole smoother's arithmetic and hooks (41_one_pole.md). -/

namespace Sys2Proof.Machine
open Sys2Proof.Config

/-- `K_EXP` of a sample rate (R203): `(-TWO_PI) / fs`. -/
def kExpOf (fs : F32) : F32 := fDiv (fNeg twoPi) fs

/-- The multiplier of a cutoff (R204): +0 above CUTOFF_MAX, `NUM.exp(K_EXP * c)` otherwise. -/
def amul (kExp c : F32) : F32 := if fLt cutoffMax c then f0 else numExp (fMul kExp c)

/-- The one-pole recurrence (R214, R215): an exact hold at a = 1, an exact pass at a = 0. -/
def op1 (a yp x : F32) : F32 :=
  if fEq a f1 then yp else if fEq a f0 then x else fAdd x (fMul a (fSub yp x))

/-- The INIT values of R37 (R202). -/
def OnePoleCoefs.initial : OnePoleCoefs :=
  { cutoffUp := posInf, cutoffDown := posInf, stickyThresh := f0, stickyMode := 0 }

/-- The SET_SR hook (R203). -/
def onePoleSetSr (fs : F32) (c : OnePoleCoefs) : OnePoleCoefs := { c with kExp := kExpOf fs }

/-- The UPDATE_CTRL hook (R205): the derived registers of the set bits of the mask. -/
def onePoleUpdate (m : Word) (c : OnePoleCoefs) : OnePoleCoefs :=
  { c with
    aUp := if dirtyBit m 0 then amul c.kExp c.cutoffUp else c.aUp
    aDown := if dirtyBit m 1 then amul c.kExp c.cutoffDown else c.aDown
    st2 := if dirtyBit m 2 then fMul c.stickyThresh c.stickyThresh else c.st2
    modeAct := if dirtyBit m 3 then c.stickyMode else c.modeAct }

/-- ASYM of R213. -/
def onePoleAsym (c : OnePoleCoefs) : Bool := fNe c.aUp c.aDown

/-- STICKY of R213. -/
def onePoleSticky (c : OnePoleCoefs) : Bool := fNe c.st2 f0

/-- The snap condition of R214 for the distance `e = y - x`: absolute when MODE_ACT is 0, relative when it is 1. -/
def onePoleSnap (c : OnePoleCoefs) (e x : F32) : Bool :=
  if c.modeAct = 0 then fLe (fMul e e) c.st2 else fLe (fMul e e) (fMul (fMul c.st2 x) x)

/-- The multiplier R214 chooses: A_UP, and A_DOWN when the variant is asymmetric and not `x >= yp`. -/
def onePoleMul (c : OnePoleCoefs) (yp x : F32) : F32 :=
  if onePoleAsym c && !fLe yp x then c.aDown else c.aUp

/-- The PROCESS1 hook (R214): the output, which is also the new Y_Z1. -/
def onePoleStep (c : OnePoleCoefs) (yp x : F32) : F32 :=
  let a := onePoleMul c yp x
  let y := op1 a yp x
  if onePoleSticky c && fNe a f1 && onePoleSnap c (fSub y x) x then x else y

end Sys2Proof.Machine
end

