-- ==== Sys2Proof/Machine/Delay.lean ====
section
/-! DEFINITION. The line primitives (44_delay.md R340 to R343) and unit DELAY's hooks. -/

namespace Sys2Proof.Machine
open Sys2Proof.Config

/-! ### Lines (R340) -/

/-- A delay line of a channel: DELAY's one line, or one of REVERB's thirteen. -/
inductive LineRef where
  | delay (ch : Nat)
  | reverb (ch : Nat) (j : RevLine)
  deriving DecidableEq, Repr

/-- `B`, the byte address of the line's word 0 (R340; 45_reverb.md, section 2). -/
def lineBase (s : State) : LineRef → Nat
  | .delay ch => (s.binding .delay ch).base.toNat
  | .reverb ch j => (s.binding .reverb ch).base.toNat + (s.coefs.reverb.off.get j).toNat

/-- `CAP`, the line's capacity in samples (R340). -/
def lineCap (s : State) : LineRef → Nat
  | .delay _ => s.coefs.delay.len.toNat
  | .reverb _ j => (s.coefs.reverb.cap.get j).toNat

/-- `W`, the line's write cursor (R340, 10_state.md R44). -/
def lineCursor (s : State) : LineRef → Nat
  | .delay ch => (s.chans.delay.getD ch {}).w.toNat
  | .reverb ch j => ((s.chans.reverb.getD ch {}).w.get j).toNat

/-- Write a DELAY channel's registers. -/
def State.setDelayChan (s : State) (ch : Nat) (st : DelayState) : State :=
  { s with chans := { s.chans with delay := s.chans.delay.set ch st } }

/-- Write a REVERB channel's registers. -/
def State.setReverbChan (s : State) (ch : Nat) (st : ReverbState) : State :=
  { s with chans := { s.chans with reverb := s.chans.reverb.set ch st } }

/-- `W <- w`. -/
def setCursor (s : State) (l : LineRef) (w : Nat) : State :=
  match l with
  | .delay ch => s.setDelayChan ch { w := BitVec.ofNat 32 w }
  | .reverb ch j =>
    let st := s.chans.reverb.getD ch {}
    s.setReverbChan ch { st with w := st.w.set j (BitVec.ofNat 32 w) }

/-- The address of word `k` of a line (R340). -/
def lineAddr (s : State) (l : LineRef) (k : Nat) : Nat := lineBase s l + 4 * k

/-- `(W - d) mod CAP` (R342, 00_scope.md R7): the word of recency index `d`. -/
def lineIndex (s : State) (l : LineRef) (d : Nat) : Nat :=
  (((lineCursor s l : Int) - (d : Int)) % (lineCap s l : Int)).toNat

/-- `DL.write(line, x)` (R341). -/
def dlWrite (l : LineRef) (x : F32) : Engine Unit := do
  let s ← get
  memWrite (lineAddr s l (lineCursor s l)) x
  modify fun s => setCursor s l ((lineCursor s l + 1) % lineCap s l)

/-- `DL.read(line, d, f)` (R342): one bus read when f is 0, else two, the older word second. -/
def dlRead (l : LineRef) (d : Nat) (f : F32) : Engine F32 := do
  let s ← get
  let s0 ← memRead (lineAddr s l (lineIndex s l d))
  if fEq f f0 then pure s0
  else do
    let s1 ← memRead (lineAddr s l (lineIndex s l (d + 1)))
    pure (fAdd s0 (fMul f (fSub s1 s0)))

/-- `count` words from an address on, each set to `v`, in increasing order (R343). -/
def fillWords (a : Nat) (v : F32) : Nat → Engine Unit
  | 0 => pure ()
  | n + 1 => do
    memWrite a v
    fillWords (a + 4) v n

/-- `DL.fill(line, v)` (R343). -/
def dlFill (l : LineRef) (v : F32) : Engine Unit := do
  let s ← get
  fillWords (lineBase s l) v (lineCap s l)
  modify fun s => setCursor s l 0

/-! ### Hooks of unit DELAY -/

/-- The INIT values of R42 (R344): MAX_DELAY is ARG0. -/
def DelayCoefs.initial (maxDelay : F32) : DelayCoefs := { delay := f0, maxDelay := maxDelay }

/-- `fs * MAX_DELAY` (R345). -/
def delaySpan (fs : F32) (c : DelayCoefs) : F32 := fMul fs c.maxDelay

/-- The registers the SET_SR hook writes (R345). -/
def delaySetSr (fs : F32) (c : DelayCoefs) : DelayCoefs :=
  let len := (realCeil (delaySpan fs c)).toNat + 1
  { c with len := BitVec.ofNat 32 len, memReq := BitVec.ofNat 32 (4 * len) }

/-- The UPDATE_CTRL hook (R347). -/
def delayUpdate (fs : F32) (m : Word) (c : DelayCoefs) : DelayCoefs :=
  if dirtyBit m 0 then
    let dt := fMin (fMul fs c.delay) (toF32 (c.len.toNat - 1))
    let di := (realFloor dt).toNat
    { c with di := BitVec.ofNat 32 di, df := fSub dt (toF32 di) }
  else c

/-- The RESET_STATE hook (R350). -/
def delayReset (ch : Nat) (x0 : F32) : Engine (List F32) := do
  dlFill (.delay ch) x0
  pure [x0]

/-- The PROCESS1 hook (R351): the write, then the read. -/
def delayStep (ch : Nat) (x : F32) : Engine (List F32) := do
  dlWrite (.delay ch) x
  let s ← get
  let y ← dlRead (.delay ch) (s.coefs.delay.di.toNat + 1) s.coefs.delay.df
  pure [y]

end Sys2Proof.Machine
end

