-- ==== Sys2Proof/Machine/Reverb.lean ====
section
/-! DEFINITION. The Dattorro reverb network's hooks (45_reverb.md). -/

namespace Sys2Proof.Machine
open Sys2Proof.Config

/-! ### Coefficient hooks -/

/-- The INIT values of 10_state.md R43. -/
def ReverbCoefs.initial : ReverbCoefs := { predelay := f0, bandwidth := hz20000, damping := hz20000, decay := f05 }

/-- A reference length or position scaled to the sample rate (R375): at least 1, halves rounded away from zero. -/
def scaledLength (ratio : F32) (l : Nat) : Nat := max 1 (realRound (fMul (toF32 l) ratio)).toNat

/-- `N[j]` (R375), by the table's `L_j`; the predelay line has none. -/
def revN (rt : RevTable) (ratio : F32) (j : RevLine) : Nat := if j = .pd then 0 else scaledLength ratio (rt.length.get j)

/-- `CAP[j]` (R375). -/
def revCap (rt : RevTable) (fs ratio exc : F32) (j : RevLine) : Nat :=
  if j = .pd then (realCeil (fMul f01 fs)).toNat + 1
  else if j = .dd1 ∨ j = .dd3 then revN rt ratio j + (realCeil exc).toNat + 1
  else revN rt ratio j

/-- The lines before line j (R43). -/
def linesBefore (j : RevLine) : List RevLine := revLines.takeWhile fun k => k != j

/-- `OFF[j]` (R375): four bytes for every sample of the lines before line j. -/
def revOff (cap : RevLine → Nat) (j : RevLine) : Nat := ((linesBefore j).map fun k => 4 * cap k).sum

/-- `MEMREQ` (R375): `OFF[12] + 4 * CAP[12]`. -/
def revMemReq (cap : RevLine → Nat) : Nat := revOff cap .dlR2 + 4 * cap .dlR2

/-- The registers the SET_SR hook writes (R375), by REV_TABLE. -/
def reverbSetSr (rt : RevTable) (fs : F32) (c : ReverbCoefs) : ReverbCoefs :=
  let ratio := fDiv fs hz29761
  let exc := fMul f8 ratio
  let cap := revCap rt fs ratio exc
  { c with
    kExp := kExpOf fs
    ratio := ratio
    n := PerLine.of fun j => BitVec.ofNat 32 (revN rt ratio j)
    tapLK := PerTap.of fun t => BitVec.ofNat 32 (scaledLength ratio (rt.tapL.get t).pos)
    tapRK := PerTap.of fun t => BitVec.ofNat 32 (scaledLength ratio (rt.tapR.get t).pos)
    exc := exc
    lfoInc := fDiv revLfoHz fs
    cap := PerLine.of fun j => BitVec.ofNat 32 (cap j)
    off := PerLine.of fun j => BitVec.ofNat 32 (revOff cap j)
    memReq := BitVec.ofNat 32 (revMemReq cap) }

/-- The UPDATE_CTRL hook (R377): the derived registers of the set bits of the mask. -/
def reverbUpdate (m : Word) (c : ReverbCoefs) : ReverbCoefs :=
  { c with
    pdTarget := if dirtyBit m 0 then c.predelay else c.pdTarget
    aBw := if dirtyBit m 1 then amul c.kExp c.bandwidth else c.aBw
    aDamp := if dirtyBit m 2 then amul c.kExp c.damping else c.aDamp
    decayG := if dirtyBit m 3 then c.decay else c.decayG
    dd2G := if dirtyBit m 3 then fMin (fMax (fAdd c.decay f015) f025) f05 else c.dd2G }

/-- `PD_N` of a smoothed predelay (R376, R381): `min(round_half_away(real(PD_S * FS)), CAP[0] - 1)`. -/
def predelaySamples (fs pdS : F32) (cap0 : Word) : Word :=
  BitVec.ofNat 32 (min (realRound (fMul pdS fs)).toNat (cap0.toNat - 1))

/-- The RESET_COEFFS hook (R376). -/
def reverbResetCoeffs (fs : F32) (c : ReverbCoefs) : ReverbCoefs :=
  let c := reverbUpdate (allDirty .reverb) c
  { c with
    aPds := amul c.kExp pdCutoff
    st2Pd := fMul pdThresh pdThresh
    pdS := c.pdTarget
    pdN := predelaySamples fs c.pdTarget c.cap.pd
    lfoPhase := f0
    lfoM := f0
    di1 := c.n.dd1
    df1 := f0
    di3 := c.n.dd3
    df3 := f0 }

/-- One step of the predelay smoother (R381): the new PD_S. -/
def predelayStep (c : ReverbCoefs) : F32 :=
  let y := op1 c.aPds c.pdS c.pdTarget
  let e := fSub y c.pdTarget
  if fNe c.aPds f1 && fLe (fMul e e) c.st2Pd then c.pdTarget else y

/-- The LFO phase after one step (R379, R380). -/
def lfoNext (c : ReverbCoefs) : F32 :=
  let p := fAdd c.lfoPhase c.lfoInc
  if fLe f1 p then fSub p f1 else p

/-- The UPDATE_AUDIO hook (R379): the smoother, the LFO, and the modulated read positions of lines 5 and 9. -/
def reverbUpdateAudio (fs : F32) (c : ReverbCoefs) : ReverbCoefs :=
  let pdS := predelayStep c
  let m := numSin2pi c.lfoPhase
  let d1 := fAdd (toF32 c.n.dd1.toNat) (fMul c.exc m)
  let d3 := fSub (toF32 c.n.dd3.toNat) (fMul c.exc m)
  let di1 := (realFloor d1).toNat
  let di3 := (realFloor d3).toNat
  { c with
    pdS := pdS
    pdN := predelaySamples fs pdS c.cap.pd
    lfoM := m
    lfoPhase := lfoNext c
    di1 := BitVec.ofNat 32 di1
    df1 := fSub d1 (toF32 di1)
    di3 := BitVec.ofNat 32 di3
    df3 := fSub d3 (toF32 di3) }

/-! ### Line operations (section 2) -/

/-- The allpass body shared by R372 and R373: read `z`, write `u - g * z`, answer `z + g * w`. -/
def allpassAt (l : LineRef) (d : Nat) (f : F32) (u g : F32) : Engine F32 := do
  let z ← dlRead l d f
  let w := fSub u (fMul g z)
  dlWrite l w
  pure (fAdd z (fMul g w))

/-- The fixed allpass `AP(j, u, g)` (R372). -/
def ap (ch : Nat) (j : RevLine) (u g : F32) : Engine F32 := do
  let s ← get
  allpassAt (.reverb ch j) (s.coefs.reverb.n.get j).toNat f0 u g

/-- The modulated allpass `APM(j, u, g, di, df)` (R373). -/
def apm (ch : Nat) (j : RevLine) (u g : F32) (di : Word) (df : F32) : Engine F32 :=
  allpassAt (.reverb ch j) di.toNat df u g

/-- The fixed delay `DLY(j, u)` (R374). -/
def dly (ch : Nat) (j : RevLine) (u : F32) : Engine F32 := do
  let s ← get
  let z ← dlRead (.reverb ch j) (s.coefs.reverb.n.get j).toNat f0
  dlWrite (.reverb ch j) u
  pure z

/-- The reads of a list of taps, in order (R391): each tap's sign and value. -/
def readTaps (ch : Nat) (tap : PerTap RevTap) (k : PerTap Word) : List TapIx → Engine (List (Bool × F32))
  | [] => pure []
  | t :: ts => do
    let v ← dlRead (.reverb ch (tap.get t).line) (k.get t).toNat f0
    let vs ← readTaps ch tap k ts
    pure (((tap.get t).plus, v) :: vs)

/-- The signed sum of the taps, left to right (R391). A first tap that a replaced REV_TABLE subtracts enters negated
(notes/assumptions/7). -/
def tapSum : List (Bool × F32) → F32
  | [] => f0
  | (p, v) :: vs =>
    vs.foldl (fun acc pv => if pv.1 then fAdd acc pv.2 else fSub acc pv.2) (if p then v else fNeg v)

/-- `taps(ch)` (R391): the left output's taps, then the right output's; 0.6 times each sum. -/
def taps (ch : Nat) : Engine (F32 × F32) := do
  let s ← get
  let tl ← readTaps ch s.hw.revTable.tapL s.coefs.reverb.tapLK tapOrder
  let tr ← readTaps ch s.hw.revTable.tapR s.coefs.reverb.tapRK tapOrder
  pure (fMul f06 (tapSum tl), fMul f06 (tapSum tr))

/-! ### State hooks -/

/-- Change a REVERB channel's registers. -/
def modifyReverbChan (ch : Nat) (f : ReverbState → ReverbState) : Engine Unit :=
  modify fun s => s.setReverbChan ch (f (s.chans.reverb.getD ch {}))

/-- The RESET_STATE hook (R390): the steady state of a constant input. A BUS_ERROR part-way leaves BW_Z1, DL_Z1 and
DR_Z1 as R390's order has written them so far, beside the arena words and cursors 60_exceptions.md R440 names. DESIGN
CHOICE, notes/assumptions/19. -/
def reverbReset (ch : Nat) (xl0 xr0 : F32) : Engine (List F32) := do
  let s ← get
  let c := s.coefs.reverb
  let i0 := fMul f05 (fAdd xl0 xr0)
  dlFill (.reverb ch .pd) i0
  modifyReverbChan ch fun st => { st with bwZ1 := i0 }
  dlFill (.reverb ch .id1) (fDiv i0 (fAdd f1 f075))
  dlFill (.reverb ch .id2) (fDiv i0 (fAdd f1 f075))
  dlFill (.reverb ch .id3) (fDiv i0 (fAdd f1 f0625))
  dlFill (.reverb ch .id4) (fDiv i0 (fAdd f1 f0625))
  let tin := fDiv i0 (fSub f1 (fMul c.decayG c.decayG))
  dlFill (.reverb ch .dd1) (fDiv tin (fAdd f1 fm07))
  dlFill (.reverb ch .dlL1) tin
  modifyReverbChan ch fun st => { st with dlZ1 := tin }
  let e := fMul c.decayG tin
  dlFill (.reverb ch .dd2) (fDiv e (fAdd f1 c.dd2G))
  dlFill (.reverb ch .dlL2) e
  dlFill (.reverb ch .dd3) (fDiv tin (fAdd f1 fm07))
  dlFill (.reverb ch .dlR1) tin
  modifyReverbChan ch fun st => { st with drZ1 := tin }
  dlFill (.reverb ch .dd4) (fDiv e (fAdd f1 c.dd2G))
  dlFill (.reverb ch .dlR2) e
  let y ← taps ch
  pure [y.1, y.2]

/-- One tank half of R392: the modulated allpass, the fixed delay, the damping lowpass, the decay gain, the second
allpass and the write of the last delay. `yp` reads and `put` writes the damper's state register. -/
def tankHalf (ch : Nat) (apmLine dlyLine apLine outLine : RevLine) (u : F32) (di : Word) (df : F32)
    (yp : ReverbState → F32) (put : F32 → ReverbState → ReverbState) : Engine Unit := do
  let s ← get
  let c := s.coefs.reverb
  let a ← apm ch apmLine u fm07 di df
  let z ← dly ch dlyLine a
  let s ← get
  let d := op1 c.aDamp (yp (s.chans.reverb.getD ch {})) z
  modifyReverbChan ch (put d)
  let a ← ap ch apLine (fMul c.decayG d) c.dd2G
  dlWrite (.reverb ch outLine) a

/-- The PROCESS1 hook (R392, access order R393). R398's property of it is `reverbAtRest` (Properties.lean). -/
def reverbStep (ch : Nat) (xl xr : F32) : Engine (List F32) := do
  let y ← taps ch
  let s ← get
  let c := s.coefs.reverb
  let l4 ← dlRead (.reverb ch .dlL2) c.n.dlL2.toNat f0
  let r4 ← dlRead (.reverb ch .dlR2) c.n.dlR2.toNat f0
  let i := fMul f05 (fAdd xl xr)
  dlWrite (.reverb ch .pd) i
  let p ← dlRead (.reverb ch .pd) (c.pdN.toNat + 1) f0
  let s ← get
  let b := op1 c.aBw (s.chans.reverb.getD ch {}).bwZ1 p
  modifyReverbChan ch fun st => { st with bwZ1 := b }
  let u ← ap ch .id1 b f075
  let u ← ap ch .id2 u f075
  let u ← ap ch .id3 u f0625
  let u ← ap ch .id4 u f0625
  tankHalf ch .dd1 .dlL1 .dd2 .dlL2 (fAdd u (fMul c.decayG r4)) c.di1 c.df1 (·.dlZ1) fun v st => { st with dlZ1 := v }
  tankHalf ch .dd3 .dlR1 .dd4 .dlR2 (fAdd u (fMul c.decayG l4)) c.di3 c.df3 (·.drZ1) fun v st => { st with drZ1 := v }
  pure [y.1, y.2]

end Sys2Proof.Machine
end

