-- ==== Sys2Proof/Machine/Protocol.lean ====
section
/-! DEFINITION. The commands' shared computations (40_protocol.md, 44_delay.md R352 and R353): the hook tables of each
step by unit, then one computation for each opcode, over the unit and the operands. Machine/Cmd<Unit>.lean gives every
row of the opcode table its own meaning over these. -/

namespace Sys2Proof.Machine
open Sys2Proof.Config

/-! ### Coefficient hooks by unit -/

/-- The parameter and derived registers INIT leaves (R142), every inner DIRTY bit set; `maxDelay` is DELAY's ARG0. -/
def initHook (u : UnitId) (maxDelay : F32) (c : Coefs) : Coefs :=
  match u with
  | .onepole => { c with onepole := OnePoleCoefs.initial }
  | .mm1 => { c with mm1 := Mm1Bank.initial }
  | .mm2 => { c with mm2 := Mm2Bank.initial }
  | .hp1 => { c with hp1 := Hp1Coefs.initial }
  | .ls1 => { c with ls1 := Ls1Coefs.initial }
  | .ls2 => { c with ls2 := Ls2Coefs.initial }
  | .ap2 => { c with ap2 := Ap2Coefs.initial }
  | .peak => { c with peak := PeakCoefs.initial }
  | .delay => { c with delay := DelayCoefs.initial maxDelay }
  | .reverb => { c with reverb := ReverbCoefs.initial }

/-- hook.SR of R143's table; REVERB's reads REV_TABLE. -/
def setSrHook (rt : RevTable) (u : UnitId) (fs : F32) (c : Coefs) : Coefs :=
  match u with
  | .onepole => { c with onepole := onePoleSetSr fs c.onepole }
  | .mm1 => { c with mm1 := mm1SetSr fs c.mm1 }
  | .mm2 => { c with mm2 := mm2SetSr fs c.mm2 }
  | .hp1 => { c with hp1 := { c.hp1 with inner := mm1SetSr fs c.hp1.inner } }
  | .ls1 => { c with ls1 := { c.ls1 with inner := mm1SetSr fs c.ls1.inner } }
  | .ls2 => { c with ls2 := { c.ls2 with inner := mm2SetSr fs c.ls2.inner } }
  | .ap2 => { c with ap2 := { c.ap2 with inner := mm2SetSr fs c.ap2.inner } }
  | .peak => { c with peak := { c.peak with inner := mm2SetSr fs c.peak.inner } }
  | .delay => { c with delay := delaySetSr fs c.delay }
  | .reverb => { c with reverb := reverbSetSr rt fs c.reverb }

/-- hook.UC of R146's table, for the mask `m`. A derived unit recomputes everything (43_eq.md R280). -/
def updateCtrlHook (u : UnitId) (fs : F32) (m : Word) (c : Coefs) : Coefs :=
  match u with
  | .onepole => { c with onepole := onePoleUpdate m c.onepole }
  | .mm1 => { c with mm1 := mm1Update m c.mm1 }
  | .mm2 => { c with mm2 := mm2Update m c.mm2 }
  | .hp1 => { c with hp1 := hp1Translate c.hp1 }
  | .ls1 => { c with ls1 := ls1Translate c.ls1 }
  | .ls2 => { c with ls2 := ls2Translate c.ls2 }
  | .ap2 => { c with ap2 := ap2Translate c.ap2 }
  | .peak => { c with peak := peakTranslate c.peak }
  | .delay => { c with delay := delayUpdate fs m c.delay }
  | .reverb => { c with reverb := reverbUpdate m c.reverb }

/-- hook.RC of R144's table: hook.UC with every bit set, and for REVERB 45_reverb.md R376. -/
def resetCoeffsHook (u : UnitId) (fs : F32) (c : Coefs) : Coefs :=
  match u with
  | .reverb => { c with reverb := reverbResetCoeffs fs c.reverb }
  | _ => updateCtrlHook u fs (allDirty u) c

/-- hook.UA of R147: only REVERB has one. -/
def updateAudioHook (u : UnitId) (fs : F32) (c : Coefs) : Coefs :=
  match u with
  | .reverb => { c with reverb := reverbUpdateAudio fs c.reverb }
  | _ => c

/-- Every register of every channel of a unit 0 (R142). -/
def zeroChans (u : UnitId) (n : Nat) (c : Chans) : Chans :=
  match u with
  | .onepole => { c with onepole := .replicate n {} }
  | .mm1 => { c with mm1 := .replicate n {} }
  | .mm2 => { c with mm2 := .replicate n {} }
  | .hp1 => { c with hp1 := .replicate n {} }
  | .ls1 => { c with ls1 := .replicate n {} }
  | .ls2 => { c with ls2 := .replicate n {} }
  | .ap2 => { c with ap2 := .replicate n {} }
  | .peak => { c with peak := .replicate n {} }
  | .delay => { c with delay := .replicate n {} }
  | .reverb => { c with reverb := .replicate n {} }

/-! ### Channel hooks by unit -/

/-- The first input sample. -/
def sample0 (xs : List F32) : F32 := xs.getD 0 0

/-- The second input sample. -/
def sample1 (xs : List F32) : F32 := xs.getD 1 0

/-- Write an MM1-type channel of a unit. -/
def State.setMm1Chan (s : State) (u : UnitId) (ch : Nat) (st : Mm1State) : State :=
  match u with
  | .mm1 => { s with chans := { s.chans with mm1 := s.chans.mm1.set ch st } }
  | .hp1 => { s with chans := { s.chans with hp1 := s.chans.hp1.set ch st } }
  | .ls1 => { s with chans := { s.chans with ls1 := s.chans.ls1.set ch st } }
  | _ => s

/-- Write an MM2-type channel of a unit. -/
def State.setMm2Chan (s : State) (u : UnitId) (ch : Nat) (st : Mm2State) : State :=
  match u with
  | .mm2 => { s with chans := { s.chans with mm2 := s.chans.mm2.set ch st } }
  | .ls2 => { s with chans := { s.chans with ls2 := s.chans.ls2.set ch st } }
  | .ap2 => { s with chans := { s.chans with ap2 := s.chans.ap2.set ch st } }
  | .peak => { s with chans := { s.chans with peak := s.chans.peak.set ch st } }
  | _ => s

/-- Write a ONEPOLE channel. -/
def State.setOnePoleChan (s : State) (ch : Nat) (st : OnePoleState) : State :=
  { s with chans := { s.chans with onepole := s.chans.onepole.set ch st } }

/-- The answer of a first-order channel: its output, its new state written. -/
def answerMm1 (u : UnitId) (ch : Nat) (r : F32 × Mm1State) : Engine (List F32) := do
  modify fun s => s.setMm1Chan u ch r.2
  pure [r.1]

/-- The answer of a second-order channel: its output, its new state written. -/
def answerMm2 (u : UnitId) (ch : Nat) (r : F32 × Mm2State) : Engine (List F32) := do
  modify fun s => s.setMm2Chan u ch r.2
  pure [r.1]

/-- hook.RS of R145's table: the outputs of the seeded channel. ONEPOLE's is 41_one_pole.md R210, a derived unit's its
inner core's (43_eq.md R280). -/
def resetStateHook (u : UnitId) (ch : Nat) (xs : List F32) : Engine (List F32) := do
  let s ← get
  match u with
  | .onepole => do
    modify fun s => s.setOnePoleChan ch { yZ1 := sample0 xs }
    pure [sample0 xs]
  | .mm1 => answerMm1 u ch (mm1Reset s.coefs.mm1 (sample0 xs))
  | .mm2 => answerMm2 u ch (mm2Reset s.coefs.mm2 (sample0 xs))
  | .hp1 => answerMm1 u ch (mm1Reset s.coefs.hp1.inner (sample0 xs))
  | .ls1 => answerMm1 u ch (mm1Reset s.coefs.ls1.inner (sample0 xs))
  | .ls2 => answerMm2 u ch (mm2Reset s.coefs.ls2.inner (sample0 xs))
  | .ap2 => answerMm2 u ch (mm2Reset s.coefs.ap2.inner (sample0 xs))
  | .peak => answerMm2 u ch (mm2Reset s.coefs.peak.inner (sample0 xs))
  | .delay => delayReset ch (sample0 xs)
  | .reverb => reverbReset ch (sample0 xs) (sample1 xs)

/-- hook.P1 of R148's table: the outputs of one sample. -/
def process1Hook (u : UnitId) (ch : Nat) (xs : List F32) : Engine (List F32) := do
  let s ← get
  match u with
  | .onepole => do
    let y := onePoleStep s.coefs.onepole (s.chans.onepole.getD ch {}).yZ1 (sample0 xs)
    modify fun s => s.setOnePoleChan ch { yZ1 := y }
    pure [y]
  | .mm1 => answerMm1 u ch (mm1Step s.coefs.mm1 (s.chans.mm1.getD ch {}) (sample0 xs))
  | .mm2 => answerMm2 u ch (mm2Step s.coefs.mm2 (s.chans.mm2.getD ch {}) (sample0 xs))
  | .hp1 => answerMm1 u ch (mm1Step s.coefs.hp1.inner (s.chans.hp1.getD ch {}) (sample0 xs))
  | .ls1 => answerMm1 u ch (mm1Step s.coefs.ls1.inner (s.chans.ls1.getD ch {}) (sample0 xs))
  | .ls2 => answerMm2 u ch (mm2Step s.coefs.ls2.inner (s.chans.ls2.getD ch {}) (sample0 xs))
  | .ap2 => answerMm2 u ch (mm2Step s.coefs.ap2.inner (s.chans.ap2.getD ch {}) (sample0 xs))
  | .peak => answerMm2 u ch (mm2Step s.coefs.peak.inner (s.chans.peak.getD ch {}) (sample0 xs))
  | .delay => delayStep ch (sample0 xs)
  | .reverb => reverbStep ch (sample0 xs) (sample1 xs)

/-! ### Single commands (section 2) -/

/-- NOP (R140). -/
def cmdNop : Engine Unit := pure ()

/-- The common registers after INIT (R142). -/
def initRegs (u : UnitId) : UnitRegs := { life := .inited, gen := 0, fs := 0, dirty := allDirty u }

/-- The effect of INIT (R142). -/
def initUnit (u : UnitId) (s : State) : State :=
  ({ s with
    coefs := initHook u s.win.arg0 s.coefs
    regs := s.regs.set u (initRegs u)
    chans := zeroChans u s.hw.nCh s.chans }.clearValid u).unbindAll u

/-- INIT (R142): any lifecycle; DELAY's max_delay must be finite and not negative. -/
def cmdInit (u : UnitId) : Engine Unit := do
  let s ← get
  require (u != .delay || okNonneg s.win.arg0) .paramRange s.win.arg0
  modify (initUnit u)

/-- The sample rates a unit accepts beyond R143's common check: REVERB's range, and the capacity check of 44_delay.md
R345. -/
def okUnitRate (u : UnitId) (fs : F32) (c : Coefs) : Bool :=
  match u with
  | .reverb => fLe fsMinRev fs && fLe fs fsMaxRev
  | .delay => fLe (delaySpan fs c.delay) delayMax
  | _ => true

/-- The channel registers SET_SR clears: none, but for the units that have memory. -/
def unbindForRate (u : UnitId) (s : State) : State :=
  if hasMemory u then (s.unbindAll u).clearValid u else s

/-- The effect of SET_SR (R143). -/
def setRate (u : UnitId) (fs : F32) (s : State) : State :=
  unbindForRate u
    (State.updRegs { s with coefs := setSrHook s.hw.revTable u fs s.coefs } u fun r => { r with fs := fs, life := .srSet })

/-- SET_SR (R143). -/
def cmdSetSr (u : UnitId) : Engine Unit := do
  requireLife u lifeInited
  let s ← get
  let fs := s.win.arg0
  require (isFinite fs && fLe fsMin fs) .paramRange fs
  require (okUnitRate u fs s.coefs) .paramRange fs
  modify (setRate u fs)

/-- The effect of RESET_COEFFS (R144). -/
def resetCoeffs (u : UnitId) (s : State) : State :=
  (State.updRegs { s with coefs := resetCoeffsHook u (s.regs.get u).fs s.coefs } u fun r =>
    { r with dirty := 0, gen := r.gen + 1, life := .ready }).clearValid u

/-- RESET_COEFFS (R144). -/
def cmdResetCoeffs (u : UnitId) : Engine Unit := do
  requireLife u lifeSrSet
  modify (resetCoeffs u)

/-- Every sample of a list is finite, else NONFINITE with the first that is not (R145, R148, R156). -/
def requireFinite : List F32 → Engine Unit
  | [] => pure ()
  | v :: vs => do
    require (isFinite v) .nonfinite v
    requireFinite vs

/-- RESET_STATE (R145). A channel with memory is marked invalid before its arena is filled, so that a BUS_ERROR leaves
ST_VALID = 0, as R145 says (notes/assumptions/8). -/
def cmdResetState (u : UnitId) (ch : BitVec 6) : Engine Unit := do
  requireChannel ch
  requireLife u lifeReady
  requireBound u ch.toNat
  let s ← get
  let xs := sampleArgs u s.win
  requireFinite xs
  modify fun s => s.setStValid u ch.toNat (s.stValid u ch.toNat && !hasMemory u)
  let ys ← resetStateHook u ch.toNat xs
  modify fun s => (s.setStValid u ch.toNat true).setResults ys

/-- The effect of UPDATE_CTRL (R146). -/
def updateCtrl (u : UnitId) (s : State) : State :=
  { s with
    coefs := if (s.regs.get u).dirty = 0 then s.coefs
      else updateCtrlHook u (s.regs.get u).fs (s.regs.get u).dirty s.coefs }.clearDirty u

/-- UPDATE_CTRL (R146). -/
def cmdUpdateCtrl (u : UnitId) : Engine Unit := do
  requireLife u lifeReady
  modify (updateCtrl u)

/-- The effect of UPDATE_AUDIO (R147). -/
def updateAudio (u : UnitId) (s : State) : State :=
  { s with coefs := updateAudioHook u (s.regs.get u).fs s.coefs }

/-- UPDATE_AUDIO (R147). -/
def cmdUpdateAudio (u : UnitId) : Engine Unit := do
  requireLife u lifeReady
  modify (updateAudio u)

/-- The admission of a command that advances or reads a channel's recursive state (R141's table). -/
def admitChannel (u : UnitId) (ch : BitVec 6) : Engine Unit := do
  requireChannel ch
  requireLife u lifeReady
  requireBound u ch.toNat
  requireValid u ch.toNat

/-- PROCESS1 (R148). -/
def cmdProcess1 (u : UnitId) (ch : BitVec 6) : Engine Unit := do
  admitChannel u ch
  let s ← get
  let xs := sampleArgs u s.win
  requireFinite xs
  let ys ← process1Hook u ch.toNat xs
  modify fun s => s.setResults ys

/-- The effect of SET_PARAM (R149): the parameter registers, and the DIRTY bits. -/
def writeParam (u : UnitId) (bits : Word) (write : Word → Coefs → Coefs) (s : State) : State :=
  { s with coefs := write s.win.arg0 s.coefs }.markDirty u bits

/-- SET_PARAM (R149) of a parameter with the legal set `ok`. -/
def cmdSetParam (u : UnitId) (ok : Word → Bool) (bits : Word) (write : Word → Coefs → Coefs) : Engine Unit := do
  requireLife u lifeInited
  let s ← get
  require (ok s.win.arg0) .paramRange s.win.arg0
  modify (writeParam u bits write)

/-- MEM_REQ (R150). -/
def cmdMemReq (u : UnitId) : Engine Unit := do
  requireLife u lifeSrSet
  modify fun s => s.setRes0 (s.memReq u)

/-- The effect of MEM_SET (R151). -/
def bindChannel (u : UnitId) (ch : Nat) (s : State) : State :=
  (s.setBinding u ch { bound := true, base := s.win.arg0 }).setStValid u ch false

/-- MEM_SET (R151). -/
def cmdMemSet (u : UnitId) (ch : BitVec 6) : Engine Unit := do
  requireChannel ch
  requireLife u lifeSrSet
  let s ← get
  let a := s.win.arg0
  require (aligned4 a) .misaligned a
  require (inRange a (s.memReq u).toNat) .addrRange a
  modify (bindChannel u ch.toNat)

/-- A fraction DELAY_READ accepts (44_delay.md R352). -/
def okFraction (f : F32) : Bool := isFinite f && fLe f0 f && fLt f f1

/-- The largest recency index DELAY_READ accepts for a fraction (R352). -/
def readLimit (len : Word) (f : F32) : Nat := if fEq f f0 then len.toNat else len.toNat - 1

/-- DELAY_READ (R352). -/
def cmdDelayRead (ch : BitVec 6) : Engine Unit := do
  admitChannel .delay ch
  let s ← get
  let d := s.win.arg0
  let f := s.win.arg1
  require (okFraction f) .operandRange f
  require (decide (1 ≤ d.toNat) && decide (d.toNat ≤ readLimit s.coefs.delay.len f)) .operandRange d
  let v ← dlRead (.delay ch.toNat) d.toNat f
  modify fun s => s.setRes0 v

/-- DELAY_WRITE (R353). -/
def cmdDelayWrite (ch : BitVec 6) : Engine Unit := do
  admitChannel .delay ch
  let s ← get
  let x := s.win.arg0
  require (isFinite x) .nonfinite x
  dlWrite (.delay ch.toNat) x

/-! ### Batched commands (section 3) -/

/-- Every address of a list is aligned and its buffer of `bytes` bytes does not pass 2^32, each address's MISALIGNED
check before its ADDR_RANGE check (R156, R157). -/
def requireBuffers (bytes : Nat) : List Word → Engine Unit
  | [] => pure ()
  | b :: bs => do
    require (aligned4 b) .misaligned b
    require (inRange b bytes) .addrRange b
    requireBuffers bytes bs

/-- The words at index `i` of a list of buffers, loaded in order (`LoadF(b + 4*i) for b in …`). -/
def loadSamples (i : Nat) : List Word → Engine (List F32)
  | [] => pure []
  | b :: bs => do
    let v ← memRead (b.toNat + 4 * i)
    let vs ← loadSamples i bs
    pure (v :: vs)

/-- The stores of results to index `i` of a list of buffers, in order (`StoreF(outs[k] + 4*i, ys[k])`). -/
def storeSamples (i : Nat) : List Word → List F32 → Engine Unit
  | b :: bs, y :: ys => do
    memWrite (b.toNat + 4 * i) y
    storeSamples i bs ys
  | _, _ => pure ()

/-- Sample `i` of PROCESS (R156). -/
def processSample (u : UnitId) (ch : Nat) (ins outs : List Word) (i : Nat) : Engine Unit := do
  let xs ← loadSamples i ins
  requireFinite xs
  modify (updateAudio u)
  let ys ← process1Hook u ch xs
  storeSamples i outs ys

/-- A computation of each sample from `i` on, `k` samples in all. -/
def forSamples (body : Nat → Engine Unit) (i : Nat) : Nat → Engine Unit
  | 0 => pure ()
  | k + 1 => do
    atSample i (body i)
    forSamples body (i + 1) k

/-- PROCESS (R156). -/
def cmdProcess (u : UnitId) (ch : BitVec 6) : Engine Unit := do
  admitChannel u ch
  let s ← get
  let ins := inArgs u s.win
  let outs := outArgs u s.win
  let n := processN u s.win
  requireBuffers (4 * n) (ins ++ outs)
  modify (updateCtrl u)
  forSamples (processSample u ch.toNat ins outs) 0 n

/-- The channels `c`, `c + 1`, …, `k` in all, are bound and valid (R157). -/
def requireChannels (u : UnitId) (c : Nat) : Nat → Engine Unit
  | 0 => pure ()
  | k + 1 => do
    requireBound u c
    requireValid u c
    requireChannels u (c + 1) k

/-- The `k` pointers of a table from an address on (R157). -/
def readPointers (a : Nat) : Nat → Engine (List Word)
  | 0 => pure []
  | k + 1 => do
    let p ← memRead a
    let ps ← readPointers (a + 4) k
    pure (p :: ps)

/-- The pointers of each table of a list, in order (R157). -/
def readTables (m : Nat) : List Word → Engine (List (List Word))
  | [] => pure []
  | t :: ts => do
    let p ← readPointers t.toNat m
    let ps ← readTables m ts
    pure (p :: ps)

/-- Channel `c`'s buffer of each table. -/
def channelBuffers (tables : List (List Word)) (c : Nat) : List Word := tables.map fun t => t.getD c 0

/-- The samples at index `i` of channels `c`, `c + 1`, …, `k` in all (R157). -/
def loadChannels (pin : List (List Word)) (i c : Nat) : Nat → Engine (List (List F32))
  | 0 => pure []
  | k + 1 => do
    let xs ← loadSamples i (channelBuffers pin c)
    let xss ← loadChannels pin i (c + 1) k
    pure (xs :: xss)

/-- The processing of one sample by channels `c`, `c + 1`, … (R157). -/
def processChannels (u : UnitId) (pout : List (List Word)) (i c : Nat) : List (List F32) → Engine Unit
  | [] => pure ()
  | xs :: xss => do
    let ys ← process1Hook u c xs
    storeSamples i (channelBuffers pout c) ys
    processChannels u pout i (c + 1) xss

/-- Sample `i` of PROCESS_MULTI, in the order of R157: every channel's input words are loaded before the audio-rate update
and before any channel processes the sample, so a BUS_ERROR of a load of channel `c` leaves neither done. 60_exceptions.md
R440's row, read literally, has the update and channels 0 to `c` - 1 complete there too. DESIGN CHOICE,
notes/assumptions/20. -/
def multiSample (u : UnitId) (m : Nat) (pin pout : List (List Word)) (i : Nat) : Engine Unit := do
  let xss ← loadChannels pin i 0 m
  requireFinite xss.flatten
  modify (updateAudio u)
  processChannels u pout i 0 xss

/-- PROCESS_MULTI (R157). -/
def cmdProcessMulti (u : UnitId) : Engine Unit := do
  requireLife u lifeReady
  let s ← get
  let tin := inArgs u s.win
  let tout := outArgs u s.win
  let m := multiM u s.win
  let n := multiN u s.win
  require (decide (m.toNat ≤ s.hw.nCh)) .operandRange m
  requireChannels u 0 m.toNat
  requireBuffers (4 * m.toNat) (tin ++ tout)
  let ptrs ← readTables m.toNat (tin ++ tout)
  requireBuffers (4 * n) ptrs.flatten
  modify (updateCtrl u)
  forSamples (multiSample u m.toNat (ptrs.take tin.length) (ptrs.drop tin.length)) 0 n

/-! ### Register access (section 4) -/

/-- READ_COEF (R160) of the register a function reads. -/
def cmdReadCoef (reg : State → Word) : Engine Unit := modify fun s => s.setRes0 (reg s)

/-- READ_STATE (R161) of the channel register a function reads. -/
def cmdReadState (ch : BitVec 6) (reg : State → Nat → Word) : Engine Unit := do
  requireChannel ch
  modify fun s => s.setRes0 (reg s ch.toNat)

end Sys2Proof.Machine
end

