-- ==== Sys2Proof/Machine/CmdAp2.lean ====
section
/-! DEFINITION. The meaning of every command of unit AP2: one definition for each row of
spec/opcode_table.json, over the shared computations of Machine/Protocol.lean. -/

namespace Sys2Proof.Machine

/-- `INIT.AP2` (R142). -/
def execInitAp2 (s : State) : Host.Outcome State Fault Refusal :=
  runCommand .initAp2 (cmdInit .ap2) s

/-- `SET_SR.AP2` (R143). -/
def execSetSrAp2 (s : State) : Host.Outcome State Fault Refusal :=
  runCommand .setSrAp2 (cmdSetSr .ap2) s

/-- `RESET_COEFFS.AP2` (R144). -/
def execResetCoeffsAp2 (s : State) : Host.Outcome State Fault Refusal :=
  runCommand .resetCoeffsAp2 (cmdResetCoeffs .ap2) s

/-- `RESET_STATE.AP2` (R145). -/
def execResetStateAp2 (ch : BitVec 6) (s : State) : Host.Outcome State Fault Refusal :=
  runCommand (.resetStateAp2 ch) (cmdResetState .ap2 ch) s

/-- `UPDATE_CTRL.AP2` (R146). -/
def execUpdateCtrlAp2 (s : State) : Host.Outcome State Fault Refusal :=
  runCommand .updateCtrlAp2 (cmdUpdateCtrl .ap2) s

/-- `UPDATE_AUDIO.AP2` (R147). -/
def execUpdateAudioAp2 (s : State) : Host.Outcome State Fault Refusal :=
  runCommand .updateAudioAp2 (cmdUpdateAudio .ap2) s

/-- `PROCESS1.AP2` (R148). -/
def execProcess1Ap2 (ch : BitVec 6) (s : State) : Host.Outcome State Fault Refusal :=
  runCommand (.process1Ap2 ch) (cmdProcess1 .ap2 ch) s

/-- `PROCESS.AP2` (R156). -/
def execProcessAp2 (ch : BitVec 6) (s : State) : Host.Outcome State Fault Refusal :=
  runCommand (.processAp2 ch) (cmdProcess .ap2 ch) s

/-- `PROCESS_MULTI.AP2` (R157). -/
def execProcessMultiAp2 (s : State) : Host.Outcome State Fault Refusal :=
  runCommand .processMultiAp2 (cmdProcessMulti .ap2) s

/-- `SET_PARAM.AP2.CUTOFF` (R310). -/
def execSetParamAp2Cutoff (s : State) : Host.Outcome State Fault Refusal :=
  runCommand .setParamAp2Cutoff (cmdSetParam .ap2 okNonneg 0b001 fun v c =>
    { c with ap2 := { c.ap2 with cutoff := v } }) s

/-- `SET_PARAM.AP2.Q` (R311). -/
def execSetParamAp2Q (s : State) : Host.Outcome State Fault Refusal :=
  runCommand .setParamAp2Q (cmdSetParam .ap2 okFinite 0b010 fun v c =>
    { c with ap2 := { c.ap2 with q := v } }) s

/-- `SET_PARAM.AP2.PREWARP_AT_CUTOFF` (R312). -/
def execSetParamAp2PrewarpAtCutoff (s : State) : Host.Outcome State Fault Refusal :=
  runCommand .setParamAp2PrewarpAtCutoff (cmdSetParam .ap2 okFlag 0b100 fun v c =>
    { c with ap2 := { c.ap2 with prewarpAtCutoff := v } }) s

/-- `SET_PARAM.AP2.PREWARP_FREQ` (R313). -/
def execSetParamAp2PrewarpFreq (s : State) : Host.Outcome State Fault Refusal :=
  runCommand .setParamAp2PrewarpFreq (cmdSetParam .ap2 okPositive 0b100 fun v c =>
    { c with ap2 := { c.ap2 with prewarpFreq := v } }) s

/-- `READ_COEF.AP2.CUTOFF` (R160). -/
def execReadCoefAp2Cutoff (s : State) : Host.Outcome State Fault Refusal :=
  runCommand .readCoefAp2Cutoff (cmdReadCoef fun s => s.coefs.ap2.cutoff) s

/-- `READ_COEF.AP2.Q` (R160). -/
def execReadCoefAp2Q (s : State) : Host.Outcome State Fault Refusal :=
  runCommand .readCoefAp2Q (cmdReadCoef fun s => s.coefs.ap2.q) s

/-- `READ_COEF.AP2.PREWARP_AT_CUTOFF` (R160). -/
def execReadCoefAp2PrewarpAtCutoff (s : State) : Host.Outcome State Fault Refusal :=
  runCommand .readCoefAp2PrewarpAtCutoff (cmdReadCoef fun s => s.coefs.ap2.prewarpAtCutoff) s

/-- `READ_COEF.AP2.PREWARP_FREQ` (R160). -/
def execReadCoefAp2PrewarpFreq (s : State) : Host.Outcome State Fault Refusal :=
  runCommand .readCoefAp2PrewarpFreq (cmdReadCoef fun s => s.coefs.ap2.prewarpFreq) s

/-- `READ_COEF.AP2.KI` (R160). -/
def execReadCoefAp2Ki (s : State) : Host.Outcome State Fault Refusal :=
  runCommand .readCoefAp2Ki (cmdReadCoef fun s => s.coefs.ap2.ki) s

/-- `READ_COEF.AP2.INNER.CUTOFF` (R160). -/
def execReadCoefAp2InnerCutoff (s : State) : Host.Outcome State Fault Refusal :=
  runCommand .readCoefAp2InnerCutoff (cmdReadCoef fun s => s.coefs.ap2.inner.cutoff) s

/-- `READ_COEF.AP2.INNER.Q` (R160). -/
def execReadCoefAp2InnerQ (s : State) : Host.Outcome State Fault Refusal :=
  runCommand .readCoefAp2InnerQ (cmdReadCoef fun s => s.coefs.ap2.inner.q) s

/-- `READ_COEF.AP2.INNER.PREWARP_AT_CUTOFF` (R160). -/
def execReadCoefAp2InnerPrewarpAtCutoff (s : State) : Host.Outcome State Fault Refusal :=
  runCommand .readCoefAp2InnerPrewarpAtCutoff (cmdReadCoef fun s => s.coefs.ap2.inner.prewarpAtCutoff) s

/-- `READ_COEF.AP2.INNER.PREWARP_FREQ` (R160). -/
def execReadCoefAp2InnerPrewarpFreq (s : State) : Host.Outcome State Fault Refusal :=
  runCommand .readCoefAp2InnerPrewarpFreq (cmdReadCoef fun s => s.coefs.ap2.inner.prewarpFreq) s

/-- `READ_COEF.AP2.INNER.COEFF_X` (R160). -/
def execReadCoefAp2InnerCoeffX (s : State) : Host.Outcome State Fault Refusal :=
  runCommand .readCoefAp2InnerCoeffX (cmdReadCoef fun s => s.coefs.ap2.inner.coeffX) s

/-- `READ_COEF.AP2.INNER.COEFF_LP` (R160). -/
def execReadCoefAp2InnerCoeffLp (s : State) : Host.Outcome State Fault Refusal :=
  runCommand .readCoefAp2InnerCoeffLp (cmdReadCoef fun s => s.coefs.ap2.inner.coeffLp) s

/-- `READ_COEF.AP2.INNER.COEFF_BP` (R160). -/
def execReadCoefAp2InnerCoeffBp (s : State) : Host.Outcome State Fault Refusal :=
  runCommand .readCoefAp2InnerCoeffBp (cmdReadCoef fun s => s.coefs.ap2.inner.coeffBp) s

/-- `READ_COEF.AP2.INNER.COEFF_HP` (R160). -/
def execReadCoefAp2InnerCoeffHp (s : State) : Host.Outcome State Fault Refusal :=
  runCommand .readCoefAp2InnerCoeffHp (cmdReadCoef fun s => s.coefs.ap2.inner.coeffHp) s

/-- `READ_COEF.AP2.INNER.K_PI` (R160). -/
def execReadCoefAp2InnerKPi (s : State) : Host.Outcome State Fault Refusal :=
  runCommand .readCoefAp2InnerKPi (cmdReadCoef fun s => s.coefs.ap2.inner.kPi) s

/-- `READ_COEF.AP2.INNER.G` (R160). -/
def execReadCoefAp2InnerG (s : State) : Host.Outcome State Fault Refusal :=
  runCommand .readCoefAp2InnerG (cmdReadCoef fun s => s.coefs.ap2.inner.g) s

/-- `READ_COEF.AP2.INNER.K` (R160). -/
def execReadCoefAp2InnerK (s : State) : Host.Outcome State Fault Refusal :=
  runCommand .readCoefAp2InnerK (cmdReadCoef fun s => s.coefs.ap2.inner.k) s

/-- `READ_COEF.AP2.INNER.GK` (R160). -/
def execReadCoefAp2InnerGk (s : State) : Host.Outcome State Fault Refusal :=
  runCommand .readCoefAp2InnerGk (cmdReadCoef fun s => s.coefs.ap2.inner.gk) s

/-- `READ_COEF.AP2.INNER.HP_D` (R160). -/
def execReadCoefAp2InnerHpD (s : State) : Host.Outcome State Fault Refusal :=
  runCommand .readCoefAp2InnerHpD (cmdReadCoef fun s => s.coefs.ap2.inner.hpD) s

/-- `READ_COEF.AP2.INNER.CX_ACT` (R160). -/
def execReadCoefAp2InnerCxAct (s : State) : Host.Outcome State Fault Refusal :=
  runCommand .readCoefAp2InnerCxAct (cmdReadCoef fun s => s.coefs.ap2.inner.cxAct) s

/-- `READ_COEF.AP2.INNER.CLP_ACT` (R160). -/
def execReadCoefAp2InnerClpAct (s : State) : Host.Outcome State Fault Refusal :=
  runCommand .readCoefAp2InnerClpAct (cmdReadCoef fun s => s.coefs.ap2.inner.clpAct) s

/-- `READ_COEF.AP2.INNER.CBP_ACT` (R160). -/
def execReadCoefAp2InnerCbpAct (s : State) : Host.Outcome State Fault Refusal :=
  runCommand .readCoefAp2InnerCbpAct (cmdReadCoef fun s => s.coefs.ap2.inner.cbpAct) s

/-- `READ_COEF.AP2.INNER.CHP_ACT` (R160). -/
def execReadCoefAp2InnerChpAct (s : State) : Host.Outcome State Fault Refusal :=
  runCommand .readCoefAp2InnerChpAct (cmdReadCoef fun s => s.coefs.ap2.inner.chpAct) s

/-- `READ_COEF.AP2.INNER.DIRTY` (R160). -/
def execReadCoefAp2InnerDirty (s : State) : Host.Outcome State Fault Refusal :=
  runCommand .readCoefAp2InnerDirty (cmdReadCoef fun s => s.coefs.ap2.innerDirty) s

/-- `READ_COEF.AP2.LIFE` (R160). -/
def execReadCoefAp2Life (s : State) : Host.Outcome State Fault Refusal :=
  runCommand .readCoefAp2Life (cmdReadCoef fun s => lifeCode s.regs.ap2.life) s

/-- `READ_COEF.AP2.GEN` (R160). -/
def execReadCoefAp2Gen (s : State) : Host.Outcome State Fault Refusal :=
  runCommand .readCoefAp2Gen (cmdReadCoef fun s => s.regs.ap2.gen) s

/-- `READ_COEF.AP2.FS` (R160). -/
def execReadCoefAp2Fs (s : State) : Host.Outcome State Fault Refusal :=
  runCommand .readCoefAp2Fs (cmdReadCoef fun s => s.regs.ap2.fs) s

/-- `READ_COEF.AP2.DIRTY` (R160). -/
def execReadCoefAp2Dirty (s : State) : Host.Outcome State Fault Refusal :=
  runCommand .readCoefAp2Dirty (cmdReadCoef fun s => s.regs.ap2.dirty) s

/-- `READ_COEF.AP2.MEMREQ` (R160). -/
def execReadCoefAp2Memreq (s : State) : Host.Outcome State Fault Refusal :=
  runCommand .readCoefAp2Memreq (cmdReadCoef fun _ => 0) s

/-- `READ_STATE.AP2.S1` (R161). -/
def execReadStateAp2S1 (ch : BitVec 6) (s : State) : Host.Outcome State Fault Refusal :=
  runCommand (.readStateAp2S1 ch) (cmdReadState ch fun s ch => (s.chans.ap2.getD ch {}).s1) s

/-- `READ_STATE.AP2.S2` (R161). -/
def execReadStateAp2S2 (ch : BitVec 6) (s : State) : Host.Outcome State Fault Refusal :=
  runCommand (.readStateAp2S2 ch) (cmdReadState ch fun s ch => (s.chans.ap2.getD ch {}).s2) s

/-- `READ_STATE.AP2.ST_VALID` (R161). -/
def execReadStateAp2StValid (ch : BitVec 6) (s : State) : Host.Outcome State Fault Refusal :=
  runCommand (.readStateAp2StValid ch) (cmdReadState ch fun s ch => flagWord (s.stValid .ap2 ch)) s

end Sys2Proof.Machine
end

