-- ==== Sys2Proof/Machine/CmdDelay.lean ====
section
/-! DEFINITION. The meaning of every command of unit DELAY: one definition for each row of
spec/opcode_table.json, over the shared computations of Machine/Protocol.lean. -/

namespace Sys2Proof.Machine

/-- `INIT.DELAY` (R142). -/
def execInitDelay (s : State) : Host.Outcome State Fault Refusal :=
  runCommand .initDelay (cmdInit .delay) s

/-- `SET_SR.DELAY` (R143). -/
def execSetSrDelay (s : State) : Host.Outcome State Fault Refusal :=
  runCommand .setSrDelay (cmdSetSr .delay) s

/-- `RESET_COEFFS.DELAY` (R144). -/
def execResetCoeffsDelay (s : State) : Host.Outcome State Fault Refusal :=
  runCommand .resetCoeffsDelay (cmdResetCoeffs .delay) s

/-- `RESET_STATE.DELAY` (R145). -/
def execResetStateDelay (ch : BitVec 6) (s : State) : Host.Outcome State Fault Refusal :=
  runCommand (.resetStateDelay ch) (cmdResetState .delay ch) s

/-- `UPDATE_CTRL.DELAY` (R146). -/
def execUpdateCtrlDelay (s : State) : Host.Outcome State Fault Refusal :=
  runCommand .updateCtrlDelay (cmdUpdateCtrl .delay) s

/-- `UPDATE_AUDIO.DELAY` (R147). -/
def execUpdateAudioDelay (s : State) : Host.Outcome State Fault Refusal :=
  runCommand .updateAudioDelay (cmdUpdateAudio .delay) s

/-- `PROCESS1.DELAY` (R148). -/
def execProcess1Delay (ch : BitVec 6) (s : State) : Host.Outcome State Fault Refusal :=
  runCommand (.process1Delay ch) (cmdProcess1 .delay ch) s

/-- `PROCESS.DELAY` (R156). -/
def execProcessDelay (ch : BitVec 6) (s : State) : Host.Outcome State Fault Refusal :=
  runCommand (.processDelay ch) (cmdProcess .delay ch) s

/-- `PROCESS_MULTI.DELAY` (R157). -/
def execProcessMultiDelay (s : State) : Host.Outcome State Fault Refusal :=
  runCommand .processMultiDelay (cmdProcessMulti .delay) s

/-- `MEM_REQ.DELAY` (R150). -/
def execMemReqDelay (s : State) : Host.Outcome State Fault Refusal :=
  runCommand .memReqDelay (cmdMemReq .delay) s

/-- `MEM_SET.DELAY` (R151). -/
def execMemSetDelay (ch : BitVec 6) (s : State) : Host.Outcome State Fault Refusal :=
  runCommand (.memSetDelay ch) (cmdMemSet .delay ch) s

/-- `DELAY_READ.DELAY` (R352). -/
def execDelayReadDelay (ch : BitVec 6) (s : State) : Host.Outcome State Fault Refusal :=
  runCommand (.delayReadDelay ch) (cmdDelayRead ch) s

/-- `DELAY_WRITE.DELAY` (R353). -/
def execDelayWriteDelay (ch : BitVec 6) (s : State) : Host.Outcome State Fault Refusal :=
  runCommand (.delayWriteDelay ch) (cmdDelayWrite ch) s

/-- `SET_PARAM.DELAY.DELAY` (R354). -/
def execSetParamDelayDelay (s : State) : Host.Outcome State Fault Refusal :=
  runCommand .setParamDelayDelay (cmdSetParam .delay okNonneg 0b1 fun v c =>
    { c with delay := { c.delay with delay := v } }) s

/-- `READ_COEF.DELAY.DELAY` (R160). -/
def execReadCoefDelayDelay (s : State) : Host.Outcome State Fault Refusal :=
  runCommand .readCoefDelayDelay (cmdReadCoef fun s => s.coefs.delay.delay) s

/-- `READ_COEF.DELAY.MAX_DELAY` (R160). -/
def execReadCoefDelayMaxDelay (s : State) : Host.Outcome State Fault Refusal :=
  runCommand .readCoefDelayMaxDelay (cmdReadCoef fun s => s.coefs.delay.maxDelay) s

/-- `READ_COEF.DELAY.LEN` (R160). -/
def execReadCoefDelayLen (s : State) : Host.Outcome State Fault Refusal :=
  runCommand .readCoefDelayLen (cmdReadCoef fun s => s.coefs.delay.len) s

/-- `READ_COEF.DELAY.DI` (R160). -/
def execReadCoefDelayDi (s : State) : Host.Outcome State Fault Refusal :=
  runCommand .readCoefDelayDi (cmdReadCoef fun s => s.coefs.delay.di) s

/-- `READ_COEF.DELAY.DF` (R160). -/
def execReadCoefDelayDf (s : State) : Host.Outcome State Fault Refusal :=
  runCommand .readCoefDelayDf (cmdReadCoef fun s => s.coefs.delay.df) s

/-- `READ_COEF.DELAY.LIFE` (R160). -/
def execReadCoefDelayLife (s : State) : Host.Outcome State Fault Refusal :=
  runCommand .readCoefDelayLife (cmdReadCoef fun s => lifeCode s.regs.delay.life) s

/-- `READ_COEF.DELAY.GEN` (R160). -/
def execReadCoefDelayGen (s : State) : Host.Outcome State Fault Refusal :=
  runCommand .readCoefDelayGen (cmdReadCoef fun s => s.regs.delay.gen) s

/-- `READ_COEF.DELAY.FS` (R160). -/
def execReadCoefDelayFs (s : State) : Host.Outcome State Fault Refusal :=
  runCommand .readCoefDelayFs (cmdReadCoef fun s => s.regs.delay.fs) s

/-- `READ_COEF.DELAY.DIRTY` (R160). -/
def execReadCoefDelayDirty (s : State) : Host.Outcome State Fault Refusal :=
  runCommand .readCoefDelayDirty (cmdReadCoef fun s => s.regs.delay.dirty) s

/-- `READ_COEF.DELAY.MEMREQ` (R160). -/
def execReadCoefDelayMemreq (s : State) : Host.Outcome State Fault Refusal :=
  runCommand .readCoefDelayMemreq (cmdReadCoef fun s => s.coefs.delay.memReq) s

/-- `READ_STATE.DELAY.W` (R161). -/
def execReadStateDelayW (ch : BitVec 6) (s : State) : Host.Outcome State Fault Refusal :=
  runCommand (.readStateDelayW ch) (cmdReadState ch fun s ch => (s.chans.delay.getD ch {}).w) s

/-- `READ_STATE.DELAY.ST_VALID` (R161). -/
def execReadStateDelayStValid (ch : BitVec 6) (s : State) : Host.Outcome State Fault Refusal :=
  runCommand (.readStateDelayStValid ch) (cmdReadState ch fun s ch => flagWord (s.stValid .delay ch)) s

/-- `READ_STATE.DELAY.MEM_BOUND` (R161). -/
def execReadStateDelayMemBound (ch : BitVec 6) (s : State) : Host.Outcome State Fault Refusal :=
  runCommand (.readStateDelayMemBound ch) (cmdReadState ch fun s ch => flagWord (s.binding .delay ch).bound) s

/-- `READ_STATE.DELAY.MEM_BASE` (R161). -/
def execReadStateDelayMemBase (ch : BitVec 6) (s : State) : Host.Outcome State Fault Refusal :=
  runCommand (.readStateDelayMemBase ch) (cmdReadState ch fun s ch => (s.binding .delay ch).base) s

end Sys2Proof.Machine
end

