-- ==== Sys2Proof/Machine/CmdHp1.lean ====
section
/-! DEFINITION. The meaning of every command of unit HP1: one definition for each row of
spec/opcode_table.json, over the shared computations of Machine/Protocol.lean. -/

namespace Sys2Proof.Machine

/-- `INIT.HP1` (R142). -/
def execInitHp1 (s : State) : Host.Outcome State Fault Refusal :=
  runCommand .initHp1 (cmdInit .hp1) s

/-- `SET_SR.HP1` (R143). -/
def execSetSrHp1 (s : State) : Host.Outcome State Fault Refusal :=
  runCommand .setSrHp1 (cmdSetSr .hp1) s

/-- `RESET_COEFFS.HP1` (R144). -/
def execResetCoeffsHp1 (s : State) : Host.Outcome State Fault Refusal :=
  runCommand .resetCoeffsHp1 (cmdResetCoeffs .hp1) s

/-- `RESET_STATE.HP1` (R145). -/
def execResetStateHp1 (ch : BitVec 6) (s : State) : Host.Outcome State Fault Refusal :=
  runCommand (.resetStateHp1 ch) (cmdResetState .hp1 ch) s

/-- `UPDATE_CTRL.HP1` (R146). -/
def execUpdateCtrlHp1 (s : State) : Host.Outcome State Fault Refusal :=
  runCommand .updateCtrlHp1 (cmdUpdateCtrl .hp1) s

/-- `UPDATE_AUDIO.HP1` (R147). -/
def execUpdateAudioHp1 (s : State) : Host.Outcome State Fault Refusal :=
  runCommand .updateAudioHp1 (cmdUpdateAudio .hp1) s

/-- `PROCESS1.HP1` (R148). -/
def execProcess1Hp1 (ch : BitVec 6) (s : State) : Host.Outcome State Fault Refusal :=
  runCommand (.process1Hp1 ch) (cmdProcess1 .hp1 ch) s

/-- `PROCESS.HP1` (R156). -/
def execProcessHp1 (ch : BitVec 6) (s : State) : Host.Outcome State Fault Refusal :=
  runCommand (.processHp1 ch) (cmdProcess .hp1 ch) s

/-- `PROCESS_MULTI.HP1` (R157). -/
def execProcessMultiHp1 (s : State) : Host.Outcome State Fault Refusal :=
  runCommand .processMultiHp1 (cmdProcessMulti .hp1) s

/-- `SET_PARAM.HP1.CUTOFF` (R287). -/
def execSetParamHp1Cutoff (s : State) : Host.Outcome State Fault Refusal :=
  runCommand .setParamHp1Cutoff (cmdSetParam .hp1 okNonneg 0b01 fun v c =>
    { c with hp1 := { c.hp1 with cutoff := v } }) s

/-- `SET_PARAM.HP1.PREWARP_AT_CUTOFF` (R288). -/
def execSetParamHp1PrewarpAtCutoff (s : State) : Host.Outcome State Fault Refusal :=
  runCommand .setParamHp1PrewarpAtCutoff (cmdSetParam .hp1 okFlag 0b10 fun v c =>
    { c with hp1 := { c.hp1 with prewarpAtCutoff := v } }) s

/-- `SET_PARAM.HP1.PREWARP_FREQ` (R289). -/
def execSetParamHp1PrewarpFreq (s : State) : Host.Outcome State Fault Refusal :=
  runCommand .setParamHp1PrewarpFreq (cmdSetParam .hp1 okPositive 0b10 fun v c =>
    { c with hp1 := { c.hp1 with prewarpFreq := v } }) s

/-- `READ_COEF.HP1.CUTOFF` (R160). -/
def execReadCoefHp1Cutoff (s : State) : Host.Outcome State Fault Refusal :=
  runCommand .readCoefHp1Cutoff (cmdReadCoef fun s => s.coefs.hp1.cutoff) s

/-- `READ_COEF.HP1.PREWARP_AT_CUTOFF` (R160). -/
def execReadCoefHp1PrewarpAtCutoff (s : State) : Host.Outcome State Fault Refusal :=
  runCommand .readCoefHp1PrewarpAtCutoff (cmdReadCoef fun s => s.coefs.hp1.prewarpAtCutoff) s

/-- `READ_COEF.HP1.PREWARP_FREQ` (R160). -/
def execReadCoefHp1PrewarpFreq (s : State) : Host.Outcome State Fault Refusal :=
  runCommand .readCoefHp1PrewarpFreq (cmdReadCoef fun s => s.coefs.hp1.prewarpFreq) s

/-- `READ_COEF.HP1.INNER.CUTOFF` (R160). -/
def execReadCoefHp1InnerCutoff (s : State) : Host.Outcome State Fault Refusal :=
  runCommand .readCoefHp1InnerCutoff (cmdReadCoef fun s => s.coefs.hp1.inner.cutoff) s

/-- `READ_COEF.HP1.INNER.PREWARP_AT_CUTOFF` (R160). -/
def execReadCoefHp1InnerPrewarpAtCutoff (s : State) : Host.Outcome State Fault Refusal :=
  runCommand .readCoefHp1InnerPrewarpAtCutoff (cmdReadCoef fun s => s.coefs.hp1.inner.prewarpAtCutoff) s

/-- `READ_COEF.HP1.INNER.PREWARP_FREQ` (R160). -/
def execReadCoefHp1InnerPrewarpFreq (s : State) : Host.Outcome State Fault Refusal :=
  runCommand .readCoefHp1InnerPrewarpFreq (cmdReadCoef fun s => s.coefs.hp1.inner.prewarpFreq) s

/-- `READ_COEF.HP1.INNER.COEFF_X` (R160). -/
def execReadCoefHp1InnerCoeffX (s : State) : Host.Outcome State Fault Refusal :=
  runCommand .readCoefHp1InnerCoeffX (cmdReadCoef fun s => s.coefs.hp1.inner.coeffX) s

/-- `READ_COEF.HP1.INNER.COEFF_LP` (R160). -/
def execReadCoefHp1InnerCoeffLp (s : State) : Host.Outcome State Fault Refusal :=
  runCommand .readCoefHp1InnerCoeffLp (cmdReadCoef fun s => s.coefs.hp1.inner.coeffLp) s

/-- `READ_COEF.HP1.INNER.K_PI` (R160). -/
def execReadCoefHp1InnerKPi (s : State) : Host.Outcome State Fault Refusal :=
  runCommand .readCoefHp1InnerKPi (cmdReadCoef fun s => s.coefs.hp1.inner.kPi) s

/-- `READ_COEF.HP1.INNER.G` (R160). -/
def execReadCoefHp1InnerG (s : State) : Host.Outcome State Fault Refusal :=
  runCommand .readCoefHp1InnerG (cmdReadCoef fun s => s.coefs.hp1.inner.g) s

/-- `READ_COEF.HP1.INNER.G1` (R160). -/
def execReadCoefHp1InnerG1 (s : State) : Host.Outcome State Fault Refusal :=
  runCommand .readCoefHp1InnerG1 (cmdReadCoef fun s => s.coefs.hp1.inner.g1) s

/-- `READ_COEF.HP1.INNER.CX_ACT` (R160). -/
def execReadCoefHp1InnerCxAct (s : State) : Host.Outcome State Fault Refusal :=
  runCommand .readCoefHp1InnerCxAct (cmdReadCoef fun s => s.coefs.hp1.inner.cxAct) s

/-- `READ_COEF.HP1.INNER.CLP_ACT` (R160). -/
def execReadCoefHp1InnerClpAct (s : State) : Host.Outcome State Fault Refusal :=
  runCommand .readCoefHp1InnerClpAct (cmdReadCoef fun s => s.coefs.hp1.inner.clpAct) s

/-- `READ_COEF.HP1.INNER.DIRTY` (R160). -/
def execReadCoefHp1InnerDirty (s : State) : Host.Outcome State Fault Refusal :=
  runCommand .readCoefHp1InnerDirty (cmdReadCoef fun s => s.coefs.hp1.innerDirty) s

/-- `READ_COEF.HP1.LIFE` (R160). -/
def execReadCoefHp1Life (s : State) : Host.Outcome State Fault Refusal :=
  runCommand .readCoefHp1Life (cmdReadCoef fun s => lifeCode s.regs.hp1.life) s

/-- `READ_COEF.HP1.GEN` (R160). -/
def execReadCoefHp1Gen (s : State) : Host.Outcome State Fault Refusal :=
  runCommand .readCoefHp1Gen (cmdReadCoef fun s => s.regs.hp1.gen) s

/-- `READ_COEF.HP1.FS` (R160). -/
def execReadCoefHp1Fs (s : State) : Host.Outcome State Fault Refusal :=
  runCommand .readCoefHp1Fs (cmdReadCoef fun s => s.regs.hp1.fs) s

/-- `READ_COEF.HP1.DIRTY` (R160). -/
def execReadCoefHp1Dirty (s : State) : Host.Outcome State Fault Refusal :=
  runCommand .readCoefHp1Dirty (cmdReadCoef fun s => s.regs.hp1.dirty) s

/-- `READ_COEF.HP1.MEMREQ` (R160). -/
def execReadCoefHp1Memreq (s : State) : Host.Outcome State Fault Refusal :=
  runCommand .readCoefHp1Memreq (cmdReadCoef fun _ => 0) s

/-- `READ_STATE.HP1.S` (R161). -/
def execReadStateHp1S (ch : BitVec 6) (s : State) : Host.Outcome State Fault Refusal :=
  runCommand (.readStateHp1S ch) (cmdReadState ch fun s ch => (s.chans.hp1.getD ch {}).s) s

/-- `READ_STATE.HP1.ST_VALID` (R161). -/
def execReadStateHp1StValid (ch : BitVec 6) (s : State) : Host.Outcome State Fault Refusal :=
  runCommand (.readStateHp1StValid ch) (cmdReadState ch fun s ch => flagWord (s.stValid .hp1 ch)) s

end Sys2Proof.Machine
end

