-- ==== Sys2Proof/Machine/CmdLs1.lean ====
section
/-! DEFINITION. The meaning of every command of unit LS1: one definition for each row of
spec/opcode_table.json, over the shared computations of Machine/Protocol.lean. -/

namespace Sys2Proof.Machine

/-- `INIT.LS1` (R142). -/
def execInitLs1 (s : State) : Host.Outcome State Fault Refusal :=
  runCommand .initLs1 (cmdInit .ls1) s

/-- `SET_SR.LS1` (R143). -/
def execSetSrLs1 (s : State) : Host.Outcome State Fault Refusal :=
  runCommand .setSrLs1 (cmdSetSr .ls1) s

/-- `RESET_COEFFS.LS1` (R144). -/
def execResetCoeffsLs1 (s : State) : Host.Outcome State Fault Refusal :=
  runCommand .resetCoeffsLs1 (cmdResetCoeffs .ls1) s

/-- `RESET_STATE.LS1` (R145). -/
def execResetStateLs1 (ch : BitVec 6) (s : State) : Host.Outcome State Fault Refusal :=
  runCommand (.resetStateLs1 ch) (cmdResetState .ls1 ch) s

/-- `UPDATE_CTRL.LS1` (R146). -/
def execUpdateCtrlLs1 (s : State) : Host.Outcome State Fault Refusal :=
  runCommand .updateCtrlLs1 (cmdUpdateCtrl .ls1) s

/-- `UPDATE_AUDIO.LS1` (R147). -/
def execUpdateAudioLs1 (s : State) : Host.Outcome State Fault Refusal :=
  runCommand .updateAudioLs1 (cmdUpdateAudio .ls1) s

/-- `PROCESS1.LS1` (R148). -/
def execProcess1Ls1 (ch : BitVec 6) (s : State) : Host.Outcome State Fault Refusal :=
  runCommand (.process1Ls1 ch) (cmdProcess1 .ls1 ch) s

/-- `PROCESS.LS1` (R156). -/
def execProcessLs1 (ch : BitVec 6) (s : State) : Host.Outcome State Fault Refusal :=
  runCommand (.processLs1 ch) (cmdProcess .ls1 ch) s

/-- `PROCESS_MULTI.LS1` (R157). -/
def execProcessMultiLs1 (s : State) : Host.Outcome State Fault Refusal :=
  runCommand .processMultiLs1 (cmdProcessMulti .ls1) s

/-- `SET_PARAM.LS1.CUTOFF` (R293). -/
def execSetParamLs1Cutoff (s : State) : Host.Outcome State Fault Refusal :=
  runCommand .setParamLs1Cutoff (cmdSetParam .ls1 okPositive 0b001 fun v c =>
    { c with ls1 := { c.ls1 with cutoff := v } }) s

/-- `SET_PARAM.LS1.DC_GAIN_LIN` (R294). -/
def execSetParamLs1DcGainLin (s : State) : Host.Outcome State Fault Refusal :=
  runCommand .setParamLs1DcGainLin (cmdSetParam .ls1 okPositive 0b010 fun v c =>
    { c with ls1 := { c.ls1 with dcGainLin := v, gainIsDb := 0 } }) s

/-- `SET_PARAM.LS1.DC_GAIN_DB` (R295). -/
def execSetParamLs1DcGainDb (s : State) : Host.Outcome State Fault Refusal :=
  runCommand .setParamLs1DcGainDb (cmdSetParam .ls1 okDb 0b010 fun v c =>
    { c with ls1 := { c.ls1 with dcGainDb := v, gainIsDb := 1 } }) s

/-- `SET_PARAM.LS1.PREWARP_AT_CUTOFF` (R296). -/
def execSetParamLs1PrewarpAtCutoff (s : State) : Host.Outcome State Fault Refusal :=
  runCommand .setParamLs1PrewarpAtCutoff (cmdSetParam .ls1 okFlag 0b100 fun v c =>
    { c with ls1 := { c.ls1 with prewarpAtCutoff := v } }) s

/-- `SET_PARAM.LS1.PREWARP_FREQ` (R297). -/
def execSetParamLs1PrewarpFreq (s : State) : Host.Outcome State Fault Refusal :=
  runCommand .setParamLs1PrewarpFreq (cmdSetParam .ls1 okPositive 0b100 fun v c =>
    { c with ls1 := { c.ls1 with prewarpFreq := v } }) s

/-- `READ_COEF.LS1.CUTOFF` (R160). -/
def execReadCoefLs1Cutoff (s : State) : Host.Outcome State Fault Refusal :=
  runCommand .readCoefLs1Cutoff (cmdReadCoef fun s => s.coefs.ls1.cutoff) s

/-- `READ_COEF.LS1.DC_GAIN_LIN` (R160). -/
def execReadCoefLs1DcGainLin (s : State) : Host.Outcome State Fault Refusal :=
  runCommand .readCoefLs1DcGainLin (cmdReadCoef fun s => s.coefs.ls1.dcGainLin) s

/-- `READ_COEF.LS1.DC_GAIN_DB` (R160). -/
def execReadCoefLs1DcGainDb (s : State) : Host.Outcome State Fault Refusal :=
  runCommand .readCoefLs1DcGainDb (cmdReadCoef fun s => s.coefs.ls1.dcGainDb) s

/-- `READ_COEF.LS1.PREWARP_AT_CUTOFF` (R160). -/
def execReadCoefLs1PrewarpAtCutoff (s : State) : Host.Outcome State Fault Refusal :=
  runCommand .readCoefLs1PrewarpAtCutoff (cmdReadCoef fun s => s.coefs.ls1.prewarpAtCutoff) s

/-- `READ_COEF.LS1.PREWARP_FREQ` (R160). -/
def execReadCoefLs1PrewarpFreq (s : State) : Host.Outcome State Fault Refusal :=
  runCommand .readCoefLs1PrewarpFreq (cmdReadCoef fun s => s.coefs.ls1.prewarpFreq) s

/-- `READ_COEF.LS1.GAIN_IS_DB` (R160). -/
def execReadCoefLs1GainIsDb (s : State) : Host.Outcome State Fault Refusal :=
  runCommand .readCoefLs1GainIsDb (cmdReadCoef fun s => s.coefs.ls1.gainIsDb) s

/-- `READ_COEF.LS1.G` (R160). -/
def execReadCoefLs1G (s : State) : Host.Outcome State Fault Refusal :=
  runCommand .readCoefLs1G (cmdReadCoef fun s => s.coefs.ls1.g) s

/-- `READ_COEF.LS1.INNER.CUTOFF` (R160). -/
def execReadCoefLs1InnerCutoff (s : State) : Host.Outcome State Fault Refusal :=
  runCommand .readCoefLs1InnerCutoff (cmdReadCoef fun s => s.coefs.ls1.inner.cutoff) s

/-- `READ_COEF.LS1.INNER.PREWARP_AT_CUTOFF` (R160). -/
def execReadCoefLs1InnerPrewarpAtCutoff (s : State) : Host.Outcome State Fault Refusal :=
  runCommand .readCoefLs1InnerPrewarpAtCutoff (cmdReadCoef fun s => s.coefs.ls1.inner.prewarpAtCutoff) s

/-- `READ_COEF.LS1.INNER.PREWARP_FREQ` (R160). -/
def execReadCoefLs1InnerPrewarpFreq (s : State) : Host.Outcome State Fault Refusal :=
  runCommand .readCoefLs1InnerPrewarpFreq (cmdReadCoef fun s => s.coefs.ls1.inner.prewarpFreq) s

/-- `READ_COEF.LS1.INNER.COEFF_X` (R160). -/
def execReadCoefLs1InnerCoeffX (s : State) : Host.Outcome State Fault Refusal :=
  runCommand .readCoefLs1InnerCoeffX (cmdReadCoef fun s => s.coefs.ls1.inner.coeffX) s

/-- `READ_COEF.LS1.INNER.COEFF_LP` (R160). -/
def execReadCoefLs1InnerCoeffLp (s : State) : Host.Outcome State Fault Refusal :=
  runCommand .readCoefLs1InnerCoeffLp (cmdReadCoef fun s => s.coefs.ls1.inner.coeffLp) s

/-- `READ_COEF.LS1.INNER.K_PI` (R160). -/
def execReadCoefLs1InnerKPi (s : State) : Host.Outcome State Fault Refusal :=
  runCommand .readCoefLs1InnerKPi (cmdReadCoef fun s => s.coefs.ls1.inner.kPi) s

/-- `READ_COEF.LS1.INNER.G` (R160). -/
def execReadCoefLs1InnerG (s : State) : Host.Outcome State Fault Refusal :=
  runCommand .readCoefLs1InnerG (cmdReadCoef fun s => s.coefs.ls1.inner.g) s

/-- `READ_COEF.LS1.INNER.G1` (R160). -/
def execReadCoefLs1InnerG1 (s : State) : Host.Outcome State Fault Refusal :=
  runCommand .readCoefLs1InnerG1 (cmdReadCoef fun s => s.coefs.ls1.inner.g1) s

/-- `READ_COEF.LS1.INNER.CX_ACT` (R160). -/
def execReadCoefLs1InnerCxAct (s : State) : Host.Outcome State Fault Refusal :=
  runCommand .readCoefLs1InnerCxAct (cmdReadCoef fun s => s.coefs.ls1.inner.cxAct) s

/-- `READ_COEF.LS1.INNER.CLP_ACT` (R160). -/
def execReadCoefLs1InnerClpAct (s : State) : Host.Outcome State Fault Refusal :=
  runCommand .readCoefLs1InnerClpAct (cmdReadCoef fun s => s.coefs.ls1.inner.clpAct) s

/-- `READ_COEF.LS1.INNER.DIRTY` (R160). -/
def execReadCoefLs1InnerDirty (s : State) : Host.Outcome State Fault Refusal :=
  runCommand .readCoefLs1InnerDirty (cmdReadCoef fun s => s.coefs.ls1.innerDirty) s

/-- `READ_COEF.LS1.LIFE` (R160). -/
def execReadCoefLs1Life (s : State) : Host.Outcome State Fault Refusal :=
  runCommand .readCoefLs1Life (cmdReadCoef fun s => lifeCode s.regs.ls1.life) s

/-- `READ_COEF.LS1.GEN` (R160). -/
def execReadCoefLs1Gen (s : State) : Host.Outcome State Fault Refusal :=
  runCommand .readCoefLs1Gen (cmdReadCoef fun s => s.regs.ls1.gen) s

/-- `READ_COEF.LS1.FS` (R160). -/
def execReadCoefLs1Fs (s : State) : Host.Outcome State Fault Refusal :=
  runCommand .readCoefLs1Fs (cmdReadCoef fun s => s.regs.ls1.fs) s

/-- `READ_COEF.LS1.DIRTY` (R160). -/
def execReadCoefLs1Dirty (s : State) : Host.Outcome State Fault Refusal :=
  runCommand .readCoefLs1Dirty (cmdReadCoef fun s => s.regs.ls1.dirty) s

/-- `READ_COEF.LS1.MEMREQ` (R160). -/
def execReadCoefLs1Memreq (s : State) : Host.Outcome State Fault Refusal :=
  runCommand .readCoefLs1Memreq (cmdReadCoef fun _ => 0) s

/-- `READ_STATE.LS1.S` (R161). -/
def execReadStateLs1S (ch : BitVec 6) (s : State) : Host.Outcome State Fault Refusal :=
  runCommand (.readStateLs1S ch) (cmdReadState ch fun s ch => (s.chans.ls1.getD ch {}).s) s

/-- `READ_STATE.LS1.ST_VALID` (R161). -/
def execReadStateLs1StValid (ch : BitVec 6) (s : State) : Host.Outcome State Fault Refusal :=
  runCommand (.readStateLs1StValid ch) (cmdReadState ch fun s ch => flagWord (s.stValid .ls1 ch)) s

end Sys2Proof.Machine
end

