-- ==== Sys2Proof/Machine/CmdLs2.lean ====
section
/-! DEFINITION. The meaning of every command of unit LS2: one definition for each row of
spec/opcode_table.json, over the shared computations of Machine/Protocol.lean. -/

namespace Sys2Proof.Machine

/-- `INIT.LS2` (R142). -/
def execInitLs2 (s : State) : Host.Outcome State Fault Refusal :=
  runCommand .initLs2 (cmdInit .ls2) s

/-- `SET_SR.LS2` (R143). -/
def execSetSrLs2 (s : State) : Host.Outcome State Fault Refusal :=
  runCommand .setSrLs2 (cmdSetSr .ls2) s

/-- `RESET_COEFFS.LS2` (R144). -/
def execResetCoeffsLs2 (s : State) : Host.Outcome State Fault Refusal :=
  runCommand .resetCoeffsLs2 (cmdResetCoeffs .ls2) s

/-- `RESET_STATE.LS2` (R145). -/
def execResetStateLs2 (ch : BitVec 6) (s : State) : Host.Outcome State Fault Refusal :=
  runCommand (.resetStateLs2 ch) (cmdResetState .ls2 ch) s

/-- `UPDATE_CTRL.LS2` (R146). -/
def execUpdateCtrlLs2 (s : State) : Host.Outcome State Fault Refusal :=
  runCommand .updateCtrlLs2 (cmdUpdateCtrl .ls2) s

/-- `UPDATE_AUDIO.LS2` (R147). -/
def execUpdateAudioLs2 (s : State) : Host.Outcome State Fault Refusal :=
  runCommand .updateAudioLs2 (cmdUpdateAudio .ls2) s

/-- `PROCESS1.LS2` (R148). -/
def execProcess1Ls2 (ch : BitVec 6) (s : State) : Host.Outcome State Fault Refusal :=
  runCommand (.process1Ls2 ch) (cmdProcess1 .ls2 ch) s

/-- `PROCESS.LS2` (R156). -/
def execProcessLs2 (ch : BitVec 6) (s : State) : Host.Outcome State Fault Refusal :=
  runCommand (.processLs2 ch) (cmdProcess .ls2 ch) s

/-- `PROCESS_MULTI.LS2` (R157). -/
def execProcessMultiLs2 (s : State) : Host.Outcome State Fault Refusal :=
  runCommand .processMultiLs2 (cmdProcessMulti .ls2) s

/-- `SET_PARAM.LS2.CUTOFF` (R301). -/
def execSetParamLs2Cutoff (s : State) : Host.Outcome State Fault Refusal :=
  runCommand .setParamLs2Cutoff (cmdSetParam .ls2 okPositive 0b0001 fun v c =>
    { c with ls2 := { c.ls2 with cutoff := v } }) s

/-- `SET_PARAM.LS2.Q` (R302). -/
def execSetParamLs2Q (s : State) : Host.Outcome State Fault Refusal :=
  runCommand .setParamLs2Q (cmdSetParam .ls2 okFinite 0b0010 fun v c =>
    { c with ls2 := { c.ls2 with q := v } }) s

/-- `SET_PARAM.LS2.DC_GAIN_LIN` (R303). -/
def execSetParamLs2DcGainLin (s : State) : Host.Outcome State Fault Refusal :=
  runCommand .setParamLs2DcGainLin (cmdSetParam .ls2 okPositive 0b0100 fun v c =>
    { c with ls2 := { c.ls2 with dcGainLin := v, gainIsDb := 0 } }) s

/-- `SET_PARAM.LS2.DC_GAIN_DB` (R304). -/
def execSetParamLs2DcGainDb (s : State) : Host.Outcome State Fault Refusal :=
  runCommand .setParamLs2DcGainDb (cmdSetParam .ls2 okDb 0b0100 fun v c =>
    { c with ls2 := { c.ls2 with dcGainDb := v, gainIsDb := 1 } }) s

/-- `SET_PARAM.LS2.PREWARP_AT_CUTOFF` (R305). -/
def execSetParamLs2PrewarpAtCutoff (s : State) : Host.Outcome State Fault Refusal :=
  runCommand .setParamLs2PrewarpAtCutoff (cmdSetParam .ls2 okFlag 0b1000 fun v c =>
    { c with ls2 := { c.ls2 with prewarpAtCutoff := v } }) s

/-- `SET_PARAM.LS2.PREWARP_FREQ` (R306). -/
def execSetParamLs2PrewarpFreq (s : State) : Host.Outcome State Fault Refusal :=
  runCommand .setParamLs2PrewarpFreq (cmdSetParam .ls2 okPositive 0b1000 fun v c =>
    { c with ls2 := { c.ls2 with prewarpFreq := v } }) s

/-- `READ_COEF.LS2.CUTOFF` (R160). -/
def execReadCoefLs2Cutoff (s : State) : Host.Outcome State Fault Refusal :=
  runCommand .readCoefLs2Cutoff (cmdReadCoef fun s => s.coefs.ls2.cutoff) s

/-- `READ_COEF.LS2.Q` (R160). -/
def execReadCoefLs2Q (s : State) : Host.Outcome State Fault Refusal :=
  runCommand .readCoefLs2Q (cmdReadCoef fun s => s.coefs.ls2.q) s

/-- `READ_COEF.LS2.DC_GAIN_LIN` (R160). -/
def execReadCoefLs2DcGainLin (s : State) : Host.Outcome State Fault Refusal :=
  runCommand .readCoefLs2DcGainLin (cmdReadCoef fun s => s.coefs.ls2.dcGainLin) s

/-- `READ_COEF.LS2.DC_GAIN_DB` (R160). -/
def execReadCoefLs2DcGainDb (s : State) : Host.Outcome State Fault Refusal :=
  runCommand .readCoefLs2DcGainDb (cmdReadCoef fun s => s.coefs.ls2.dcGainDb) s

/-- `READ_COEF.LS2.PREWARP_AT_CUTOFF` (R160). -/
def execReadCoefLs2PrewarpAtCutoff (s : State) : Host.Outcome State Fault Refusal :=
  runCommand .readCoefLs2PrewarpAtCutoff (cmdReadCoef fun s => s.coefs.ls2.prewarpAtCutoff) s

/-- `READ_COEF.LS2.PREWARP_FREQ` (R160). -/
def execReadCoefLs2PrewarpFreq (s : State) : Host.Outcome State Fault Refusal :=
  runCommand .readCoefLs2PrewarpFreq (cmdReadCoef fun s => s.coefs.ls2.prewarpFreq) s

/-- `READ_COEF.LS2.GAIN_IS_DB` (R160). -/
def execReadCoefLs2GainIsDb (s : State) : Host.Outcome State Fault Refusal :=
  runCommand .readCoefLs2GainIsDb (cmdReadCoef fun s => s.coefs.ls2.gainIsDb) s

/-- `READ_COEF.LS2.G` (R160). -/
def execReadCoefLs2G (s : State) : Host.Outcome State Fault Refusal :=
  runCommand .readCoefLs2G (cmdReadCoef fun s => s.coefs.ls2.g) s

/-- `READ_COEF.LS2.KI` (R160). -/
def execReadCoefLs2Ki (s : State) : Host.Outcome State Fault Refusal :=
  runCommand .readCoefLs2Ki (cmdReadCoef fun s => s.coefs.ls2.ki) s

/-- `READ_COEF.LS2.INNER.CUTOFF` (R160). -/
def execReadCoefLs2InnerCutoff (s : State) : Host.Outcome State Fault Refusal :=
  runCommand .readCoefLs2InnerCutoff (cmdReadCoef fun s => s.coefs.ls2.inner.cutoff) s

/-- `READ_COEF.LS2.INNER.Q` (R160). -/
def execReadCoefLs2InnerQ (s : State) : Host.Outcome State Fault Refusal :=
  runCommand .readCoefLs2InnerQ (cmdReadCoef fun s => s.coefs.ls2.inner.q) s

/-- `READ_COEF.LS2.INNER.PREWARP_AT_CUTOFF` (R160). -/
def execReadCoefLs2InnerPrewarpAtCutoff (s : State) : Host.Outcome State Fault Refusal :=
  runCommand .readCoefLs2InnerPrewarpAtCutoff (cmdReadCoef fun s => s.coefs.ls2.inner.prewarpAtCutoff) s

/-- `READ_COEF.LS2.INNER.PREWARP_FREQ` (R160). -/
def execReadCoefLs2InnerPrewarpFreq (s : State) : Host.Outcome State Fault Refusal :=
  runCommand .readCoefLs2InnerPrewarpFreq (cmdReadCoef fun s => s.coefs.ls2.inner.prewarpFreq) s

/-- `READ_COEF.LS2.INNER.COEFF_X` (R160). -/
def execReadCoefLs2InnerCoeffX (s : State) : Host.Outcome State Fault Refusal :=
  runCommand .readCoefLs2InnerCoeffX (cmdReadCoef fun s => s.coefs.ls2.inner.coeffX) s

/-- `READ_COEF.LS2.INNER.COEFF_LP` (R160). -/
def execReadCoefLs2InnerCoeffLp (s : State) : Host.Outcome State Fault Refusal :=
  runCommand .readCoefLs2InnerCoeffLp (cmdReadCoef fun s => s.coefs.ls2.inner.coeffLp) s

/-- `READ_COEF.LS2.INNER.COEFF_BP` (R160). -/
def execReadCoefLs2InnerCoeffBp (s : State) : Host.Outcome State Fault Refusal :=
  runCommand .readCoefLs2InnerCoeffBp (cmdReadCoef fun s => s.coefs.ls2.inner.coeffBp) s

/-- `READ_COEF.LS2.INNER.COEFF_HP` (R160). -/
def execReadCoefLs2InnerCoeffHp (s : State) : Host.Outcome State Fault Refusal :=
  runCommand .readCoefLs2InnerCoeffHp (cmdReadCoef fun s => s.coefs.ls2.inner.coeffHp) s

/-- `READ_COEF.LS2.INNER.K_PI` (R160). -/
def execReadCoefLs2InnerKPi (s : State) : Host.Outcome State Fault Refusal :=
  runCommand .readCoefLs2InnerKPi (cmdReadCoef fun s => s.coefs.ls2.inner.kPi) s

/-- `READ_COEF.LS2.INNER.G` (R160). -/
def execReadCoefLs2InnerG (s : State) : Host.Outcome State Fault Refusal :=
  runCommand .readCoefLs2InnerG (cmdReadCoef fun s => s.coefs.ls2.inner.g) s

/-- `READ_COEF.LS2.INNER.K` (R160). -/
def execReadCoefLs2InnerK (s : State) : Host.Outcome State Fault Refusal :=
  runCommand .readCoefLs2InnerK (cmdReadCoef fun s => s.coefs.ls2.inner.k) s

/-- `READ_COEF.LS2.INNER.GK` (R160). -/
def execReadCoefLs2InnerGk (s : State) : Host.Outcome State Fault Refusal :=
  runCommand .readCoefLs2InnerGk (cmdReadCoef fun s => s.coefs.ls2.inner.gk) s

/-- `READ_COEF.LS2.INNER.HP_D` (R160). -/
def execReadCoefLs2InnerHpD (s : State) : Host.Outcome State Fault Refusal :=
  runCommand .readCoefLs2InnerHpD (cmdReadCoef fun s => s.coefs.ls2.inner.hpD) s

/-- `READ_COEF.LS2.INNER.CX_ACT` (R160). -/
def execReadCoefLs2InnerCxAct (s : State) : Host.Outcome State Fault Refusal :=
  runCommand .readCoefLs2InnerCxAct (cmdReadCoef fun s => s.coefs.ls2.inner.cxAct) s

/-- `READ_COEF.LS2.INNER.CLP_ACT` (R160). -/
def execReadCoefLs2InnerClpAct (s : State) : Host.Outcome State Fault Refusal :=
  runCommand .readCoefLs2InnerClpAct (cmdReadCoef fun s => s.coefs.ls2.inner.clpAct) s

/-- `READ_COEF.LS2.INNER.CBP_ACT` (R160). -/
def execReadCoefLs2InnerCbpAct (s : State) : Host.Outcome State Fault Refusal :=
  runCommand .readCoefLs2InnerCbpAct (cmdReadCoef fun s => s.coefs.ls2.inner.cbpAct) s

/-- `READ_COEF.LS2.INNER.CHP_ACT` (R160). -/
def execReadCoefLs2InnerChpAct (s : State) : Host.Outcome State Fault Refusal :=
  runCommand .readCoefLs2InnerChpAct (cmdReadCoef fun s => s.coefs.ls2.inner.chpAct) s

/-- `READ_COEF.LS2.INNER.DIRTY` (R160). -/
def execReadCoefLs2InnerDirty (s : State) : Host.Outcome State Fault Refusal :=
  runCommand .readCoefLs2InnerDirty (cmdReadCoef fun s => s.coefs.ls2.innerDirty) s

/-- `READ_COEF.LS2.LIFE` (R160). -/
def execReadCoefLs2Life (s : State) : Host.Outcome State Fault Refusal :=
  runCommand .readCoefLs2Life (cmdReadCoef fun s => lifeCode s.regs.ls2.life) s

/-- `READ_COEF.LS2.GEN` (R160). -/
def execReadCoefLs2Gen (s : State) : Host.Outcome State Fault Refusal :=
  runCommand .readCoefLs2Gen (cmdReadCoef fun s => s.regs.ls2.gen) s

/-- `READ_COEF.LS2.FS` (R160). -/
def execReadCoefLs2Fs (s : State) : Host.Outcome State Fault Refusal :=
  runCommand .readCoefLs2Fs (cmdReadCoef fun s => s.regs.ls2.fs) s

/-- `READ_COEF.LS2.DIRTY` (R160). -/
def execReadCoefLs2Dirty (s : State) : Host.Outcome State Fault Refusal :=
  runCommand .readCoefLs2Dirty (cmdReadCoef fun s => s.regs.ls2.dirty) s

/-- `READ_COEF.LS2.MEMREQ` (R160). -/
def execReadCoefLs2Memreq (s : State) : Host.Outcome State Fault Refusal :=
  runCommand .readCoefLs2Memreq (cmdReadCoef fun _ => 0) s

/-- `READ_STATE.LS2.S1` (R161). -/
def execReadStateLs2S1 (ch : BitVec 6) (s : State) : Host.Outcome State Fault Refusal :=
  runCommand (.readStateLs2S1 ch) (cmdReadState ch fun s ch => (s.chans.ls2.getD ch {}).s1) s

/-- `READ_STATE.LS2.S2` (R161). -/
def execReadStateLs2S2 (ch : BitVec 6) (s : State) : Host.Outcome State Fault Refusal :=
  runCommand (.readStateLs2S2 ch) (cmdReadState ch fun s ch => (s.chans.ls2.getD ch {}).s2) s

/-- `READ_STATE.LS2.ST_VALID` (R161). -/
def execReadStateLs2StValid (ch : BitVec 6) (s : State) : Host.Outcome State Fault Refusal :=
  runCommand (.readStateLs2StValid ch) (cmdReadState ch fun s ch => flagWord (s.stValid .ls2 ch)) s

end Sys2Proof.Machine
end

