-- ==== Sys2Proof/Machine/CmdMm1.lean ====
section
/-! DEFINITION. The meaning of every command of unit MM1: one definition for each row of
spec/opcode_table.json, over the shared computations of Machine/Protocol.lean. -/

namespace Sys2Proof.Machine

/-- `INIT.MM1` (R142). -/
def execInitMm1 (s : State) : Host.Outcome State Fault Refusal :=
  runCommand .initMm1 (cmdInit .mm1) s

/-- `SET_SR.MM1` (R143). -/
def execSetSrMm1 (s : State) : Host.Outcome State Fault Refusal :=
  runCommand .setSrMm1 (cmdSetSr .mm1) s

/-- `RESET_COEFFS.MM1` (R144). -/
def execResetCoeffsMm1 (s : State) : Host.Outcome State Fault Refusal :=
  runCommand .resetCoeffsMm1 (cmdResetCoeffs .mm1) s

/-- `RESET_STATE.MM1` (R145). -/
def execResetStateMm1 (ch : BitVec 6) (s : State) : Host.Outcome State Fault Refusal :=
  runCommand (.resetStateMm1 ch) (cmdResetState .mm1 ch) s

/-- `UPDATE_CTRL.MM1` (R146). -/
def execUpdateCtrlMm1 (s : State) : Host.Outcome State Fault Refusal :=
  runCommand .updateCtrlMm1 (cmdUpdateCtrl .mm1) s

/-- `UPDATE_AUDIO.MM1` (R147). -/
def execUpdateAudioMm1 (s : State) : Host.Outcome State Fault Refusal :=
  runCommand .updateAudioMm1 (cmdUpdateAudio .mm1) s

/-- `PROCESS1.MM1` (R148). -/
def execProcess1Mm1 (ch : BitVec 6) (s : State) : Host.Outcome State Fault Refusal :=
  runCommand (.process1Mm1 ch) (cmdProcess1 .mm1 ch) s

/-- `PROCESS.MM1` (R156). -/
def execProcessMm1 (ch : BitVec 6) (s : State) : Host.Outcome State Fault Refusal :=
  runCommand (.processMm1 ch) (cmdProcess .mm1 ch) s

/-- `PROCESS_MULTI.MM1` (R157). -/
def execProcessMultiMm1 (s : State) : Host.Outcome State Fault Refusal :=
  runCommand .processMultiMm1 (cmdProcessMulti .mm1) s

/-- `SET_PARAM.MM1.CUTOFF` (R269). -/
def execSetParamMm1Cutoff (s : State) : Host.Outcome State Fault Refusal :=
  runCommand .setParamMm1Cutoff (cmdSetParam .mm1 okNonneg 0b001 fun v c =>
    { c with mm1 := { c.mm1 with cutoff := v } }) s

/-- `SET_PARAM.MM1.PREWARP_AT_CUTOFF` (R270). -/
def execSetParamMm1PrewarpAtCutoff (s : State) : Host.Outcome State Fault Refusal :=
  runCommand .setParamMm1PrewarpAtCutoff (cmdSetParam .mm1 okFlag 0b010 fun v c =>
    { c with mm1 := { c.mm1 with prewarpAtCutoff := v } }) s

/-- `SET_PARAM.MM1.PREWARP_FREQ` (R271). -/
def execSetParamMm1PrewarpFreq (s : State) : Host.Outcome State Fault Refusal :=
  runCommand .setParamMm1PrewarpFreq (cmdSetParam .mm1 okPositive 0b010 fun v c =>
    { c with mm1 := { c.mm1 with prewarpFreq := v } }) s

/-- `SET_PARAM.MM1.COEFF_X` (R272). -/
def execSetParamMm1CoeffX (s : State) : Host.Outcome State Fault Refusal :=
  runCommand .setParamMm1CoeffX (cmdSetParam .mm1 okFinite 0b100 fun v c =>
    { c with mm1 := { c.mm1 with coeffX := v } }) s

/-- `SET_PARAM.MM1.COEFF_LP` (R273). -/
def execSetParamMm1CoeffLp (s : State) : Host.Outcome State Fault Refusal :=
  runCommand .setParamMm1CoeffLp (cmdSetParam .mm1 okFinite 0b100 fun v c =>
    { c with mm1 := { c.mm1 with coeffLp := v } }) s

/-- `READ_COEF.MM1.CUTOFF` (R160). -/
def execReadCoefMm1Cutoff (s : State) : Host.Outcome State Fault Refusal :=
  runCommand .readCoefMm1Cutoff (cmdReadCoef fun s => s.coefs.mm1.cutoff) s

/-- `READ_COEF.MM1.PREWARP_AT_CUTOFF` (R160). -/
def execReadCoefMm1PrewarpAtCutoff (s : State) : Host.Outcome State Fault Refusal :=
  runCommand .readCoefMm1PrewarpAtCutoff (cmdReadCoef fun s => s.coefs.mm1.prewarpAtCutoff) s

/-- `READ_COEF.MM1.PREWARP_FREQ` (R160). -/
def execReadCoefMm1PrewarpFreq (s : State) : Host.Outcome State Fault Refusal :=
  runCommand .readCoefMm1PrewarpFreq (cmdReadCoef fun s => s.coefs.mm1.prewarpFreq) s

/-- `READ_COEF.MM1.COEFF_X` (R160). -/
def execReadCoefMm1CoeffX (s : State) : Host.Outcome State Fault Refusal :=
  runCommand .readCoefMm1CoeffX (cmdReadCoef fun s => s.coefs.mm1.coeffX) s

/-- `READ_COEF.MM1.COEFF_LP` (R160). -/
def execReadCoefMm1CoeffLp (s : State) : Host.Outcome State Fault Refusal :=
  runCommand .readCoefMm1CoeffLp (cmdReadCoef fun s => s.coefs.mm1.coeffLp) s

/-- `READ_COEF.MM1.K_PI` (R160). -/
def execReadCoefMm1KPi (s : State) : Host.Outcome State Fault Refusal :=
  runCommand .readCoefMm1KPi (cmdReadCoef fun s => s.coefs.mm1.kPi) s

/-- `READ_COEF.MM1.G` (R160). -/
def execReadCoefMm1G (s : State) : Host.Outcome State Fault Refusal :=
  runCommand .readCoefMm1G (cmdReadCoef fun s => s.coefs.mm1.g) s

/-- `READ_COEF.MM1.G1` (R160). -/
def execReadCoefMm1G1 (s : State) : Host.Outcome State Fault Refusal :=
  runCommand .readCoefMm1G1 (cmdReadCoef fun s => s.coefs.mm1.g1) s

/-- `READ_COEF.MM1.CX_ACT` (R160). -/
def execReadCoefMm1CxAct (s : State) : Host.Outcome State Fault Refusal :=
  runCommand .readCoefMm1CxAct (cmdReadCoef fun s => s.coefs.mm1.cxAct) s

/-- `READ_COEF.MM1.CLP_ACT` (R160). -/
def execReadCoefMm1ClpAct (s : State) : Host.Outcome State Fault Refusal :=
  runCommand .readCoefMm1ClpAct (cmdReadCoef fun s => s.coefs.mm1.clpAct) s

/-- `READ_COEF.MM1.LIFE` (R160). -/
def execReadCoefMm1Life (s : State) : Host.Outcome State Fault Refusal :=
  runCommand .readCoefMm1Life (cmdReadCoef fun s => lifeCode s.regs.mm1.life) s

/-- `READ_COEF.MM1.GEN` (R160). -/
def execReadCoefMm1Gen (s : State) : Host.Outcome State Fault Refusal :=
  runCommand .readCoefMm1Gen (cmdReadCoef fun s => s.regs.mm1.gen) s

/-- `READ_COEF.MM1.FS` (R160). -/
def execReadCoefMm1Fs (s : State) : Host.Outcome State Fault Refusal :=
  runCommand .readCoefMm1Fs (cmdReadCoef fun s => s.regs.mm1.fs) s

/-- `READ_COEF.MM1.DIRTY` (R160). -/
def execReadCoefMm1Dirty (s : State) : Host.Outcome State Fault Refusal :=
  runCommand .readCoefMm1Dirty (cmdReadCoef fun s => s.regs.mm1.dirty) s

/-- `READ_COEF.MM1.MEMREQ` (R160). -/
def execReadCoefMm1Memreq (s : State) : Host.Outcome State Fault Refusal :=
  runCommand .readCoefMm1Memreq (cmdReadCoef fun _ => 0) s

/-- `READ_STATE.MM1.S` (R161). -/
def execReadStateMm1S (ch : BitVec 6) (s : State) : Host.Outcome State Fault Refusal :=
  runCommand (.readStateMm1S ch) (cmdReadState ch fun s ch => (s.chans.mm1.getD ch {}).s) s

/-- `READ_STATE.MM1.ST_VALID` (R161). -/
def execReadStateMm1StValid (ch : BitVec 6) (s : State) : Host.Outcome State Fault Refusal :=
  runCommand (.readStateMm1StValid ch) (cmdReadState ch fun s ch => flagWord (s.stValid .mm1 ch)) s

end Sys2Proof.Machine
end

