-- ==== Sys2Proof/Machine/CmdMm2.lean ====
section
/-! DEFINITION. The meaning of every command of unit MM2: one definition for each row of
spec/opcode_table.json, over the shared computations of Machine/Protocol.lean. -/

namespace Sys2Proof.Machine

/-- `INIT.MM2` (R142). -/
def execInitMm2 (s : State) : Host.Outcome State Fault Refusal :=
  runCommand .initMm2 (cmdInit .mm2) s

/-- `SET_SR.MM2` (R143). -/
def execSetSrMm2 (s : State) : Host.Outcome State Fault Refusal :=
  runCommand .setSrMm2 (cmdSetSr .mm2) s

/-- `RESET_COEFFS.MM2` (R144). -/
def execResetCoeffsMm2 (s : State) : Host.Outcome State Fault Refusal :=
  runCommand .resetCoeffsMm2 (cmdResetCoeffs .mm2) s

/-- `RESET_STATE.MM2` (R145). -/
def execResetStateMm2 (ch : BitVec 6) (s : State) : Host.Outcome State Fault Refusal :=
  runCommand (.resetStateMm2 ch) (cmdResetState .mm2 ch) s

/-- `UPDATE_CTRL.MM2` (R146). -/
def execUpdateCtrlMm2 (s : State) : Host.Outcome State Fault Refusal :=
  runCommand .updateCtrlMm2 (cmdUpdateCtrl .mm2) s

/-- `UPDATE_AUDIO.MM2` (R147). -/
def execUpdateAudioMm2 (s : State) : Host.Outcome State Fault Refusal :=
  runCommand .updateAudioMm2 (cmdUpdateAudio .mm2) s

/-- `PROCESS1.MM2` (R148). -/
def execProcess1Mm2 (ch : BitVec 6) (s : State) : Host.Outcome State Fault Refusal :=
  runCommand (.process1Mm2 ch) (cmdProcess1 .mm2 ch) s

/-- `PROCESS.MM2` (R156). -/
def execProcessMm2 (ch : BitVec 6) (s : State) : Host.Outcome State Fault Refusal :=
  runCommand (.processMm2 ch) (cmdProcess .mm2 ch) s

/-- `PROCESS_MULTI.MM2` (R157). -/
def execProcessMultiMm2 (s : State) : Host.Outcome State Fault Refusal :=
  runCommand .processMultiMm2 (cmdProcessMulti .mm2) s

/-- `SET_PARAM.MM2.CUTOFF` (R252). -/
def execSetParamMm2Cutoff (s : State) : Host.Outcome State Fault Refusal :=
  runCommand .setParamMm2Cutoff (cmdSetParam .mm2 okNonneg 0b0001 fun v c =>
    { c with mm2 := { c.mm2 with cutoff := v } }) s

/-- `SET_PARAM.MM2.Q` (R253). -/
def execSetParamMm2Q (s : State) : Host.Outcome State Fault Refusal :=
  runCommand .setParamMm2Q (cmdSetParam .mm2 okFinite 0b0010 fun v c =>
    { c with mm2 := { c.mm2 with q := v } }) s

/-- `SET_PARAM.MM2.PREWARP_AT_CUTOFF` (R254). -/
def execSetParamMm2PrewarpAtCutoff (s : State) : Host.Outcome State Fault Refusal :=
  runCommand .setParamMm2PrewarpAtCutoff (cmdSetParam .mm2 okFlag 0b0100 fun v c =>
    { c with mm2 := { c.mm2 with prewarpAtCutoff := v } }) s

/-- `SET_PARAM.MM2.PREWARP_FREQ` (R255). -/
def execSetParamMm2PrewarpFreq (s : State) : Host.Outcome State Fault Refusal :=
  runCommand .setParamMm2PrewarpFreq (cmdSetParam .mm2 okPositive 0b0100 fun v c =>
    { c with mm2 := { c.mm2 with prewarpFreq := v } }) s

/-- `SET_PARAM.MM2.COEFF_X` (R256). -/
def execSetParamMm2CoeffX (s : State) : Host.Outcome State Fault Refusal :=
  runCommand .setParamMm2CoeffX (cmdSetParam .mm2 okFinite 0b1000 fun v c =>
    { c with mm2 := { c.mm2 with coeffX := v } }) s

/-- `SET_PARAM.MM2.COEFF_LP` (R257). -/
def execSetParamMm2CoeffLp (s : State) : Host.Outcome State Fault Refusal :=
  runCommand .setParamMm2CoeffLp (cmdSetParam .mm2 okFinite 0b1000 fun v c =>
    { c with mm2 := { c.mm2 with coeffLp := v } }) s

/-- `SET_PARAM.MM2.COEFF_BP` (R258). -/
def execSetParamMm2CoeffBp (s : State) : Host.Outcome State Fault Refusal :=
  runCommand .setParamMm2CoeffBp (cmdSetParam .mm2 okFinite 0b1000 fun v c =>
    { c with mm2 := { c.mm2 with coeffBp := v } }) s

/-- `SET_PARAM.MM2.COEFF_HP` (R259). -/
def execSetParamMm2CoeffHp (s : State) : Host.Outcome State Fault Refusal :=
  runCommand .setParamMm2CoeffHp (cmdSetParam .mm2 okFinite 0b1000 fun v c =>
    { c with mm2 := { c.mm2 with coeffHp := v } }) s

/-- `READ_COEF.MM2.CUTOFF` (R160). -/
def execReadCoefMm2Cutoff (s : State) : Host.Outcome State Fault Refusal :=
  runCommand .readCoefMm2Cutoff (cmdReadCoef fun s => s.coefs.mm2.cutoff) s

/-- `READ_COEF.MM2.Q` (R160). -/
def execReadCoefMm2Q (s : State) : Host.Outcome State Fault Refusal :=
  runCommand .readCoefMm2Q (cmdReadCoef fun s => s.coefs.mm2.q) s

/-- `READ_COEF.MM2.PREWARP_AT_CUTOFF` (R160). -/
def execReadCoefMm2PrewarpAtCutoff (s : State) : Host.Outcome State Fault Refusal :=
  runCommand .readCoefMm2PrewarpAtCutoff (cmdReadCoef fun s => s.coefs.mm2.prewarpAtCutoff) s

/-- `READ_COEF.MM2.PREWARP_FREQ` (R160). -/
def execReadCoefMm2PrewarpFreq (s : State) : Host.Outcome State Fault Refusal :=
  runCommand .readCoefMm2PrewarpFreq (cmdReadCoef fun s => s.coefs.mm2.prewarpFreq) s

/-- `READ_COEF.MM2.COEFF_X` (R160). -/
def execReadCoefMm2CoeffX (s : State) : Host.Outcome State Fault Refusal :=
  runCommand .readCoefMm2CoeffX (cmdReadCoef fun s => s.coefs.mm2.coeffX) s

/-- `READ_COEF.MM2.COEFF_LP` (R160). -/
def execReadCoefMm2CoeffLp (s : State) : Host.Outcome State Fault Refusal :=
  runCommand .readCoefMm2CoeffLp (cmdReadCoef fun s => s.coefs.mm2.coeffLp) s

/-- `READ_COEF.MM2.COEFF_BP` (R160). -/
def execReadCoefMm2CoeffBp (s : State) : Host.Outcome State Fault Refusal :=
  runCommand .readCoefMm2CoeffBp (cmdReadCoef fun s => s.coefs.mm2.coeffBp) s

/-- `READ_COEF.MM2.COEFF_HP` (R160). -/
def execReadCoefMm2CoeffHp (s : State) : Host.Outcome State Fault Refusal :=
  runCommand .readCoefMm2CoeffHp (cmdReadCoef fun s => s.coefs.mm2.coeffHp) s

/-- `READ_COEF.MM2.K_PI` (R160). -/
def execReadCoefMm2KPi (s : State) : Host.Outcome State Fault Refusal :=
  runCommand .readCoefMm2KPi (cmdReadCoef fun s => s.coefs.mm2.kPi) s

/-- `READ_COEF.MM2.G` (R160). -/
def execReadCoefMm2G (s : State) : Host.Outcome State Fault Refusal :=
  runCommand .readCoefMm2G (cmdReadCoef fun s => s.coefs.mm2.g) s

/-- `READ_COEF.MM2.K` (R160). -/
def execReadCoefMm2K (s : State) : Host.Outcome State Fault Refusal :=
  runCommand .readCoefMm2K (cmdReadCoef fun s => s.coefs.mm2.k) s

/-- `READ_COEF.MM2.GK` (R160). -/
def execReadCoefMm2Gk (s : State) : Host.Outcome State Fault Refusal :=
  runCommand .readCoefMm2Gk (cmdReadCoef fun s => s.coefs.mm2.gk) s

/-- `READ_COEF.MM2.HP_D` (R160). -/
def execReadCoefMm2HpD (s : State) : Host.Outcome State Fault Refusal :=
  runCommand .readCoefMm2HpD (cmdReadCoef fun s => s.coefs.mm2.hpD) s

/-- `READ_COEF.MM2.CX_ACT` (R160). -/
def execReadCoefMm2CxAct (s : State) : Host.Outcome State Fault Refusal :=
  runCommand .readCoefMm2CxAct (cmdReadCoef fun s => s.coefs.mm2.cxAct) s

/-- `READ_COEF.MM2.CLP_ACT` (R160). -/
def execReadCoefMm2ClpAct (s : State) : Host.Outcome State Fault Refusal :=
  runCommand .readCoefMm2ClpAct (cmdReadCoef fun s => s.coefs.mm2.clpAct) s

/-- `READ_COEF.MM2.CBP_ACT` (R160). -/
def execReadCoefMm2CbpAct (s : State) : Host.Outcome State Fault Refusal :=
  runCommand .readCoefMm2CbpAct (cmdReadCoef fun s => s.coefs.mm2.cbpAct) s

/-- `READ_COEF.MM2.CHP_ACT` (R160). -/
def execReadCoefMm2ChpAct (s : State) : Host.Outcome State Fault Refusal :=
  runCommand .readCoefMm2ChpAct (cmdReadCoef fun s => s.coefs.mm2.chpAct) s

/-- `READ_COEF.MM2.LIFE` (R160). -/
def execReadCoefMm2Life (s : State) : Host.Outcome State Fault Refusal :=
  runCommand .readCoefMm2Life (cmdReadCoef fun s => lifeCode s.regs.mm2.life) s

/-- `READ_COEF.MM2.GEN` (R160). -/
def execReadCoefMm2Gen (s : State) : Host.Outcome State Fault Refusal :=
  runCommand .readCoefMm2Gen (cmdReadCoef fun s => s.regs.mm2.gen) s

/-- `READ_COEF.MM2.FS` (R160). -/
def execReadCoefMm2Fs (s : State) : Host.Outcome State Fault Refusal :=
  runCommand .readCoefMm2Fs (cmdReadCoef fun s => s.regs.mm2.fs) s

/-- `READ_COEF.MM2.DIRTY` (R160). -/
def execReadCoefMm2Dirty (s : State) : Host.Outcome State Fault Refusal :=
  runCommand .readCoefMm2Dirty (cmdReadCoef fun s => s.regs.mm2.dirty) s

/-- `READ_COEF.MM2.MEMREQ` (R160). -/
def execReadCoefMm2Memreq (s : State) : Host.Outcome State Fault Refusal :=
  runCommand .readCoefMm2Memreq (cmdReadCoef fun _ => 0) s

/-- `READ_STATE.MM2.S1` (R161). -/
def execReadStateMm2S1 (ch : BitVec 6) (s : State) : Host.Outcome State Fault Refusal :=
  runCommand (.readStateMm2S1 ch) (cmdReadState ch fun s ch => (s.chans.mm2.getD ch {}).s1) s

/-- `READ_STATE.MM2.S2` (R161). -/
def execReadStateMm2S2 (ch : BitVec 6) (s : State) : Host.Outcome State Fault Refusal :=
  runCommand (.readStateMm2S2 ch) (cmdReadState ch fun s ch => (s.chans.mm2.getD ch {}).s2) s

/-- `READ_STATE.MM2.ST_VALID` (R161). -/
def execReadStateMm2StValid (ch : BitVec 6) (s : State) : Host.Outcome State Fault Refusal :=
  runCommand (.readStateMm2StValid ch) (cmdReadState ch fun s ch => flagWord (s.stValid .mm2 ch)) s

end Sys2Proof.Machine
end

