-- ==== Sys2Proof/Machine/CmdOnePole.lean ====
section
/-! DEFINITION. The meaning of every command of unit ONEPOLE, and of NOP: one definition for each row of
spec/opcode_table.json, over the shared computations of Machine/Protocol.lean. -/

namespace Sys2Proof.Machine

/-- `NOP` (R140). -/
def execNop (s : State) : Host.Outcome State Fault Refusal :=
  runCommand .nop (cmdNop) s

/-- `INIT.ONEPOLE` (R142). -/
def execInitOnepole (s : State) : Host.Outcome State Fault Refusal :=
  runCommand .initOnepole (cmdInit .onepole) s

/-- `SET_SR.ONEPOLE` (R143). -/
def execSetSrOnepole (s : State) : Host.Outcome State Fault Refusal :=
  runCommand .setSrOnepole (cmdSetSr .onepole) s

/-- `RESET_COEFFS.ONEPOLE` (R144). -/
def execResetCoeffsOnepole (s : State) : Host.Outcome State Fault Refusal :=
  runCommand .resetCoeffsOnepole (cmdResetCoeffs .onepole) s

/-- `RESET_STATE.ONEPOLE` (R145). -/
def execResetStateOnepole (ch : BitVec 6) (s : State) : Host.Outcome State Fault Refusal :=
  runCommand (.resetStateOnepole ch) (cmdResetState .onepole ch) s

/-- `UPDATE_CTRL.ONEPOLE` (R146). -/
def execUpdateCtrlOnepole (s : State) : Host.Outcome State Fault Refusal :=
  runCommand .updateCtrlOnepole (cmdUpdateCtrl .onepole) s

/-- `UPDATE_AUDIO.ONEPOLE` (R147). -/
def execUpdateAudioOnepole (s : State) : Host.Outcome State Fault Refusal :=
  runCommand .updateAudioOnepole (cmdUpdateAudio .onepole) s

/-- `PROCESS1.ONEPOLE` (R148). -/
def execProcess1Onepole (ch : BitVec 6) (s : State) : Host.Outcome State Fault Refusal :=
  runCommand (.process1Onepole ch) (cmdProcess1 .onepole ch) s

/-- `PROCESS.ONEPOLE` (R156). -/
def execProcessOnepole (ch : BitVec 6) (s : State) : Host.Outcome State Fault Refusal :=
  runCommand (.processOnepole ch) (cmdProcess .onepole ch) s

/-- `PROCESS_MULTI.ONEPOLE` (R157). -/
def execProcessMultiOnepole (s : State) : Host.Outcome State Fault Refusal :=
  runCommand .processMultiOnepole (cmdProcessMulti .onepole) s

/-- `SET_PARAM.ONEPOLE.CUTOFF` (R220). -/
def execSetParamOnepoleCutoff (s : State) : Host.Outcome State Fault Refusal :=
  runCommand .setParamOnepoleCutoff (cmdSetParam .onepole okCutoff 0b0011 fun v c =>
    { c with onepole := { c.onepole with cutoffUp := v, cutoffDown := v } }) s

/-- `SET_PARAM.ONEPOLE.CUTOFF_UP` (R221). -/
def execSetParamOnepoleCutoffUp (s : State) : Host.Outcome State Fault Refusal :=
  runCommand .setParamOnepoleCutoffUp (cmdSetParam .onepole okCutoff 0b0001 fun v c =>
    { c with onepole := { c.onepole with cutoffUp := v } }) s

/-- `SET_PARAM.ONEPOLE.CUTOFF_DOWN` (R222). -/
def execSetParamOnepoleCutoffDown (s : State) : Host.Outcome State Fault Refusal :=
  runCommand .setParamOnepoleCutoffDown (cmdSetParam .onepole okCutoff 0b0010 fun v c =>
    { c with onepole := { c.onepole with cutoffDown := v } }) s

/-- `SET_PARAM.ONEPOLE.TAU` (R223). -/
def execSetParamOnepoleTau (s : State) : Host.Outcome State Fault Refusal :=
  runCommand .setParamOnepoleTau (cmdSetParam .onepole okCutoff 0b0011 fun v c =>
    { c with onepole := { c.onepole with cutoffUp := tauCutoff v, cutoffDown := tauCutoff v } }) s

/-- `SET_PARAM.ONEPOLE.TAU_UP` (R224). -/
def execSetParamOnepoleTauUp (s : State) : Host.Outcome State Fault Refusal :=
  runCommand .setParamOnepoleTauUp (cmdSetParam .onepole okCutoff 0b0001 fun v c =>
    { c with onepole := { c.onepole with cutoffUp := tauCutoff v } }) s

/-- `SET_PARAM.ONEPOLE.TAU_DOWN` (R225). -/
def execSetParamOnepoleTauDown (s : State) : Host.Outcome State Fault Refusal :=
  runCommand .setParamOnepoleTauDown (cmdSetParam .onepole okCutoff 0b0010 fun v c =>
    { c with onepole := { c.onepole with cutoffDown := tauCutoff v } }) s

/-- `SET_PARAM.ONEPOLE.STICKY_THRESH` (R226). -/
def execSetParamOnepoleStickyThresh (s : State) : Host.Outcome State Fault Refusal :=
  runCommand .setParamOnepoleStickyThresh (cmdSetParam .onepole okNonneg 0b0100 fun v c =>
    { c with onepole := { c.onepole with stickyThresh := v } }) s

/-- `SET_PARAM.ONEPOLE.STICKY_MODE` (R227). -/
def execSetParamOnepoleStickyMode (s : State) : Host.Outcome State Fault Refusal :=
  runCommand .setParamOnepoleStickyMode (cmdSetParam .onepole okFlag 0b1000 fun v c =>
    { c with onepole := { c.onepole with stickyMode := v } }) s

/-- `READ_COEF.ONEPOLE.CUTOFF_UP` (R160). -/
def execReadCoefOnepoleCutoffUp (s : State) : Host.Outcome State Fault Refusal :=
  runCommand .readCoefOnepoleCutoffUp (cmdReadCoef fun s => s.coefs.onepole.cutoffUp) s

/-- `READ_COEF.ONEPOLE.CUTOFF_DOWN` (R160). -/
def execReadCoefOnepoleCutoffDown (s : State) : Host.Outcome State Fault Refusal :=
  runCommand .readCoefOnepoleCutoffDown (cmdReadCoef fun s => s.coefs.onepole.cutoffDown) s

/-- `READ_COEF.ONEPOLE.STICKY_THRESH` (R160). -/
def execReadCoefOnepoleStickyThresh (s : State) : Host.Outcome State Fault Refusal :=
  runCommand .readCoefOnepoleStickyThresh (cmdReadCoef fun s => s.coefs.onepole.stickyThresh) s

/-- `READ_COEF.ONEPOLE.STICKY_MODE` (R160). -/
def execReadCoefOnepoleStickyMode (s : State) : Host.Outcome State Fault Refusal :=
  runCommand .readCoefOnepoleStickyMode (cmdReadCoef fun s => s.coefs.onepole.stickyMode) s

/-- `READ_COEF.ONEPOLE.K_EXP` (R160). -/
def execReadCoefOnepoleKExp (s : State) : Host.Outcome State Fault Refusal :=
  runCommand .readCoefOnepoleKExp (cmdReadCoef fun s => s.coefs.onepole.kExp) s

/-- `READ_COEF.ONEPOLE.A_UP` (R160). -/
def execReadCoefOnepoleAUp (s : State) : Host.Outcome State Fault Refusal :=
  runCommand .readCoefOnepoleAUp (cmdReadCoef fun s => s.coefs.onepole.aUp) s

/-- `READ_COEF.ONEPOLE.A_DOWN` (R160). -/
def execReadCoefOnepoleADown (s : State) : Host.Outcome State Fault Refusal :=
  runCommand .readCoefOnepoleADown (cmdReadCoef fun s => s.coefs.onepole.aDown) s

/-- `READ_COEF.ONEPOLE.ST2` (R160). -/
def execReadCoefOnepoleSt2 (s : State) : Host.Outcome State Fault Refusal :=
  runCommand .readCoefOnepoleSt2 (cmdReadCoef fun s => s.coefs.onepole.st2) s

/-- `READ_COEF.ONEPOLE.MODE_ACT` (R160). -/
def execReadCoefOnepoleModeAct (s : State) : Host.Outcome State Fault Refusal :=
  runCommand .readCoefOnepoleModeAct (cmdReadCoef fun s => s.coefs.onepole.modeAct) s

/-- `READ_COEF.ONEPOLE.LIFE` (R160). -/
def execReadCoefOnepoleLife (s : State) : Host.Outcome State Fault Refusal :=
  runCommand .readCoefOnepoleLife (cmdReadCoef fun s => lifeCode s.regs.onepole.life) s

/-- `READ_COEF.ONEPOLE.GEN` (R160). -/
def execReadCoefOnepoleGen (s : State) : Host.Outcome State Fault Refusal :=
  runCommand .readCoefOnepoleGen (cmdReadCoef fun s => s.regs.onepole.gen) s

/-- `READ_COEF.ONEPOLE.FS` (R160). -/
def execReadCoefOnepoleFs (s : State) : Host.Outcome State Fault Refusal :=
  runCommand .readCoefOnepoleFs (cmdReadCoef fun s => s.regs.onepole.fs) s

/-- `READ_COEF.ONEPOLE.DIRTY` (R160). -/
def execReadCoefOnepoleDirty (s : State) : Host.Outcome State Fault Refusal :=
  runCommand .readCoefOnepoleDirty (cmdReadCoef fun s => s.regs.onepole.dirty) s

/-- `READ_COEF.ONEPOLE.MEMREQ` (R160). -/
def execReadCoefOnepoleMemreq (s : State) : Host.Outcome State Fault Refusal :=
  runCommand .readCoefOnepoleMemreq (cmdReadCoef fun _ => 0) s

/-- `READ_STATE.ONEPOLE.Y_Z1` (R161). -/
def execReadStateOnepoleYZ1 (ch : BitVec 6) (s : State) : Host.Outcome State Fault Refusal :=
  runCommand (.readStateOnepoleYZ1 ch) (cmdReadState ch fun s ch => (s.chans.onepole.getD ch {}).yZ1) s

/-- `READ_STATE.ONEPOLE.ST_VALID` (R161). -/
def execReadStateOnepoleStValid (ch : BitVec 6) (s : State) : Host.Outcome State Fault Refusal :=
  runCommand (.readStateOnepoleStValid ch) (cmdReadState ch fun s ch => flagWord (s.stValid .onepole ch)) s

end Sys2Proof.Machine
end

