-- ==== Sys2Proof/Machine/CmdPeak.lean ====
section
/-! DEFINITION. The meaning of every command of unit PEAK: one definition for each row of
spec/opcode_table.json, over the shared computations of Machine/Protocol.lean. -/

namespace Sys2Proof.Machine

/-- `INIT.PEAK` (R142). -/
def execInitPeak (s : State) : Host.Outcome State Fault Refusal :=
  runCommand .initPeak (cmdInit .peak) s

/-- `SET_SR.PEAK` (R143). -/
def execSetSrPeak (s : State) : Host.Outcome State Fault Refusal :=
  runCommand .setSrPeak (cmdSetSr .peak) s

/-- `RESET_COEFFS.PEAK` (R144). -/
def execResetCoeffsPeak (s : State) : Host.Outcome State Fault Refusal :=
  runCommand .resetCoeffsPeak (cmdResetCoeffs .peak) s

/-- `RESET_STATE.PEAK` (R145). -/
def execResetStatePeak (ch : BitVec 6) (s : State) : Host.Outcome State Fault Refusal :=
  runCommand (.resetStatePeak ch) (cmdResetState .peak ch) s

/-- `UPDATE_CTRL.PEAK` (R146). -/
def execUpdateCtrlPeak (s : State) : Host.Outcome State Fault Refusal :=
  runCommand .updateCtrlPeak (cmdUpdateCtrl .peak) s

/-- `UPDATE_AUDIO.PEAK` (R147). -/
def execUpdateAudioPeak (s : State) : Host.Outcome State Fault Refusal :=
  runCommand .updateAudioPeak (cmdUpdateAudio .peak) s

/-- `PROCESS1.PEAK` (R148). -/
def execProcess1Peak (ch : BitVec 6) (s : State) : Host.Outcome State Fault Refusal :=
  runCommand (.process1Peak ch) (cmdProcess1 .peak ch) s

/-- `PROCESS.PEAK` (R156). -/
def execProcessPeak (ch : BitVec 6) (s : State) : Host.Outcome State Fault Refusal :=
  runCommand (.processPeak ch) (cmdProcess .peak ch) s

/-- `PROCESS_MULTI.PEAK` (R157). -/
def execProcessMultiPeak (s : State) : Host.Outcome State Fault Refusal :=
  runCommand .processMultiPeak (cmdProcessMulti .peak) s

/-- `SET_PARAM.PEAK.CUTOFF` (R317). -/
def execSetParamPeakCutoff (s : State) : Host.Outcome State Fault Refusal :=
  runCommand .setParamPeakCutoff (cmdSetParam .peak okNonneg 0b0001 fun v c =>
    { c with peak := { c.peak with cutoff := v } }) s

/-- `SET_PARAM.PEAK.Q` (R318). -/
def execSetParamPeakQ (s : State) : Host.Outcome State Fault Refusal :=
  runCommand .setParamPeakQ (cmdSetParam .peak okFinite 0b0010 fun v c =>
    { c with peak := { c.peak with q := v } }) s

/-- `SET_PARAM.PEAK.PEAK_GAIN_LIN` (R319). -/
def execSetParamPeakPeakGainLin (s : State) : Host.Outcome State Fault Refusal :=
  runCommand .setParamPeakPeakGainLin (cmdSetParam .peak okPositive 0b0100 fun v c =>
    { c with peak := { c.peak with peakGainLin := v, gainIsDb := 0 } }) s

/-- `SET_PARAM.PEAK.PEAK_GAIN_DB` (R320). -/
def execSetParamPeakPeakGainDb (s : State) : Host.Outcome State Fault Refusal :=
  runCommand .setParamPeakPeakGainDb (cmdSetParam .peak okDb 0b0100 fun v c =>
    { c with peak := { c.peak with peakGainDb := v, gainIsDb := 1 } }) s

/-- `SET_PARAM.PEAK.BANDWIDTH` (R321). -/
def execSetParamPeakBandwidth (s : State) : Host.Outcome State Fault Refusal :=
  runCommand .setParamPeakBandwidth (cmdSetParam .peak okPositive 0b0010 fun v c =>
    { c with peak := { c.peak with bandwidth := v } }) s

/-- `SET_PARAM.PEAK.USE_BANDWIDTH` (R322). -/
def execSetParamPeakUseBandwidth (s : State) : Host.Outcome State Fault Refusal :=
  runCommand .setParamPeakUseBandwidth (cmdSetParam .peak okFlag 0b0010 fun v c =>
    { c with peak := { c.peak with useBandwidth := v } }) s

/-- `SET_PARAM.PEAK.PREWARP_AT_CUTOFF` (R323). -/
def execSetParamPeakPrewarpAtCutoff (s : State) : Host.Outcome State Fault Refusal :=
  runCommand .setParamPeakPrewarpAtCutoff (cmdSetParam .peak okFlag 0b1000 fun v c =>
    { c with peak := { c.peak with prewarpAtCutoff := v } }) s

/-- `SET_PARAM.PEAK.PREWARP_FREQ` (R324). -/
def execSetParamPeakPrewarpFreq (s : State) : Host.Outcome State Fault Refusal :=
  runCommand .setParamPeakPrewarpFreq (cmdSetParam .peak okPositive 0b1000 fun v c =>
    { c with peak := { c.peak with prewarpFreq := v } }) s

/-- `READ_COEF.PEAK.CUTOFF` (R160). -/
def execReadCoefPeakCutoff (s : State) : Host.Outcome State Fault Refusal :=
  runCommand .readCoefPeakCutoff (cmdReadCoef fun s => s.coefs.peak.cutoff) s

/-- `READ_COEF.PEAK.Q` (R160). -/
def execReadCoefPeakQ (s : State) : Host.Outcome State Fault Refusal :=
  runCommand .readCoefPeakQ (cmdReadCoef fun s => s.coefs.peak.q) s

/-- `READ_COEF.PEAK.PEAK_GAIN_LIN` (R160). -/
def execReadCoefPeakPeakGainLin (s : State) : Host.Outcome State Fault Refusal :=
  runCommand .readCoefPeakPeakGainLin (cmdReadCoef fun s => s.coefs.peak.peakGainLin) s

/-- `READ_COEF.PEAK.PEAK_GAIN_DB` (R160). -/
def execReadCoefPeakPeakGainDb (s : State) : Host.Outcome State Fault Refusal :=
  runCommand .readCoefPeakPeakGainDb (cmdReadCoef fun s => s.coefs.peak.peakGainDb) s

/-- `READ_COEF.PEAK.BANDWIDTH` (R160). -/
def execReadCoefPeakBandwidth (s : State) : Host.Outcome State Fault Refusal :=
  runCommand .readCoefPeakBandwidth (cmdReadCoef fun s => s.coefs.peak.bandwidth) s

/-- `READ_COEF.PEAK.USE_BANDWIDTH` (R160). -/
def execReadCoefPeakUseBandwidth (s : State) : Host.Outcome State Fault Refusal :=
  runCommand .readCoefPeakUseBandwidth (cmdReadCoef fun s => s.coefs.peak.useBandwidth) s

/-- `READ_COEF.PEAK.PREWARP_AT_CUTOFF` (R160). -/
def execReadCoefPeakPrewarpAtCutoff (s : State) : Host.Outcome State Fault Refusal :=
  runCommand .readCoefPeakPrewarpAtCutoff (cmdReadCoef fun s => s.coefs.peak.prewarpAtCutoff) s

/-- `READ_COEF.PEAK.PREWARP_FREQ` (R160). -/
def execReadCoefPeakPrewarpFreq (s : State) : Host.Outcome State Fault Refusal :=
  runCommand .readCoefPeakPrewarpFreq (cmdReadCoef fun s => s.coefs.peak.prewarpFreq) s

/-- `READ_COEF.PEAK.GAIN_IS_DB` (R160). -/
def execReadCoefPeakGainIsDb (s : State) : Host.Outcome State Fault Refusal :=
  runCommand .readCoefPeakGainIsDb (cmdReadCoef fun s => s.coefs.peak.gainIsDb) s

/-- `READ_COEF.PEAK.G` (R160). -/
def execReadCoefPeakG (s : State) : Host.Outcome State Fault Refusal :=
  runCommand .readCoefPeakG (cmdReadCoef fun s => s.coefs.peak.g) s

/-- `READ_COEF.PEAK.QU` (R160). -/
def execReadCoefPeakQu (s : State) : Host.Outcome State Fault Refusal :=
  runCommand .readCoefPeakQu (cmdReadCoef fun s => s.coefs.peak.qu) s

/-- `READ_COEF.PEAK.QI` (R160). -/
def execReadCoefPeakQi (s : State) : Host.Outcome State Fault Refusal :=
  runCommand .readCoefPeakQi (cmdReadCoef fun s => s.coefs.peak.qi) s

/-- `READ_COEF.PEAK.KI` (R160). -/
def execReadCoefPeakKi (s : State) : Host.Outcome State Fault Refusal :=
  runCommand .readCoefPeakKi (cmdReadCoef fun s => s.coefs.peak.ki) s

/-- `READ_COEF.PEAK.INNER.CUTOFF` (R160). -/
def execReadCoefPeakInnerCutoff (s : State) : Host.Outcome State Fault Refusal :=
  runCommand .readCoefPeakInnerCutoff (cmdReadCoef fun s => s.coefs.peak.inner.cutoff) s

/-- `READ_COEF.PEAK.INNER.Q` (R160). -/
def execReadCoefPeakInnerQ (s : State) : Host.Outcome State Fault Refusal :=
  runCommand .readCoefPeakInnerQ (cmdReadCoef fun s => s.coefs.peak.inner.q) s

/-- `READ_COEF.PEAK.INNER.PREWARP_AT_CUTOFF` (R160). -/
def execReadCoefPeakInnerPrewarpAtCutoff (s : State) : Host.Outcome State Fault Refusal :=
  runCommand .readCoefPeakInnerPrewarpAtCutoff (cmdReadCoef fun s => s.coefs.peak.inner.prewarpAtCutoff) s

/-- `READ_COEF.PEAK.INNER.PREWARP_FREQ` (R160). -/
def execReadCoefPeakInnerPrewarpFreq (s : State) : Host.Outcome State Fault Refusal :=
  runCommand .readCoefPeakInnerPrewarpFreq (cmdReadCoef fun s => s.coefs.peak.inner.prewarpFreq) s

/-- `READ_COEF.PEAK.INNER.COEFF_X` (R160). -/
def execReadCoefPeakInnerCoeffX (s : State) : Host.Outcome State Fault Refusal :=
  runCommand .readCoefPeakInnerCoeffX (cmdReadCoef fun s => s.coefs.peak.inner.coeffX) s

/-- `READ_COEF.PEAK.INNER.COEFF_LP` (R160). -/
def execReadCoefPeakInnerCoeffLp (s : State) : Host.Outcome State Fault Refusal :=
  runCommand .readCoefPeakInnerCoeffLp (cmdReadCoef fun s => s.coefs.peak.inner.coeffLp) s

/-- `READ_COEF.PEAK.INNER.COEFF_BP` (R160). -/
def execReadCoefPeakInnerCoeffBp (s : State) : Host.Outcome State Fault Refusal :=
  runCommand .readCoefPeakInnerCoeffBp (cmdReadCoef fun s => s.coefs.peak.inner.coeffBp) s

/-- `READ_COEF.PEAK.INNER.COEFF_HP` (R160). -/
def execReadCoefPeakInnerCoeffHp (s : State) : Host.Outcome State Fault Refusal :=
  runCommand .readCoefPeakInnerCoeffHp (cmdReadCoef fun s => s.coefs.peak.inner.coeffHp) s

/-- `READ_COEF.PEAK.INNER.K_PI` (R160). -/
def execReadCoefPeakInnerKPi (s : State) : Host.Outcome State Fault Refusal :=
  runCommand .readCoefPeakInnerKPi (cmdReadCoef fun s => s.coefs.peak.inner.kPi) s

/-- `READ_COEF.PEAK.INNER.G` (R160). -/
def execReadCoefPeakInnerG (s : State) : Host.Outcome State Fault Refusal :=
  runCommand .readCoefPeakInnerG (cmdReadCoef fun s => s.coefs.peak.inner.g) s

/-- `READ_COEF.PEAK.INNER.K` (R160). -/
def execReadCoefPeakInnerK (s : State) : Host.Outcome State Fault Refusal :=
  runCommand .readCoefPeakInnerK (cmdReadCoef fun s => s.coefs.peak.inner.k) s

/-- `READ_COEF.PEAK.INNER.GK` (R160). -/
def execReadCoefPeakInnerGk (s : State) : Host.Outcome State Fault Refusal :=
  runCommand .readCoefPeakInnerGk (cmdReadCoef fun s => s.coefs.peak.inner.gk) s

/-- `READ_COEF.PEAK.INNER.HP_D` (R160). -/
def execReadCoefPeakInnerHpD (s : State) : Host.Outcome State Fault Refusal :=
  runCommand .readCoefPeakInnerHpD (cmdReadCoef fun s => s.coefs.peak.inner.hpD) s

/-- `READ_COEF.PEAK.INNER.CX_ACT` (R160). -/
def execReadCoefPeakInnerCxAct (s : State) : Host.Outcome State Fault Refusal :=
  runCommand .readCoefPeakInnerCxAct (cmdReadCoef fun s => s.coefs.peak.inner.cxAct) s

/-- `READ_COEF.PEAK.INNER.CLP_ACT` (R160). -/
def execReadCoefPeakInnerClpAct (s : State) : Host.Outcome State Fault Refusal :=
  runCommand .readCoefPeakInnerClpAct (cmdReadCoef fun s => s.coefs.peak.inner.clpAct) s

/-- `READ_COEF.PEAK.INNER.CBP_ACT` (R160). -/
def execReadCoefPeakInnerCbpAct (s : State) : Host.Outcome State Fault Refusal :=
  runCommand .readCoefPeakInnerCbpAct (cmdReadCoef fun s => s.coefs.peak.inner.cbpAct) s

/-- `READ_COEF.PEAK.INNER.CHP_ACT` (R160). -/
def execReadCoefPeakInnerChpAct (s : State) : Host.Outcome State Fault Refusal :=
  runCommand .readCoefPeakInnerChpAct (cmdReadCoef fun s => s.coefs.peak.inner.chpAct) s

/-- `READ_COEF.PEAK.INNER.DIRTY` (R160). -/
def execReadCoefPeakInnerDirty (s : State) : Host.Outcome State Fault Refusal :=
  runCommand .readCoefPeakInnerDirty (cmdReadCoef fun s => s.coefs.peak.innerDirty) s

/-- `READ_COEF.PEAK.LIFE` (R160). -/
def execReadCoefPeakLife (s : State) : Host.Outcome State Fault Refusal :=
  runCommand .readCoefPeakLife (cmdReadCoef fun s => lifeCode s.regs.peak.life) s

/-- `READ_COEF.PEAK.GEN` (R160). -/
def execReadCoefPeakGen (s : State) : Host.Outcome State Fault Refusal :=
  runCommand .readCoefPeakGen (cmdReadCoef fun s => s.regs.peak.gen) s

/-- `READ_COEF.PEAK.FS` (R160). -/
def execReadCoefPeakFs (s : State) : Host.Outcome State Fault Refusal :=
  runCommand .readCoefPeakFs (cmdReadCoef fun s => s.regs.peak.fs) s

/-- `READ_COEF.PEAK.DIRTY` (R160). -/
def execReadCoefPeakDirty (s : State) : Host.Outcome State Fault Refusal :=
  runCommand .readCoefPeakDirty (cmdReadCoef fun s => s.regs.peak.dirty) s

/-- `READ_COEF.PEAK.MEMREQ` (R160). -/
def execReadCoefPeakMemreq (s : State) : Host.Outcome State Fault Refusal :=
  runCommand .readCoefPeakMemreq (cmdReadCoef fun _ => 0) s

/-- `READ_STATE.PEAK.S1` (R161). -/
def execReadStatePeakS1 (ch : BitVec 6) (s : State) : Host.Outcome State Fault Refusal :=
  runCommand (.readStatePeakS1 ch) (cmdReadState ch fun s ch => (s.chans.peak.getD ch {}).s1) s

/-- `READ_STATE.PEAK.S2` (R161). -/
def execReadStatePeakS2 (ch : BitVec 6) (s : State) : Host.Outcome State Fault Refusal :=
  runCommand (.readStatePeakS2 ch) (cmdReadState ch fun s ch => (s.chans.peak.getD ch {}).s2) s

/-- `READ_STATE.PEAK.ST_VALID` (R161). -/
def execReadStatePeakStValid (ch : BitVec 6) (s : State) : Host.Outcome State Fault Refusal :=
  runCommand (.readStatePeakStValid ch) (cmdReadState ch fun s ch => flagWord (s.stValid .peak ch)) s

end Sys2Proof.Machine
end

