-- ==== Sys2Proof/Machine/CmdReverb.lean ====
section
/-! DEFINITION. The meaning of every command of unit REVERB: one definition for each row of
spec/opcode_table.json, over the shared computations of Machine/Protocol.lean. -/

namespace Sys2Proof.Machine

/-- `INIT.REVERB` (R142). -/
def execInitReverb (s : State) : Host.Outcome State Fault Refusal :=
  runCommand .initReverb (cmdInit .reverb) s

/-- `SET_SR.REVERB` (R143). -/
def execSetSrReverb (s : State) : Host.Outcome State Fault Refusal :=
  runCommand .setSrReverb (cmdSetSr .reverb) s

/-- `RESET_COEFFS.REVERB` (R144). -/
def execResetCoeffsReverb (s : State) : Host.Outcome State Fault Refusal :=
  runCommand .resetCoeffsReverb (cmdResetCoeffs .reverb) s

/-- `RESET_STATE.REVERB` (R145). -/
def execResetStateReverb (ch : BitVec 6) (s : State) : Host.Outcome State Fault Refusal :=
  runCommand (.resetStateReverb ch) (cmdResetState .reverb ch) s

/-- `UPDATE_CTRL.REVERB` (R146). -/
def execUpdateCtrlReverb (s : State) : Host.Outcome State Fault Refusal :=
  runCommand .updateCtrlReverb (cmdUpdateCtrl .reverb) s

/-- `UPDATE_AUDIO.REVERB` (R147). -/
def execUpdateAudioReverb (s : State) : Host.Outcome State Fault Refusal :=
  runCommand .updateAudioReverb (cmdUpdateAudio .reverb) s

/-- `PROCESS1.REVERB` (R148). -/
def execProcess1Reverb (ch : BitVec 6) (s : State) : Host.Outcome State Fault Refusal :=
  runCommand (.process1Reverb ch) (cmdProcess1 .reverb ch) s

/-- `PROCESS.REVERB` (R156). -/
def execProcessReverb (ch : BitVec 6) (s : State) : Host.Outcome State Fault Refusal :=
  runCommand (.processReverb ch) (cmdProcess .reverb ch) s

/-- `PROCESS_MULTI.REVERB` (R157). -/
def execProcessMultiReverb (s : State) : Host.Outcome State Fault Refusal :=
  runCommand .processMultiReverb (cmdProcessMulti .reverb) s

/-- `MEM_REQ.REVERB` (R150). -/
def execMemReqReverb (s : State) : Host.Outcome State Fault Refusal :=
  runCommand .memReqReverb (cmdMemReq .reverb) s

/-- `MEM_SET.REVERB` (R151). -/
def execMemSetReverb (ch : BitVec 6) (s : State) : Host.Outcome State Fault Refusal :=
  runCommand (.memSetReverb ch) (cmdMemSet .reverb ch) s

/-- `SET_PARAM.REVERB.PREDELAY` (R394). -/
def execSetParamReverbPredelay (s : State) : Host.Outcome State Fault Refusal :=
  runCommand .setParamReverbPredelay (cmdSetParam .reverb okPredelay 0b0001 fun v c =>
    { c with reverb := { c.reverb with predelay := v } }) s

/-- `SET_PARAM.REVERB.BANDWIDTH` (R395). -/
def execSetParamReverbBandwidth (s : State) : Host.Outcome State Fault Refusal :=
  runCommand .setParamReverbBandwidth (cmdSetParam .reverb okCutoff 0b0010 fun v c =>
    { c with reverb := { c.reverb with bandwidth := v } }) s

/-- `SET_PARAM.REVERB.DAMPING` (R396). -/
def execSetParamReverbDamping (s : State) : Host.Outcome State Fault Refusal :=
  runCommand .setParamReverbDamping (cmdSetParam .reverb okCutoff 0b0100 fun v c =>
    { c with reverb := { c.reverb with damping := v } }) s

/-- `SET_PARAM.REVERB.DECAY` (R397). -/
def execSetParamReverbDecay (s : State) : Host.Outcome State Fault Refusal :=
  runCommand .setParamReverbDecay (cmdSetParam .reverb okDecay 0b1000 fun v c =>
    { c with reverb := { c.reverb with decay := v } }) s

/-- `READ_COEF.REVERB.PREDELAY` (R160). -/
def execReadCoefReverbPredelay (s : State) : Host.Outcome State Fault Refusal :=
  runCommand .readCoefReverbPredelay (cmdReadCoef fun s => s.coefs.reverb.predelay) s

/-- `READ_COEF.REVERB.BANDWIDTH` (R160). -/
def execReadCoefReverbBandwidth (s : State) : Host.Outcome State Fault Refusal :=
  runCommand .readCoefReverbBandwidth (cmdReadCoef fun s => s.coefs.reverb.bandwidth) s

/-- `READ_COEF.REVERB.DAMPING` (R160). -/
def execReadCoefReverbDamping (s : State) : Host.Outcome State Fault Refusal :=
  runCommand .readCoefReverbDamping (cmdReadCoef fun s => s.coefs.reverb.damping) s

/-- `READ_COEF.REVERB.DECAY` (R160). -/
def execReadCoefReverbDecay (s : State) : Host.Outcome State Fault Refusal :=
  runCommand .readCoefReverbDecay (cmdReadCoef fun s => s.coefs.reverb.decay) s

/-- `READ_COEF.REVERB.K_EXP` (R160). -/
def execReadCoefReverbKExp (s : State) : Host.Outcome State Fault Refusal :=
  runCommand .readCoefReverbKExp (cmdReadCoef fun s => s.coefs.reverb.kExp) s

/-- `READ_COEF.REVERB.A_BW` (R160). -/
def execReadCoefReverbABw (s : State) : Host.Outcome State Fault Refusal :=
  runCommand .readCoefReverbABw (cmdReadCoef fun s => s.coefs.reverb.aBw) s

/-- `READ_COEF.REVERB.A_DAMP` (R160). -/
def execReadCoefReverbADamp (s : State) : Host.Outcome State Fault Refusal :=
  runCommand .readCoefReverbADamp (cmdReadCoef fun s => s.coefs.reverb.aDamp) s

/-- `READ_COEF.REVERB.DECAY_G` (R160). -/
def execReadCoefReverbDecayG (s : State) : Host.Outcome State Fault Refusal :=
  runCommand .readCoefReverbDecayG (cmdReadCoef fun s => s.coefs.reverb.decayG) s

/-- `READ_COEF.REVERB.DD2G` (R160). -/
def execReadCoefReverbDd2g (s : State) : Host.Outcome State Fault Refusal :=
  runCommand .readCoefReverbDd2g (cmdReadCoef fun s => s.coefs.reverb.dd2G) s

/-- `READ_COEF.REVERB.A_PDS` (R160). -/
def execReadCoefReverbAPds (s : State) : Host.Outcome State Fault Refusal :=
  runCommand .readCoefReverbAPds (cmdReadCoef fun s => s.coefs.reverb.aPds) s

/-- `READ_COEF.REVERB.ST2_PD` (R160). -/
def execReadCoefReverbSt2Pd (s : State) : Host.Outcome State Fault Refusal :=
  runCommand .readCoefReverbSt2Pd (cmdReadCoef fun s => s.coefs.reverb.st2Pd) s

/-- `READ_COEF.REVERB.PD_TARGET` (R160). -/
def execReadCoefReverbPdTarget (s : State) : Host.Outcome State Fault Refusal :=
  runCommand .readCoefReverbPdTarget (cmdReadCoef fun s => s.coefs.reverb.pdTarget) s

/-- `READ_COEF.REVERB.PD_S` (R160). -/
def execReadCoefReverbPdS (s : State) : Host.Outcome State Fault Refusal :=
  runCommand .readCoefReverbPdS (cmdReadCoef fun s => s.coefs.reverb.pdS) s

/-- `READ_COEF.REVERB.PD_N` (R160). -/
def execReadCoefReverbPdN (s : State) : Host.Outcome State Fault Refusal :=
  runCommand .readCoefReverbPdN (cmdReadCoef fun s => s.coefs.reverb.pdN) s

/-- `READ_COEF.REVERB.LFO_PHASE` (R160). -/
def execReadCoefReverbLfoPhase (s : State) : Host.Outcome State Fault Refusal :=
  runCommand .readCoefReverbLfoPhase (cmdReadCoef fun s => s.coefs.reverb.lfoPhase) s

/-- `READ_COEF.REVERB.LFO_INC` (R160). -/
def execReadCoefReverbLfoInc (s : State) : Host.Outcome State Fault Refusal :=
  runCommand .readCoefReverbLfoInc (cmdReadCoef fun s => s.coefs.reverb.lfoInc) s

/-- `READ_COEF.REVERB.LFO_M` (R160). -/
def execReadCoefReverbLfoM (s : State) : Host.Outcome State Fault Refusal :=
  runCommand .readCoefReverbLfoM (cmdReadCoef fun s => s.coefs.reverb.lfoM) s

/-- `READ_COEF.REVERB.EXC` (R160). -/
def execReadCoefReverbExc (s : State) : Host.Outcome State Fault Refusal :=
  runCommand .readCoefReverbExc (cmdReadCoef fun s => s.coefs.reverb.exc) s

/-- `READ_COEF.REVERB.RATIO` (R160). -/
def execReadCoefReverbRatio (s : State) : Host.Outcome State Fault Refusal :=
  runCommand .readCoefReverbRatio (cmdReadCoef fun s => s.coefs.reverb.ratio) s

/-- `READ_COEF.REVERB.DI1` (R160). -/
def execReadCoefReverbDi1 (s : State) : Host.Outcome State Fault Refusal :=
  runCommand .readCoefReverbDi1 (cmdReadCoef fun s => s.coefs.reverb.di1) s

/-- `READ_COEF.REVERB.DF1` (R160). -/
def execReadCoefReverbDf1 (s : State) : Host.Outcome State Fault Refusal :=
  runCommand .readCoefReverbDf1 (cmdReadCoef fun s => s.coefs.reverb.df1) s

/-- `READ_COEF.REVERB.DI3` (R160). -/
def execReadCoefReverbDi3 (s : State) : Host.Outcome State Fault Refusal :=
  runCommand .readCoefReverbDi3 (cmdReadCoef fun s => s.coefs.reverb.di3) s

/-- `READ_COEF.REVERB.DF3` (R160). -/
def execReadCoefReverbDf3 (s : State) : Host.Outcome State Fault Refusal :=
  runCommand .readCoefReverbDf3 (cmdReadCoef fun s => s.coefs.reverb.df3) s

/-- `READ_COEF.REVERB.N[1]` (R160). -/
def execReadCoefReverbN1 (s : State) : Host.Outcome State Fault Refusal :=
  runCommand .readCoefReverbN1 (cmdReadCoef fun s => s.coefs.reverb.n.id1) s

/-- `READ_COEF.REVERB.N[2]` (R160). -/
def execReadCoefReverbN2 (s : State) : Host.Outcome State Fault Refusal :=
  runCommand .readCoefReverbN2 (cmdReadCoef fun s => s.coefs.reverb.n.id2) s

/-- `READ_COEF.REVERB.N[3]` (R160). -/
def execReadCoefReverbN3 (s : State) : Host.Outcome State Fault Refusal :=
  runCommand .readCoefReverbN3 (cmdReadCoef fun s => s.coefs.reverb.n.id3) s

/-- `READ_COEF.REVERB.N[4]` (R160). -/
def execReadCoefReverbN4 (s : State) : Host.Outcome State Fault Refusal :=
  runCommand .readCoefReverbN4 (cmdReadCoef fun s => s.coefs.reverb.n.id4) s

/-- `READ_COEF.REVERB.N[5]` (R160). -/
def execReadCoefReverbN5 (s : State) : Host.Outcome State Fault Refusal :=
  runCommand .readCoefReverbN5 (cmdReadCoef fun s => s.coefs.reverb.n.dd1) s

/-- `READ_COEF.REVERB.N[6]` (R160). -/
def execReadCoefReverbN6 (s : State) : Host.Outcome State Fault Refusal :=
  runCommand .readCoefReverbN6 (cmdReadCoef fun s => s.coefs.reverb.n.dlL1) s

/-- `READ_COEF.REVERB.N[7]` (R160). -/
def execReadCoefReverbN7 (s : State) : Host.Outcome State Fault Refusal :=
  runCommand .readCoefReverbN7 (cmdReadCoef fun s => s.coefs.reverb.n.dd2) s

/-- `READ_COEF.REVERB.N[8]` (R160). -/
def execReadCoefReverbN8 (s : State) : Host.Outcome State Fault Refusal :=
  runCommand .readCoefReverbN8 (cmdReadCoef fun s => s.coefs.reverb.n.dlL2) s

/-- `READ_COEF.REVERB.N[9]` (R160). -/
def execReadCoefReverbN9 (s : State) : Host.Outcome State Fault Refusal :=
  runCommand .readCoefReverbN9 (cmdReadCoef fun s => s.coefs.reverb.n.dd3) s

/-- `READ_COEF.REVERB.N[10]` (R160). -/
def execReadCoefReverbN10 (s : State) : Host.Outcome State Fault Refusal :=
  runCommand .readCoefReverbN10 (cmdReadCoef fun s => s.coefs.reverb.n.dlR1) s

/-- `READ_COEF.REVERB.N[11]` (R160). -/
def execReadCoefReverbN11 (s : State) : Host.Outcome State Fault Refusal :=
  runCommand .readCoefReverbN11 (cmdReadCoef fun s => s.coefs.reverb.n.dd4) s

/-- `READ_COEF.REVERB.N[12]` (R160). -/
def execReadCoefReverbN12 (s : State) : Host.Outcome State Fault Refusal :=
  runCommand .readCoefReverbN12 (cmdReadCoef fun s => s.coefs.reverb.n.dlR2) s

/-- `READ_COEF.REVERB.CAP[0]` (R160). -/
def execReadCoefReverbCap0 (s : State) : Host.Outcome State Fault Refusal :=
  runCommand .readCoefReverbCap0 (cmdReadCoef fun s => s.coefs.reverb.cap.pd) s

/-- `READ_COEF.REVERB.CAP[1]` (R160). -/
def execReadCoefReverbCap1 (s : State) : Host.Outcome State Fault Refusal :=
  runCommand .readCoefReverbCap1 (cmdReadCoef fun s => s.coefs.reverb.cap.id1) s

/-- `READ_COEF.REVERB.CAP[2]` (R160). -/
def execReadCoefReverbCap2 (s : State) : Host.Outcome State Fault Refusal :=
  runCommand .readCoefReverbCap2 (cmdReadCoef fun s => s.coefs.reverb.cap.id2) s

/-- `READ_COEF.REVERB.CAP[3]` (R160). -/
def execReadCoefReverbCap3 (s : State) : Host.Outcome State Fault Refusal :=
  runCommand .readCoefReverbCap3 (cmdReadCoef fun s => s.coefs.reverb.cap.id3) s

/-- `READ_COEF.REVERB.CAP[4]` (R160). -/
def execReadCoefReverbCap4 (s : State) : Host.Outcome State Fault Refusal :=
  runCommand .readCoefReverbCap4 (cmdReadCoef fun s => s.coefs.reverb.cap.id4) s

/-- `READ_COEF.REVERB.CAP[5]` (R160). -/
def execReadCoefReverbCap5 (s : State) : Host.Outcome State Fault Refusal :=
  runCommand .readCoefReverbCap5 (cmdReadCoef fun s => s.coefs.reverb.cap.dd1) s

/-- `READ_COEF.REVERB.CAP[6]` (R160). -/
def execReadCoefReverbCap6 (s : State) : Host.Outcome State Fault Refusal :=
  runCommand .readCoefReverbCap6 (cmdReadCoef fun s => s.coefs.reverb.cap.dlL1) s

/-- `READ_COEF.REVERB.CAP[7]` (R160). -/
def execReadCoefReverbCap7 (s : State) : Host.Outcome State Fault Refusal :=
  runCommand .readCoefReverbCap7 (cmdReadCoef fun s => s.coefs.reverb.cap.dd2) s

/-- `READ_COEF.REVERB.CAP[8]` (R160). -/
def execReadCoefReverbCap8 (s : State) : Host.Outcome State Fault Refusal :=
  runCommand .readCoefReverbCap8 (cmdReadCoef fun s => s.coefs.reverb.cap.dlL2) s

/-- `READ_COEF.REVERB.CAP[9]` (R160). -/
def execReadCoefReverbCap9 (s : State) : Host.Outcome State Fault Refusal :=
  runCommand .readCoefReverbCap9 (cmdReadCoef fun s => s.coefs.reverb.cap.dd3) s

/-- `READ_COEF.REVERB.CAP[10]` (R160). -/
def execReadCoefReverbCap10 (s : State) : Host.Outcome State Fault Refusal :=
  runCommand .readCoefReverbCap10 (cmdReadCoef fun s => s.coefs.reverb.cap.dlR1) s

/-- `READ_COEF.REVERB.CAP[11]` (R160). -/
def execReadCoefReverbCap11 (s : State) : Host.Outcome State Fault Refusal :=
  runCommand .readCoefReverbCap11 (cmdReadCoef fun s => s.coefs.reverb.cap.dd4) s

/-- `READ_COEF.REVERB.CAP[12]` (R160). -/
def execReadCoefReverbCap12 (s : State) : Host.Outcome State Fault Refusal :=
  runCommand .readCoefReverbCap12 (cmdReadCoef fun s => s.coefs.reverb.cap.dlR2) s

/-- `READ_COEF.REVERB.OFF[0]` (R160). -/
def execReadCoefReverbOff0 (s : State) : Host.Outcome State Fault Refusal :=
  runCommand .readCoefReverbOff0 (cmdReadCoef fun s => s.coefs.reverb.off.pd) s

/-- `READ_COEF.REVERB.OFF[1]` (R160). -/
def execReadCoefReverbOff1 (s : State) : Host.Outcome State Fault Refusal :=
  runCommand .readCoefReverbOff1 (cmdReadCoef fun s => s.coefs.reverb.off.id1) s

/-- `READ_COEF.REVERB.OFF[2]` (R160). -/
def execReadCoefReverbOff2 (s : State) : Host.Outcome State Fault Refusal :=
  runCommand .readCoefReverbOff2 (cmdReadCoef fun s => s.coefs.reverb.off.id2) s

/-- `READ_COEF.REVERB.OFF[3]` (R160). -/
def execReadCoefReverbOff3 (s : State) : Host.Outcome State Fault Refusal :=
  runCommand .readCoefReverbOff3 (cmdReadCoef fun s => s.coefs.reverb.off.id3) s

/-- `READ_COEF.REVERB.OFF[4]` (R160). -/
def execReadCoefReverbOff4 (s : State) : Host.Outcome State Fault Refusal :=
  runCommand .readCoefReverbOff4 (cmdReadCoef fun s => s.coefs.reverb.off.id4) s

/-- `READ_COEF.REVERB.OFF[5]` (R160). -/
def execReadCoefReverbOff5 (s : State) : Host.Outcome State Fault Refusal :=
  runCommand .readCoefReverbOff5 (cmdReadCoef fun s => s.coefs.reverb.off.dd1) s

/-- `READ_COEF.REVERB.OFF[6]` (R160). -/
def execReadCoefReverbOff6 (s : State) : Host.Outcome State Fault Refusal :=
  runCommand .readCoefReverbOff6 (cmdReadCoef fun s => s.coefs.reverb.off.dlL1) s

/-- `READ_COEF.REVERB.OFF[7]` (R160). -/
def execReadCoefReverbOff7 (s : State) : Host.Outcome State Fault Refusal :=
  runCommand .readCoefReverbOff7 (cmdReadCoef fun s => s.coefs.reverb.off.dd2) s

/-- `READ_COEF.REVERB.OFF[8]` (R160). -/
def execReadCoefReverbOff8 (s : State) : Host.Outcome State Fault Refusal :=
  runCommand .readCoefReverbOff8 (cmdReadCoef fun s => s.coefs.reverb.off.dlL2) s

/-- `READ_COEF.REVERB.OFF[9]` (R160). -/
def execReadCoefReverbOff9 (s : State) : Host.Outcome State Fault Refusal :=
  runCommand .readCoefReverbOff9 (cmdReadCoef fun s => s.coefs.reverb.off.dd3) s

/-- `READ_COEF.REVERB.OFF[10]` (R160). -/
def execReadCoefReverbOff10 (s : State) : Host.Outcome State Fault Refusal :=
  runCommand .readCoefReverbOff10 (cmdReadCoef fun s => s.coefs.reverb.off.dlR1) s

/-- `READ_COEF.REVERB.OFF[11]` (R160). -/
def execReadCoefReverbOff11 (s : State) : Host.Outcome State Fault Refusal :=
  runCommand .readCoefReverbOff11 (cmdReadCoef fun s => s.coefs.reverb.off.dd4) s

/-- `READ_COEF.REVERB.OFF[12]` (R160). -/
def execReadCoefReverbOff12 (s : State) : Host.Outcome State Fault Refusal :=
  runCommand .readCoefReverbOff12 (cmdReadCoef fun s => s.coefs.reverb.off.dlR2) s

/-- `READ_COEF.REVERB.TAPL_K[0]` (R160). -/
def execReadCoefReverbTaplK0 (s : State) : Host.Outcome State Fault Refusal :=
  runCommand .readCoefReverbTaplK0 (cmdReadCoef fun s => s.coefs.reverb.tapLK.t0) s

/-- `READ_COEF.REVERB.TAPL_K[1]` (R160). -/
def execReadCoefReverbTaplK1 (s : State) : Host.Outcome State Fault Refusal :=
  runCommand .readCoefReverbTaplK1 (cmdReadCoef fun s => s.coefs.reverb.tapLK.t1) s

/-- `READ_COEF.REVERB.TAPL_K[2]` (R160). -/
def execReadCoefReverbTaplK2 (s : State) : Host.Outcome State Fault Refusal :=
  runCommand .readCoefReverbTaplK2 (cmdReadCoef fun s => s.coefs.reverb.tapLK.t2) s

/-- `READ_COEF.REVERB.TAPL_K[3]` (R160). -/
def execReadCoefReverbTaplK3 (s : State) : Host.Outcome State Fault Refusal :=
  runCommand .readCoefReverbTaplK3 (cmdReadCoef fun s => s.coefs.reverb.tapLK.t3) s

/-- `READ_COEF.REVERB.TAPL_K[4]` (R160). -/
def execReadCoefReverbTaplK4 (s : State) : Host.Outcome State Fault Refusal :=
  runCommand .readCoefReverbTaplK4 (cmdReadCoef fun s => s.coefs.reverb.tapLK.t4) s

/-- `READ_COEF.REVERB.TAPL_K[5]` (R160). -/
def execReadCoefReverbTaplK5 (s : State) : Host.Outcome State Fault Refusal :=
  runCommand .readCoefReverbTaplK5 (cmdReadCoef fun s => s.coefs.reverb.tapLK.t5) s

/-- `READ_COEF.REVERB.TAPL_K[6]` (R160). -/
def execReadCoefReverbTaplK6 (s : State) : Host.Outcome State Fault Refusal :=
  runCommand .readCoefReverbTaplK6 (cmdReadCoef fun s => s.coefs.reverb.tapLK.t6) s

/-- `READ_COEF.REVERB.TAPR_K[0]` (R160). -/
def execReadCoefReverbTaprK0 (s : State) : Host.Outcome State Fault Refusal :=
  runCommand .readCoefReverbTaprK0 (cmdReadCoef fun s => s.coefs.reverb.tapRK.t0) s

/-- `READ_COEF.REVERB.TAPR_K[1]` (R160). -/
def execReadCoefReverbTaprK1 (s : State) : Host.Outcome State Fault Refusal :=
  runCommand .readCoefReverbTaprK1 (cmdReadCoef fun s => s.coefs.reverb.tapRK.t1) s

/-- `READ_COEF.REVERB.TAPR_K[2]` (R160). -/
def execReadCoefReverbTaprK2 (s : State) : Host.Outcome State Fault Refusal :=
  runCommand .readCoefReverbTaprK2 (cmdReadCoef fun s => s.coefs.reverb.tapRK.t2) s

/-- `READ_COEF.REVERB.TAPR_K[3]` (R160). -/
def execReadCoefReverbTaprK3 (s : State) : Host.Outcome State Fault Refusal :=
  runCommand .readCoefReverbTaprK3 (cmdReadCoef fun s => s.coefs.reverb.tapRK.t3) s

/-- `READ_COEF.REVERB.TAPR_K[4]` (R160). -/
def execReadCoefReverbTaprK4 (s : State) : Host.Outcome State Fault Refusal :=
  runCommand .readCoefReverbTaprK4 (cmdReadCoef fun s => s.coefs.reverb.tapRK.t4) s

/-- `READ_COEF.REVERB.TAPR_K[5]` (R160). -/
def execReadCoefReverbTaprK5 (s : State) : Host.Outcome State Fault Refusal :=
  runCommand .readCoefReverbTaprK5 (cmdReadCoef fun s => s.coefs.reverb.tapRK.t5) s

/-- `READ_COEF.REVERB.TAPR_K[6]` (R160). -/
def execReadCoefReverbTaprK6 (s : State) : Host.Outcome State Fault Refusal :=
  runCommand .readCoefReverbTaprK6 (cmdReadCoef fun s => s.coefs.reverb.tapRK.t6) s

/-- `READ_COEF.REVERB.LIFE` (R160). -/
def execReadCoefReverbLife (s : State) : Host.Outcome State Fault Refusal :=
  runCommand .readCoefReverbLife (cmdReadCoef fun s => lifeCode s.regs.reverb.life) s

/-- `READ_COEF.REVERB.GEN` (R160). -/
def execReadCoefReverbGen (s : State) : Host.Outcome State Fault Refusal :=
  runCommand .readCoefReverbGen (cmdReadCoef fun s => s.regs.reverb.gen) s

/-- `READ_COEF.REVERB.FS` (R160). -/
def execReadCoefReverbFs (s : State) : Host.Outcome State Fault Refusal :=
  runCommand .readCoefReverbFs (cmdReadCoef fun s => s.regs.reverb.fs) s

/-- `READ_COEF.REVERB.DIRTY` (R160). -/
def execReadCoefReverbDirty (s : State) : Host.Outcome State Fault Refusal :=
  runCommand .readCoefReverbDirty (cmdReadCoef fun s => s.regs.reverb.dirty) s

/-- `READ_COEF.REVERB.MEMREQ` (R160). -/
def execReadCoefReverbMemreq (s : State) : Host.Outcome State Fault Refusal :=
  runCommand .readCoefReverbMemreq (cmdReadCoef fun s => s.coefs.reverb.memReq) s

/-- `READ_STATE.REVERB.BW_Z1` (R161). -/
def execReadStateReverbBwZ1 (ch : BitVec 6) (s : State) : Host.Outcome State Fault Refusal :=
  runCommand (.readStateReverbBwZ1 ch) (cmdReadState ch fun s ch => (s.chans.reverb.getD ch {}).bwZ1) s

/-- `READ_STATE.REVERB.DL_Z1` (R161). -/
def execReadStateReverbDlZ1 (ch : BitVec 6) (s : State) : Host.Outcome State Fault Refusal :=
  runCommand (.readStateReverbDlZ1 ch) (cmdReadState ch fun s ch => (s.chans.reverb.getD ch {}).dlZ1) s

/-- `READ_STATE.REVERB.DR_Z1` (R161). -/
def execReadStateReverbDrZ1 (ch : BitVec 6) (s : State) : Host.Outcome State Fault Refusal :=
  runCommand (.readStateReverbDrZ1 ch) (cmdReadState ch fun s ch => (s.chans.reverb.getD ch {}).drZ1) s

/-- `READ_STATE.REVERB.W[0]` (R161). -/
def execReadStateReverbW0 (ch : BitVec 6) (s : State) : Host.Outcome State Fault Refusal :=
  runCommand (.readStateReverbW0 ch) (cmdReadState ch fun s ch => (s.chans.reverb.getD ch {}).w.pd) s

/-- `READ_STATE.REVERB.W[1]` (R161). -/
def execReadStateReverbW1 (ch : BitVec 6) (s : State) : Host.Outcome State Fault Refusal :=
  runCommand (.readStateReverbW1 ch) (cmdReadState ch fun s ch => (s.chans.reverb.getD ch {}).w.id1) s

/-- `READ_STATE.REVERB.W[2]` (R161). -/
def execReadStateReverbW2 (ch : BitVec 6) (s : State) : Host.Outcome State Fault Refusal :=
  runCommand (.readStateReverbW2 ch) (cmdReadState ch fun s ch => (s.chans.reverb.getD ch {}).w.id2) s

/-- `READ_STATE.REVERB.W[3]` (R161). -/
def execReadStateReverbW3 (ch : BitVec 6) (s : State) : Host.Outcome State Fault Refusal :=
  runCommand (.readStateReverbW3 ch) (cmdReadState ch fun s ch => (s.chans.reverb.getD ch {}).w.id3) s

/-- `READ_STATE.REVERB.W[4]` (R161). -/
def execReadStateReverbW4 (ch : BitVec 6) (s : State) : Host.Outcome State Fault Refusal :=
  runCommand (.readStateReverbW4 ch) (cmdReadState ch fun s ch => (s.chans.reverb.getD ch {}).w.id4) s

/-- `READ_STATE.REVERB.W[5]` (R161). -/
def execReadStateReverbW5 (ch : BitVec 6) (s : State) : Host.Outcome State Fault Refusal :=
  runCommand (.readStateReverbW5 ch) (cmdReadState ch fun s ch => (s.chans.reverb.getD ch {}).w.dd1) s

/-- `READ_STATE.REVERB.W[6]` (R161). -/
def execReadStateReverbW6 (ch : BitVec 6) (s : State) : Host.Outcome State Fault Refusal :=
  runCommand (.readStateReverbW6 ch) (cmdReadState ch fun s ch => (s.chans.reverb.getD ch {}).w.dlL1) s

/-- `READ_STATE.REVERB.W[7]` (R161). -/
def execReadStateReverbW7 (ch : BitVec 6) (s : State) : Host.Outcome State Fault Refusal :=
  runCommand (.readStateReverbW7 ch) (cmdReadState ch fun s ch => (s.chans.reverb.getD ch {}).w.dd2) s

/-- `READ_STATE.REVERB.W[8]` (R161). -/
def execReadStateReverbW8 (ch : BitVec 6) (s : State) : Host.Outcome State Fault Refusal :=
  runCommand (.readStateReverbW8 ch) (cmdReadState ch fun s ch => (s.chans.reverb.getD ch {}).w.dlL2) s

/-- `READ_STATE.REVERB.W[9]` (R161). -/
def execReadStateReverbW9 (ch : BitVec 6) (s : State) : Host.Outcome State Fault Refusal :=
  runCommand (.readStateReverbW9 ch) (cmdReadState ch fun s ch => (s.chans.reverb.getD ch {}).w.dd3) s

/-- `READ_STATE.REVERB.W[10]` (R161). -/
def execReadStateReverbW10 (ch : BitVec 6) (s : State) : Host.Outcome State Fault Refusal :=
  runCommand (.readStateReverbW10 ch) (cmdReadState ch fun s ch => (s.chans.reverb.getD ch {}).w.dlR1) s

/-- `READ_STATE.REVERB.W[11]` (R161). -/
def execReadStateReverbW11 (ch : BitVec 6) (s : State) : Host.Outcome State Fault Refusal :=
  runCommand (.readStateReverbW11 ch) (cmdReadState ch fun s ch => (s.chans.reverb.getD ch {}).w.dd4) s

/-- `READ_STATE.REVERB.W[12]` (R161). -/
def execReadStateReverbW12 (ch : BitVec 6) (s : State) : Host.Outcome State Fault Refusal :=
  runCommand (.readStateReverbW12 ch) (cmdReadState ch fun s ch => (s.chans.reverb.getD ch {}).w.dlR2) s

/-- `READ_STATE.REVERB.ST_VALID` (R161). -/
def execReadStateReverbStValid (ch : BitVec 6) (s : State) : Host.Outcome State Fault Refusal :=
  runCommand (.readStateReverbStValid ch) (cmdReadState ch fun s ch => flagWord (s.stValid .reverb ch)) s

/-- `READ_STATE.REVERB.MEM_BOUND` (R161). -/
def execReadStateReverbMemBound (ch : BitVec 6) (s : State) : Host.Outcome State Fault Refusal :=
  runCommand (.readStateReverbMemBound ch) (cmdReadState ch fun s ch => flagWord (s.binding .reverb ch).bound) s

/-- `READ_STATE.REVERB.MEM_BASE` (R161). -/
def execReadStateReverbMemBase (ch : BitVec 6) (s : State) : Host.Outcome State Fault Refusal :=
  runCommand (.readStateReverbMemBase ch) (cmdReadState ch fun s ch => (s.binding .reverb ch).base) s

end Sys2Proof.Machine
end

