-- ==== Sys2Proof/Machine/Dispatch.lean ====
section
/-! DEFINITION. The dispatch of a decoded command to its meaning: one arm for each constructor of `Instr`. -/

namespace Sys2Proof.Machine

/-- The effect of a legal command (40_protocol.md R141 to R161). STATUS.FAULT is not tested here: a faulted block runs no
command at all (10_state.md R29), which the write to CMD decides (Machine/HostPort.lean). -/
def exec (i : Instr) (s : State) : Host.Outcome State Fault Refusal :=
  match i with
  | .resetStateOnepole ch => Sys2Proof.Machine.execResetStateOnepole ch s
  | .process1Onepole ch => Sys2Proof.Machine.execProcess1Onepole ch s
  | .processOnepole ch => Sys2Proof.Machine.execProcessOnepole ch s
  | .readStateOnepoleYZ1 ch => Sys2Proof.Machine.execReadStateOnepoleYZ1 ch s
  | .readStateOnepoleStValid ch => Sys2Proof.Machine.execReadStateOnepoleStValid ch s
  | .resetStateMm1 ch => Sys2Proof.Machine.execResetStateMm1 ch s
  | .process1Mm1 ch => Sys2Proof.Machine.execProcess1Mm1 ch s
  | .processMm1 ch => Sys2Proof.Machine.execProcessMm1 ch s
  | .readStateMm1S ch => Sys2Proof.Machine.execReadStateMm1S ch s
  | .readStateMm1StValid ch => Sys2Proof.Machine.execReadStateMm1StValid ch s
  | .resetStateMm2 ch => Sys2Proof.Machine.execResetStateMm2 ch s
  | .process1Mm2 ch => Sys2Proof.Machine.execProcess1Mm2 ch s
  | .processMm2 ch => Sys2Proof.Machine.execProcessMm2 ch s
  | .readStateMm2S1 ch => Sys2Proof.Machine.execReadStateMm2S1 ch s
  | .readStateMm2S2 ch => Sys2Proof.Machine.execReadStateMm2S2 ch s
  | .readStateMm2StValid ch => Sys2Proof.Machine.execReadStateMm2StValid ch s
  | .resetStateHp1 ch => Sys2Proof.Machine.execResetStateHp1 ch s
  | .process1Hp1 ch => Sys2Proof.Machine.execProcess1Hp1 ch s
  | .processHp1 ch => Sys2Proof.Machine.execProcessHp1 ch s
  | .readStateHp1S ch => Sys2Proof.Machine.execReadStateHp1S ch s
  | .readStateHp1StValid ch => Sys2Proof.Machine.execReadStateHp1StValid ch s
  | .resetStateLs1 ch => Sys2Proof.Machine.execResetStateLs1 ch s
  | .process1Ls1 ch => Sys2Proof.Machine.execProcess1Ls1 ch s
  | .processLs1 ch => Sys2Proof.Machine.execProcessLs1 ch s
  | .readStateLs1S ch => Sys2Proof.Machine.execReadStateLs1S ch s
  | .readStateLs1StValid ch => Sys2Proof.Machine.execReadStateLs1StValid ch s
  | .resetStateLs2 ch => Sys2Proof.Machine.execResetStateLs2 ch s
  | .process1Ls2 ch => Sys2Proof.Machine.execProcess1Ls2 ch s
  | .processLs2 ch => Sys2Proof.Machine.execProcessLs2 ch s
  | .readStateLs2S1 ch => Sys2Proof.Machine.execReadStateLs2S1 ch s
  | .readStateLs2S2 ch => Sys2Proof.Machine.execReadStateLs2S2 ch s
  | .readStateLs2StValid ch => Sys2Proof.Machine.execReadStateLs2StValid ch s
  | .resetStateAp2 ch => Sys2Proof.Machine.execResetStateAp2 ch s
  | .process1Ap2 ch => Sys2Proof.Machine.execProcess1Ap2 ch s
  | .processAp2 ch => Sys2Proof.Machine.execProcessAp2 ch s
  | .readStateAp2S1 ch => Sys2Proof.Machine.execReadStateAp2S1 ch s
  | .readStateAp2S2 ch => Sys2Proof.Machine.execReadStateAp2S2 ch s
  | .readStateAp2StValid ch => Sys2Proof.Machine.execReadStateAp2StValid ch s
  | .resetStatePeak ch => Sys2Proof.Machine.execResetStatePeak ch s
  | .process1Peak ch => Sys2Proof.Machine.execProcess1Peak ch s
  | .processPeak ch => Sys2Proof.Machine.execProcessPeak ch s
  | .readStatePeakS1 ch => Sys2Proof.Machine.execReadStatePeakS1 ch s
  | .readStatePeakS2 ch => Sys2Proof.Machine.execReadStatePeakS2 ch s
  | .readStatePeakStValid ch => Sys2Proof.Machine.execReadStatePeakStValid ch s
  | .resetStateDelay ch => Sys2Proof.Machine.execResetStateDelay ch s
  | .process1Delay ch => Sys2Proof.Machine.execProcess1Delay ch s
  | .processDelay ch => Sys2Proof.Machine.execProcessDelay ch s
  | .memSetDelay ch => Sys2Proof.Machine.execMemSetDelay ch s
  | .delayReadDelay ch => Sys2Proof.Machine.execDelayReadDelay ch s
  | .delayWriteDelay ch => Sys2Proof.Machine.execDelayWriteDelay ch s
  | .readStateDelayW ch => Sys2Proof.Machine.execReadStateDelayW ch s
  | .readStateDelayStValid ch => Sys2Proof.Machine.execReadStateDelayStValid ch s
  | .readStateDelayMemBound ch => Sys2Proof.Machine.execReadStateDelayMemBound ch s
  | .readStateDelayMemBase ch => Sys2Proof.Machine.execReadStateDelayMemBase ch s
  | .resetStateReverb ch => Sys2Proof.Machine.execResetStateReverb ch s
  | .process1Reverb ch => Sys2Proof.Machine.execProcess1Reverb ch s
  | .processReverb ch => Sys2Proof.Machine.execProcessReverb ch s
  | .memSetReverb ch => Sys2Proof.Machine.execMemSetReverb ch s
  | .readStateReverbBwZ1 ch => Sys2Proof.Machine.execReadStateReverbBwZ1 ch s
  | .readStateReverbDlZ1 ch => Sys2Proof.Machine.execReadStateReverbDlZ1 ch s
  | .readStateReverbDrZ1 ch => Sys2Proof.Machine.execReadStateReverbDrZ1 ch s
  | .readStateReverbW0 ch => Sys2Proof.Machine.execReadStateReverbW0 ch s
  | .readStateReverbW1 ch => Sys2Proof.Machine.execReadStateReverbW1 ch s
  | .readStateReverbW2 ch => Sys2Proof.Machine.execReadStateReverbW2 ch s
  | .readStateReverbW3 ch => Sys2Proof.Machine.execReadStateReverbW3 ch s
  | .readStateReverbW4 ch => Sys2Proof.Machine.execReadStateReverbW4 ch s
  | .readStateReverbW5 ch => Sys2Proof.Machine.execReadStateReverbW5 ch s
  | .readStateReverbW6 ch => Sys2Proof.Machine.execReadStateReverbW6 ch s
  | .readStateReverbW7 ch => Sys2Proof.Machine.execReadStateReverbW7 ch s
  | .readStateReverbW8 ch => Sys2Proof.Machine.execReadStateReverbW8 ch s
  | .readStateReverbW9 ch => Sys2Proof.Machine.execReadStateReverbW9 ch s
  | .readStateReverbW10 ch => Sys2Proof.Machine.execReadStateReverbW10 ch s
  | .readStateReverbW11 ch => Sys2Proof.Machine.execReadStateReverbW11 ch s
  | .readStateReverbW12 ch => Sys2Proof.Machine.execReadStateReverbW12 ch s
  | .readStateReverbStValid ch => Sys2Proof.Machine.execReadStateReverbStValid ch s
  | .readStateReverbMemBound ch => Sys2Proof.Machine.execReadStateReverbMemBound ch s
  | .readStateReverbMemBase ch => Sys2Proof.Machine.execReadStateReverbMemBase ch s
  | .nop => Sys2Proof.Machine.execNop s
  | .initOnepole => Sys2Proof.Machine.execInitOnepole s
  | .setSrOnepole => Sys2Proof.Machine.execSetSrOnepole s
  | .resetCoeffsOnepole => Sys2Proof.Machine.execResetCoeffsOnepole s
  | .updateCtrlOnepole => Sys2Proof.Machine.execUpdateCtrlOnepole s
  | .updateAudioOnepole => Sys2Proof.Machine.execUpdateAudioOnepole s
  | .processMultiOnepole => Sys2Proof.Machine.execProcessMultiOnepole s
  | .setParamOnepoleCutoff => Sys2Proof.Machine.execSetParamOnepoleCutoff s
  | .setParamOnepoleCutoffUp => Sys2Proof.Machine.execSetParamOnepoleCutoffUp s
  | .setParamOnepoleCutoffDown => Sys2Proof.Machine.execSetParamOnepoleCutoffDown s
  | .setParamOnepoleTau => Sys2Proof.Machine.execSetParamOnepoleTau s
  | .setParamOnepoleTauUp => Sys2Proof.Machine.execSetParamOnepoleTauUp s
  | .setParamOnepoleTauDown => Sys2Proof.Machine.execSetParamOnepoleTauDown s
  | .setParamOnepoleStickyThresh => Sys2Proof.Machine.execSetParamOnepoleStickyThresh s
  | .setParamOnepoleStickyMode => Sys2Proof.Machine.execSetParamOnepoleStickyMode s
  | .readCoefOnepoleCutoffUp => Sys2Proof.Machine.execReadCoefOnepoleCutoffUp s
  | .readCoefOnepoleCutoffDown => Sys2Proof.Machine.execReadCoefOnepoleCutoffDown s
  | .readCoefOnepoleStickyThresh => Sys2Proof.Machine.execReadCoefOnepoleStickyThresh s
  | .readCoefOnepoleStickyMode => Sys2Proof.Machine.execReadCoefOnepoleStickyMode s
  | .readCoefOnepoleKExp => Sys2Proof.Machine.execReadCoefOnepoleKExp s
  | .readCoefOnepoleAUp => Sys2Proof.Machine.execReadCoefOnepoleAUp s
  | .readCoefOnepoleADown => Sys2Proof.Machine.execReadCoefOnepoleADown s
  | .readCoefOnepoleSt2 => Sys2Proof.Machine.execReadCoefOnepoleSt2 s
  | .readCoefOnepoleModeAct => Sys2Proof.Machine.execReadCoefOnepoleModeAct s
  | .readCoefOnepoleLife => Sys2Proof.Machine.execReadCoefOnepoleLife s
  | .readCoefOnepoleGen => Sys2Proof.Machine.execReadCoefOnepoleGen s
  | .readCoefOnepoleFs => Sys2Proof.Machine.execReadCoefOnepoleFs s
  | .readCoefOnepoleDirty => Sys2Proof.Machine.execReadCoefOnepoleDirty s
  | .readCoefOnepoleMemreq => Sys2Proof.Machine.execReadCoefOnepoleMemreq s
  | .initMm1 => Sys2Proof.Machine.execInitMm1 s
  | .setSrMm1 => Sys2Proof.Machine.execSetSrMm1 s
  | .resetCoeffsMm1 => Sys2Proof.Machine.execResetCoeffsMm1 s
  | .updateCtrlMm1 => Sys2Proof.Machine.execUpdateCtrlMm1 s
  | .updateAudioMm1 => Sys2Proof.Machine.execUpdateAudioMm1 s
  | .processMultiMm1 => Sys2Proof.Machine.execProcessMultiMm1 s
  | .setParamMm1Cutoff => Sys2Proof.Machine.execSetParamMm1Cutoff s
  | .setParamMm1PrewarpAtCutoff => Sys2Proof.Machine.execSetParamMm1PrewarpAtCutoff s
  | .setParamMm1PrewarpFreq => Sys2Proof.Machine.execSetParamMm1PrewarpFreq s
  | .setParamMm1CoeffX => Sys2Proof.Machine.execSetParamMm1CoeffX s
  | .setParamMm1CoeffLp => Sys2Proof.Machine.execSetParamMm1CoeffLp s
  | .readCoefMm1Cutoff => Sys2Proof.Machine.execReadCoefMm1Cutoff s
  | .readCoefMm1PrewarpAtCutoff => Sys2Proof.Machine.execReadCoefMm1PrewarpAtCutoff s
  | .readCoefMm1PrewarpFreq => Sys2Proof.Machine.execReadCoefMm1PrewarpFreq s
  | .readCoefMm1CoeffX => Sys2Proof.Machine.execReadCoefMm1CoeffX s
  | .readCoefMm1CoeffLp => Sys2Proof.Machine.execReadCoefMm1CoeffLp s
  | .readCoefMm1KPi => Sys2Proof.Machine.execReadCoefMm1KPi s
  | .readCoefMm1G => Sys2Proof.Machine.execReadCoefMm1G s
  | .readCoefMm1G1 => Sys2Proof.Machine.execReadCoefMm1G1 s
  | .readCoefMm1CxAct => Sys2Proof.Machine.execReadCoefMm1CxAct s
  | .readCoefMm1ClpAct => Sys2Proof.Machine.execReadCoefMm1ClpAct s
  | .readCoefMm1Life => Sys2Proof.Machine.execReadCoefMm1Life s
  | .readCoefMm1Gen => Sys2Proof.Machine.execReadCoefMm1Gen s
  | .readCoefMm1Fs => Sys2Proof.Machine.execReadCoefMm1Fs s
  | .readCoefMm1Dirty => Sys2Proof.Machine.execReadCoefMm1Dirty s
  | .readCoefMm1Memreq => Sys2Proof.Machine.execReadCoefMm1Memreq s
  | .initMm2 => Sys2Proof.Machine.execInitMm2 s
  | .setSrMm2 => Sys2Proof.Machine.execSetSrMm2 s
  | .resetCoeffsMm2 => Sys2Proof.Machine.execResetCoeffsMm2 s
  | .updateCtrlMm2 => Sys2Proof.Machine.execUpdateCtrlMm2 s
  | .updateAudioMm2 => Sys2Proof.Machine.execUpdateAudioMm2 s
  | .processMultiMm2 => Sys2Proof.Machine.execProcessMultiMm2 s
  | .setParamMm2Cutoff => Sys2Proof.Machine.execSetParamMm2Cutoff s
  | .setParamMm2Q => Sys2Proof.Machine.execSetParamMm2Q s
  | .setParamMm2PrewarpAtCutoff => Sys2Proof.Machine.execSetParamMm2PrewarpAtCutoff s
  | .setParamMm2PrewarpFreq => Sys2Proof.Machine.execSetParamMm2PrewarpFreq s
  | .setParamMm2CoeffX => Sys2Proof.Machine.execSetParamMm2CoeffX s
  | .setParamMm2CoeffLp => Sys2Proof.Machine.execSetParamMm2CoeffLp s
  | .setParamMm2CoeffBp => Sys2Proof.Machine.execSetParamMm2CoeffBp s
  | .setParamMm2CoeffHp => Sys2Proof.Machine.execSetParamMm2CoeffHp s
  | .readCoefMm2Cutoff => Sys2Proof.Machine.execReadCoefMm2Cutoff s
  | .readCoefMm2Q => Sys2Proof.Machine.execReadCoefMm2Q s
  | .readCoefMm2PrewarpAtCutoff => Sys2Proof.Machine.execReadCoefMm2PrewarpAtCutoff s
  | .readCoefMm2PrewarpFreq => Sys2Proof.Machine.execReadCoefMm2PrewarpFreq s
  | .readCoefMm2CoeffX => Sys2Proof.Machine.execReadCoefMm2CoeffX s
  | .readCoefMm2CoeffLp => Sys2Proof.Machine.execReadCoefMm2CoeffLp s
  | .readCoefMm2CoeffBp => Sys2Proof.Machine.execReadCoefMm2CoeffBp s
  | .readCoefMm2CoeffHp => Sys2Proof.Machine.execReadCoefMm2CoeffHp s
  | .readCoefMm2KPi => Sys2Proof.Machine.execReadCoefMm2KPi s
  | .readCoefMm2G => Sys2Proof.Machine.execReadCoefMm2G s
  | .readCoefMm2K => Sys2Proof.Machine.execReadCoefMm2K s
  | .readCoefMm2Gk => Sys2Proof.Machine.execReadCoefMm2Gk s
  | .readCoefMm2HpD => Sys2Proof.Machine.execReadCoefMm2HpD s
  | .readCoefMm2CxAct => Sys2Proof.Machine.execReadCoefMm2CxAct s
  | .readCoefMm2ClpAct => Sys2Proof.Machine.execReadCoefMm2ClpAct s
  | .readCoefMm2CbpAct => Sys2Proof.Machine.execReadCoefMm2CbpAct s
  | .readCoefMm2ChpAct => Sys2Proof.Machine.execReadCoefMm2ChpAct s
  | .readCoefMm2Life => Sys2Proof.Machine.execReadCoefMm2Life s
  | .readCoefMm2Gen => Sys2Proof.Machine.execReadCoefMm2Gen s
  | .readCoefMm2Fs => Sys2Proof.Machine.execReadCoefMm2Fs s
  | .readCoefMm2Dirty => Sys2Proof.Machine.execReadCoefMm2Dirty s
  | .readCoefMm2Memreq => Sys2Proof.Machine.execReadCoefMm2Memreq s
  | .initHp1 => Sys2Proof.Machine.execInitHp1 s
  | .setSrHp1 => Sys2Proof.Machine.execSetSrHp1 s
  | .resetCoeffsHp1 => Sys2Proof.Machine.execResetCoeffsHp1 s
  | .updateCtrlHp1 => Sys2Proof.Machine.execUpdateCtrlHp1 s
  | .updateAudioHp1 => Sys2Proof.Machine.execUpdateAudioHp1 s
  | .processMultiHp1 => Sys2Proof.Machine.execProcessMultiHp1 s
  | .setParamHp1Cutoff => Sys2Proof.Machine.execSetParamHp1Cutoff s
  | .setParamHp1PrewarpAtCutoff => Sys2Proof.Machine.execSetParamHp1PrewarpAtCutoff s
  | .setParamHp1PrewarpFreq => Sys2Proof.Machine.execSetParamHp1PrewarpFreq s
  | .readCoefHp1Cutoff => Sys2Proof.Machine.execReadCoefHp1Cutoff s
  | .readCoefHp1PrewarpAtCutoff => Sys2Proof.Machine.execReadCoefHp1PrewarpAtCutoff s
  | .readCoefHp1PrewarpFreq => Sys2Proof.Machine.execReadCoefHp1PrewarpFreq s
  | .readCoefHp1InnerCutoff => Sys2Proof.Machine.execReadCoefHp1InnerCutoff s
  | .readCoefHp1InnerPrewarpAtCutoff => Sys2Proof.Machine.execReadCoefHp1InnerPrewarpAtCutoff s
  | .readCoefHp1InnerPrewarpFreq => Sys2Proof.Machine.execReadCoefHp1InnerPrewarpFreq s
  | .readCoefHp1InnerCoeffX => Sys2Proof.Machine.execReadCoefHp1InnerCoeffX s
  | .readCoefHp1InnerCoeffLp => Sys2Proof.Machine.execReadCoefHp1InnerCoeffLp s
  | .readCoefHp1InnerKPi => Sys2Proof.Machine.execReadCoefHp1InnerKPi s
  | .readCoefHp1InnerG => Sys2Proof.Machine.execReadCoefHp1InnerG s
  | .readCoefHp1InnerG1 => Sys2Proof.Machine.execReadCoefHp1InnerG1 s
  | .readCoefHp1InnerCxAct => Sys2Proof.Machine.execReadCoefHp1InnerCxAct s
  | .readCoefHp1InnerClpAct => Sys2Proof.Machine.execReadCoefHp1InnerClpAct s
  | .readCoefHp1InnerDirty => Sys2Proof.Machine.execReadCoefHp1InnerDirty s
  | .readCoefHp1Life => Sys2Proof.Machine.execReadCoefHp1Life s
  | .readCoefHp1Gen => Sys2Proof.Machine.execReadCoefHp1Gen s
  | .readCoefHp1Fs => Sys2Proof.Machine.execReadCoefHp1Fs s
  | .readCoefHp1Dirty => Sys2Proof.Machine.execReadCoefHp1Dirty s
  | .readCoefHp1Memreq => Sys2Proof.Machine.execReadCoefHp1Memreq s
  | .initLs1 => Sys2Proof.Machine.execInitLs1 s
  | .setSrLs1 => Sys2Proof.Machine.execSetSrLs1 s
  | .resetCoeffsLs1 => Sys2Proof.Machine.execResetCoeffsLs1 s
  | .updateCtrlLs1 => Sys2Proof.Machine.execUpdateCtrlLs1 s
  | .updateAudioLs1 => Sys2Proof.Machine.execUpdateAudioLs1 s
  | .processMultiLs1 => Sys2Proof.Machine.execProcessMultiLs1 s
  | .setParamLs1Cutoff => Sys2Proof.Machine.execSetParamLs1Cutoff s
  | .setParamLs1DcGainLin => Sys2Proof.Machine.execSetParamLs1DcGainLin s
  | .setParamLs1DcGainDb => Sys2Proof.Machine.execSetParamLs1DcGainDb s
  | .setParamLs1PrewarpAtCutoff => Sys2Proof.Machine.execSetParamLs1PrewarpAtCutoff s
  | .setParamLs1PrewarpFreq => Sys2Proof.Machine.execSetParamLs1PrewarpFreq s
  | .readCoefLs1Cutoff => Sys2Proof.Machine.execReadCoefLs1Cutoff s
  | .readCoefLs1DcGainLin => Sys2Proof.Machine.execReadCoefLs1DcGainLin s
  | .readCoefLs1DcGainDb => Sys2Proof.Machine.execReadCoefLs1DcGainDb s
  | .readCoefLs1PrewarpAtCutoff => Sys2Proof.Machine.execReadCoefLs1PrewarpAtCutoff s
  | .readCoefLs1PrewarpFreq => Sys2Proof.Machine.execReadCoefLs1PrewarpFreq s
  | .readCoefLs1GainIsDb => Sys2Proof.Machine.execReadCoefLs1GainIsDb s
  | .readCoefLs1G => Sys2Proof.Machine.execReadCoefLs1G s
  | .readCoefLs1InnerCutoff => Sys2Proof.Machine.execReadCoefLs1InnerCutoff s
  | .readCoefLs1InnerPrewarpAtCutoff => Sys2Proof.Machine.execReadCoefLs1InnerPrewarpAtCutoff s
  | .readCoefLs1InnerPrewarpFreq => Sys2Proof.Machine.execReadCoefLs1InnerPrewarpFreq s
  | .readCoefLs1InnerCoeffX => Sys2Proof.Machine.execReadCoefLs1InnerCoeffX s
  | .readCoefLs1InnerCoeffLp => Sys2Proof.Machine.execReadCoefLs1InnerCoeffLp s
  | .readCoefLs1InnerKPi => Sys2Proof.Machine.execReadCoefLs1InnerKPi s
  | .readCoefLs1InnerG => Sys2Proof.Machine.execReadCoefLs1InnerG s
  | .readCoefLs1InnerG1 => Sys2Proof.Machine.execReadCoefLs1InnerG1 s
  | .readCoefLs1InnerCxAct => Sys2Proof.Machine.execReadCoefLs1InnerCxAct s
  | .readCoefLs1InnerClpAct => Sys2Proof.Machine.execReadCoefLs1InnerClpAct s
  | .readCoefLs1InnerDirty => Sys2Proof.Machine.execReadCoefLs1InnerDirty s
  | .readCoefLs1Life => Sys2Proof.Machine.execReadCoefLs1Life s
  | .readCoefLs1Gen => Sys2Proof.Machine.execReadCoefLs1Gen s
  | .readCoefLs1Fs => Sys2Proof.Machine.execReadCoefLs1Fs s
  | .readCoefLs1Dirty => Sys2Proof.Machine.execReadCoefLs1Dirty s
  | .readCoefLs1Memreq => Sys2Proof.Machine.execReadCoefLs1Memreq s
  | .initLs2 => Sys2Proof.Machine.execInitLs2 s
  | .setSrLs2 => Sys2Proof.Machine.execSetSrLs2 s
  | .resetCoeffsLs2 => Sys2Proof.Machine.execResetCoeffsLs2 s
  | .updateCtrlLs2 => Sys2Proof.Machine.execUpdateCtrlLs2 s
  | .updateAudioLs2 => Sys2Proof.Machine.execUpdateAudioLs2 s
  | .processMultiLs2 => Sys2Proof.Machine.execProcessMultiLs2 s
  | .setParamLs2Cutoff => Sys2Proof.Machine.execSetParamLs2Cutoff s
  | .setParamLs2Q => Sys2Proof.Machine.execSetParamLs2Q s
  | .setParamLs2DcGainLin => Sys2Proof.Machine.execSetParamLs2DcGainLin s
  | .setParamLs2DcGainDb => Sys2Proof.Machine.execSetParamLs2DcGainDb s
  | .setParamLs2PrewarpAtCutoff => Sys2Proof.Machine.execSetParamLs2PrewarpAtCutoff s
  | .setParamLs2PrewarpFreq => Sys2Proof.Machine.execSetParamLs2PrewarpFreq s
  | .readCoefLs2Cutoff => Sys2Proof.Machine.execReadCoefLs2Cutoff s
  | .readCoefLs2Q => Sys2Proof.Machine.execReadCoefLs2Q s
  | .readCoefLs2DcGainLin => Sys2Proof.Machine.execReadCoefLs2DcGainLin s
  | .readCoefLs2DcGainDb => Sys2Proof.Machine.execReadCoefLs2DcGainDb s
  | .readCoefLs2PrewarpAtCutoff => Sys2Proof.Machine.execReadCoefLs2PrewarpAtCutoff s
  | .readCoefLs2PrewarpFreq => Sys2Proof.Machine.execReadCoefLs2PrewarpFreq s
  | .readCoefLs2GainIsDb => Sys2Proof.Machine.execReadCoefLs2GainIsDb s
  | .readCoefLs2G => Sys2Proof.Machine.execReadCoefLs2G s
  | .readCoefLs2Ki => Sys2Proof.Machine.execReadCoefLs2Ki s
  | .readCoefLs2InnerCutoff => Sys2Proof.Machine.execReadCoefLs2InnerCutoff s
  | .readCoefLs2InnerQ => Sys2Proof.Machine.execReadCoefLs2InnerQ s
  | .readCoefLs2InnerPrewarpAtCutoff => Sys2Proof.Machine.execReadCoefLs2InnerPrewarpAtCutoff s
  | .readCoefLs2InnerPrewarpFreq => Sys2Proof.Machine.execReadCoefLs2InnerPrewarpFreq s
  | .readCoefLs2InnerCoeffX => Sys2Proof.Machine.execReadCoefLs2InnerCoeffX s
  | .readCoefLs2InnerCoeffLp => Sys2Proof.Machine.execReadCoefLs2InnerCoeffLp s
  | .readCoefLs2InnerCoeffBp => Sys2Proof.Machine.execReadCoefLs2InnerCoeffBp s
  | .readCoefLs2InnerCoeffHp => Sys2Proof.Machine.execReadCoefLs2InnerCoeffHp s
  | .readCoefLs2InnerKPi => Sys2Proof.Machine.execReadCoefLs2InnerKPi s
  | .readCoefLs2InnerG => Sys2Proof.Machine.execReadCoefLs2InnerG s
  | .readCoefLs2InnerK => Sys2Proof.Machine.execReadCoefLs2InnerK s
  | .readCoefLs2InnerGk => Sys2Proof.Machine.execReadCoefLs2InnerGk s
  | .readCoefLs2InnerHpD => Sys2Proof.Machine.execReadCoefLs2InnerHpD s
  | .readCoefLs2InnerCxAct => Sys2Proof.Machine.execReadCoefLs2InnerCxAct s
  | .readCoefLs2InnerClpAct => Sys2Proof.Machine.execReadCoefLs2InnerClpAct s
  | .readCoefLs2InnerCbpAct => Sys2Proof.Machine.execReadCoefLs2InnerCbpAct s
  | .readCoefLs2InnerChpAct => Sys2Proof.Machine.execReadCoefLs2InnerChpAct s
  | .readCoefLs2InnerDirty => Sys2Proof.Machine.execReadCoefLs2InnerDirty s
  | .readCoefLs2Life => Sys2Proof.Machine.execReadCoefLs2Life s
  | .readCoefLs2Gen => Sys2Proof.Machine.execReadCoefLs2Gen s
  | .readCoefLs2Fs => Sys2Proof.Machine.execReadCoefLs2Fs s
  | .readCoefLs2Dirty => Sys2Proof.Machine.execReadCoefLs2Dirty s
  | .readCoefLs2Memreq => Sys2Proof.Machine.execReadCoefLs2Memreq s
  | .initAp2 => Sys2Proof.Machine.execInitAp2 s
  | .setSrAp2 => Sys2Proof.Machine.execSetSrAp2 s
  | .resetCoeffsAp2 => Sys2Proof.Machine.execResetCoeffsAp2 s
  | .updateCtrlAp2 => Sys2Proof.Machine.execUpdateCtrlAp2 s
  | .updateAudioAp2 => Sys2Proof.Machine.execUpdateAudioAp2 s
  | .processMultiAp2 => Sys2Proof.Machine.execProcessMultiAp2 s
  | .setParamAp2Cutoff => Sys2Proof.Machine.execSetParamAp2Cutoff s
  | .setParamAp2Q => Sys2Proof.Machine.execSetParamAp2Q s
  | .setParamAp2PrewarpAtCutoff => Sys2Proof.Machine.execSetParamAp2PrewarpAtCutoff s
  | .setParamAp2PrewarpFreq => Sys2Proof.Machine.execSetParamAp2PrewarpFreq s
  | .readCoefAp2Cutoff => Sys2Proof.Machine.execReadCoefAp2Cutoff s
  | .readCoefAp2Q => Sys2Proof.Machine.execReadCoefAp2Q s
  | .readCoefAp2PrewarpAtCutoff => Sys2Proof.Machine.execReadCoefAp2PrewarpAtCutoff s
  | .readCoefAp2PrewarpFreq => Sys2Proof.Machine.execReadCoefAp2PrewarpFreq s
  | .readCoefAp2Ki => Sys2Proof.Machine.execReadCoefAp2Ki s
  | .readCoefAp2InnerCutoff => Sys2Proof.Machine.execReadCoefAp2InnerCutoff s
  | .readCoefAp2InnerQ => Sys2Proof.Machine.execReadCoefAp2InnerQ s
  | .readCoefAp2InnerPrewarpAtCutoff => Sys2Proof.Machine.execReadCoefAp2InnerPrewarpAtCutoff s
  | .readCoefAp2InnerPrewarpFreq => Sys2Proof.Machine.execReadCoefAp2InnerPrewarpFreq s
  | .readCoefAp2InnerCoeffX => Sys2Proof.Machine.execReadCoefAp2InnerCoeffX s
  | .readCoefAp2InnerCoeffLp => Sys2Proof.Machine.execReadCoefAp2InnerCoeffLp s
  | .readCoefAp2InnerCoeffBp => Sys2Proof.Machine.execReadCoefAp2InnerCoeffBp s
  | .readCoefAp2InnerCoeffHp => Sys2Proof.Machine.execReadCoefAp2InnerCoeffHp s
  | .readCoefAp2InnerKPi => Sys2Proof.Machine.execReadCoefAp2InnerKPi s
  | .readCoefAp2InnerG => Sys2Proof.Machine.execReadCoefAp2InnerG s
  | .readCoefAp2InnerK => Sys2Proof.Machine.execReadCoefAp2InnerK s
  | .readCoefAp2InnerGk => Sys2Proof.Machine.execReadCoefAp2InnerGk s
  | .readCoefAp2InnerHpD => Sys2Proof.Machine.execReadCoefAp2InnerHpD s
  | .readCoefAp2InnerCxAct => Sys2Proof.Machine.execReadCoefAp2InnerCxAct s
  | .readCoefAp2InnerClpAct => Sys2Proof.Machine.execReadCoefAp2InnerClpAct s
  | .readCoefAp2InnerCbpAct => Sys2Proof.Machine.execReadCoefAp2InnerCbpAct s
  | .readCoefAp2InnerChpAct => Sys2Proof.Machine.execReadCoefAp2InnerChpAct s
  | .readCoefAp2InnerDirty => Sys2Proof.Machine.execReadCoefAp2InnerDirty s
  | .readCoefAp2Life => Sys2Proof.Machine.execReadCoefAp2Life s
  | .readCoefAp2Gen => Sys2Proof.Machine.execReadCoefAp2Gen s
  | .readCoefAp2Fs => Sys2Proof.Machine.execReadCoefAp2Fs s
  | .readCoefAp2Dirty => Sys2Proof.Machine.execReadCoefAp2Dirty s
  | .readCoefAp2Memreq => Sys2Proof.Machine.execReadCoefAp2Memreq s
  | .initPeak => Sys2Proof.Machine.execInitPeak s
  | .setSrPeak => Sys2Proof.Machine.execSetSrPeak s
  | .resetCoeffsPeak => Sys2Proof.Machine.execResetCoeffsPeak s
  | .updateCtrlPeak => Sys2Proof.Machine.execUpdateCtrlPeak s
  | .updateAudioPeak => Sys2Proof.Machine.execUpdateAudioPeak s
  | .processMultiPeak => Sys2Proof.Machine.execProcessMultiPeak s
  | .setParamPeakCutoff => Sys2Proof.Machine.execSetParamPeakCutoff s
  | .setParamPeakQ => Sys2Proof.Machine.execSetParamPeakQ s
  | .setParamPeakPeakGainLin => Sys2Proof.Machine.execSetParamPeakPeakGainLin s
  | .setParamPeakPeakGainDb => Sys2Proof.Machine.execSetParamPeakPeakGainDb s
  | .setParamPeakBandwidth => Sys2Proof.Machine.execSetParamPeakBandwidth s
  | .setParamPeakUseBandwidth => Sys2Proof.Machine.execSetParamPeakUseBandwidth s
  | .setParamPeakPrewarpAtCutoff => Sys2Proof.Machine.execSetParamPeakPrewarpAtCutoff s
  | .setParamPeakPrewarpFreq => Sys2Proof.Machine.execSetParamPeakPrewarpFreq s
  | .readCoefPeakCutoff => Sys2Proof.Machine.execReadCoefPeakCutoff s
  | .readCoefPeakQ => Sys2Proof.Machine.execReadCoefPeakQ s
  | .readCoefPeakPeakGainLin => Sys2Proof.Machine.execReadCoefPeakPeakGainLin s
  | .readCoefPeakPeakGainDb => Sys2Proof.Machine.execReadCoefPeakPeakGainDb s
  | .readCoefPeakBandwidth => Sys2Proof.Machine.execReadCoefPeakBandwidth s
  | .readCoefPeakUseBandwidth => Sys2Proof.Machine.execReadCoefPeakUseBandwidth s
  | .readCoefPeakPrewarpAtCutoff => Sys2Proof.Machine.execReadCoefPeakPrewarpAtCutoff s
  | .readCoefPeakPrewarpFreq => Sys2Proof.Machine.execReadCoefPeakPrewarpFreq s
  | .readCoefPeakGainIsDb => Sys2Proof.Machine.execReadCoefPeakGainIsDb s
  | .readCoefPeakG => Sys2Proof.Machine.execReadCoefPeakG s
  | .readCoefPeakQu => Sys2Proof.Machine.execReadCoefPeakQu s
  | .readCoefPeakQi => Sys2Proof.Machine.execReadCoefPeakQi s
  | .readCoefPeakKi => Sys2Proof.Machine.execReadCoefPeakKi s
  | .readCoefPeakInnerCutoff => Sys2Proof.Machine.execReadCoefPeakInnerCutoff s
  | .readCoefPeakInnerQ => Sys2Proof.Machine.execReadCoefPeakInnerQ s
  | .readCoefPeakInnerPrewarpAtCutoff => Sys2Proof.Machine.execReadCoefPeakInnerPrewarpAtCutoff s
  | .readCoefPeakInnerPrewarpFreq => Sys2Proof.Machine.execReadCoefPeakInnerPrewarpFreq s
  | .readCoefPeakInnerCoeffX => Sys2Proof.Machine.execReadCoefPeakInnerCoeffX s
  | .readCoefPeakInnerCoeffLp => Sys2Proof.Machine.execReadCoefPeakInnerCoeffLp s
  | .readCoefPeakInnerCoeffBp => Sys2Proof.Machine.execReadCoefPeakInnerCoeffBp s
  | .readCoefPeakInnerCoeffHp => Sys2Proof.Machine.execReadCoefPeakInnerCoeffHp s
  | .readCoefPeakInnerKPi => Sys2Proof.Machine.execReadCoefPeakInnerKPi s
  | .readCoefPeakInnerG => Sys2Proof.Machine.execReadCoefPeakInnerG s
  | .readCoefPeakInnerK => Sys2Proof.Machine.execReadCoefPeakInnerK s
  | .readCoefPeakInnerGk => Sys2Proof.Machine.execReadCoefPeakInnerGk s
  | .readCoefPeakInnerHpD => Sys2Proof.Machine.execReadCoefPeakInnerHpD s
  | .readCoefPeakInnerCxAct => Sys2Proof.Machine.execReadCoefPeakInnerCxAct s
  | .readCoefPeakInnerClpAct => Sys2Proof.Machine.execReadCoefPeakInnerClpAct s
  | .readCoefPeakInnerCbpAct => Sys2Proof.Machine.execReadCoefPeakInnerCbpAct s
  | .readCoefPeakInnerChpAct => Sys2Proof.Machine.execReadCoefPeakInnerChpAct s
  | .readCoefPeakInnerDirty => Sys2Proof.Machine.execReadCoefPeakInnerDirty s
  | .readCoefPeakLife => Sys2Proof.Machine.execReadCoefPeakLife s
  | .readCoefPeakGen => Sys2Proof.Machine.execReadCoefPeakGen s
  | .readCoefPeakFs => Sys2Proof.Machine.execReadCoefPeakFs s
  | .readCoefPeakDirty => Sys2Proof.Machine.execReadCoefPeakDirty s
  | .readCoefPeakMemreq => Sys2Proof.Machine.execReadCoefPeakMemreq s
  | .initDelay => Sys2Proof.Machine.execInitDelay s
  | .setSrDelay => Sys2Proof.Machine.execSetSrDelay s
  | .resetCoeffsDelay => Sys2Proof.Machine.execResetCoeffsDelay s
  | .updateCtrlDelay => Sys2Proof.Machine.execUpdateCtrlDelay s
  | .updateAudioDelay => Sys2Proof.Machine.execUpdateAudioDelay s
  | .processMultiDelay => Sys2Proof.Machine.execProcessMultiDelay s
  | .memReqDelay => Sys2Proof.Machine.execMemReqDelay s
  | .setParamDelayDelay => Sys2Proof.Machine.execSetParamDelayDelay s
  | .readCoefDelayDelay => Sys2Proof.Machine.execReadCoefDelayDelay s
  | .readCoefDelayMaxDelay => Sys2Proof.Machine.execReadCoefDelayMaxDelay s
  | .readCoefDelayLen => Sys2Proof.Machine.execReadCoefDelayLen s
  | .readCoefDelayDi => Sys2Proof.Machine.execReadCoefDelayDi s
  | .readCoefDelayDf => Sys2Proof.Machine.execReadCoefDelayDf s
  | .readCoefDelayLife => Sys2Proof.Machine.execReadCoefDelayLife s
  | .readCoefDelayGen => Sys2Proof.Machine.execReadCoefDelayGen s
  | .readCoefDelayFs => Sys2Proof.Machine.execReadCoefDelayFs s
  | .readCoefDelayDirty => Sys2Proof.Machine.execReadCoefDelayDirty s
  | .readCoefDelayMemreq => Sys2Proof.Machine.execReadCoefDelayMemreq s
  | .initReverb => Sys2Proof.Machine.execInitReverb s
  | .setSrReverb => Sys2Proof.Machine.execSetSrReverb s
  | .resetCoeffsReverb => Sys2Proof.Machine.execResetCoeffsReverb s
  | .updateCtrlReverb => Sys2Proof.Machine.execUpdateCtrlReverb s
  | .updateAudioReverb => Sys2Proof.Machine.execUpdateAudioReverb s
  | .processMultiReverb => Sys2Proof.Machine.execProcessMultiReverb s
  | .memReqReverb => Sys2Proof.Machine.execMemReqReverb s
  | .setParamReverbPredelay => Sys2Proof.Machine.execSetParamReverbPredelay s
  | .setParamReverbBandwidth => Sys2Proof.Machine.execSetParamReverbBandwidth s
  | .setParamReverbDamping => Sys2Proof.Machine.execSetParamReverbDamping s
  | .setParamReverbDecay => Sys2Proof.Machine.execSetParamReverbDecay s
  | .readCoefReverbPredelay => Sys2Proof.Machine.execReadCoefReverbPredelay s
  | .readCoefReverbBandwidth => Sys2Proof.Machine.execReadCoefReverbBandwidth s
  | .readCoefReverbDamping => Sys2Proof.Machine.execReadCoefReverbDamping s
  | .readCoefReverbDecay => Sys2Proof.Machine.execReadCoefReverbDecay s
  | .readCoefReverbKExp => Sys2Proof.Machine.execReadCoefReverbKExp s
  | .readCoefReverbABw => Sys2Proof.Machine.execReadCoefReverbABw s
  | .readCoefReverbADamp => Sys2Proof.Machine.execReadCoefReverbADamp s
  | .readCoefReverbDecayG => Sys2Proof.Machine.execReadCoefReverbDecayG s
  | .readCoefReverbDd2g => Sys2Proof.Machine.execReadCoefReverbDd2g s
  | .readCoefReverbAPds => Sys2Proof.Machine.execReadCoefReverbAPds s
  | .readCoefReverbSt2Pd => Sys2Proof.Machine.execReadCoefReverbSt2Pd s
  | .readCoefReverbPdTarget => Sys2Proof.Machine.execReadCoefReverbPdTarget s
  | .readCoefReverbPdS => Sys2Proof.Machine.execReadCoefReverbPdS s
  | .readCoefReverbPdN => Sys2Proof.Machine.execReadCoefReverbPdN s
  | .readCoefReverbLfoPhase => Sys2Proof.Machine.execReadCoefReverbLfoPhase s
  | .readCoefReverbLfoInc => Sys2Proof.Machine.execReadCoefReverbLfoInc s
  | .readCoefReverbLfoM => Sys2Proof.Machine.execReadCoefReverbLfoM s
  | .readCoefReverbExc => Sys2Proof.Machine.execReadCoefReverbExc s
  | .readCoefReverbRatio => Sys2Proof.Machine.execReadCoefReverbRatio s
  | .readCoefReverbDi1 => Sys2Proof.Machine.execReadCoefReverbDi1 s
  | .readCoefReverbDf1 => Sys2Proof.Machine.execReadCoefReverbDf1 s
  | .readCoefReverbDi3 => Sys2Proof.Machine.execReadCoefReverbDi3 s
  | .readCoefReverbDf3 => Sys2Proof.Machine.execReadCoefReverbDf3 s
  | .readCoefReverbN1 => Sys2Proof.Machine.execReadCoefReverbN1 s
  | .readCoefReverbN2 => Sys2Proof.Machine.execReadCoefReverbN2 s
  | .readCoefReverbN3 => Sys2Proof.Machine.execReadCoefReverbN3 s
  | .readCoefReverbN4 => Sys2Proof.Machine.execReadCoefReverbN4 s
  | .readCoefReverbN5 => Sys2Proof.Machine.execReadCoefReverbN5 s
  | .readCoefReverbN6 => Sys2Proof.Machine.execReadCoefReverbN6 s
  | .readCoefReverbN7 => Sys2Proof.Machine.execReadCoefReverbN7 s
  | .readCoefReverbN8 => Sys2Proof.Machine.execReadCoefReverbN8 s
  | .readCoefReverbN9 => Sys2Proof.Machine.execReadCoefReverbN9 s
  | .readCoefReverbN10 => Sys2Proof.Machine.execReadCoefReverbN10 s
  | .readCoefReverbN11 => Sys2Proof.Machine.execReadCoefReverbN11 s
  | .readCoefReverbN12 => Sys2Proof.Machine.execReadCoefReverbN12 s
  | .readCoefReverbCap0 => Sys2Proof.Machine.execReadCoefReverbCap0 s
  | .readCoefReverbCap1 => Sys2Proof.Machine.execReadCoefReverbCap1 s
  | .readCoefReverbCap2 => Sys2Proof.Machine.execReadCoefReverbCap2 s
  | .readCoefReverbCap3 => Sys2Proof.Machine.execReadCoefReverbCap3 s
  | .readCoefReverbCap4 => Sys2Proof.Machine.execReadCoefReverbCap4 s
  | .readCoefReverbCap5 => Sys2Proof.Machine.execReadCoefReverbCap5 s
  | .readCoefReverbCap6 => Sys2Proof.Machine.execReadCoefReverbCap6 s
  | .readCoefReverbCap7 => Sys2Proof.Machine.execReadCoefReverbCap7 s
  | .readCoefReverbCap8 => Sys2Proof.Machine.execReadCoefReverbCap8 s
  | .readCoefReverbCap9 => Sys2Proof.Machine.execReadCoefReverbCap9 s
  | .readCoefReverbCap10 => Sys2Proof.Machine.execReadCoefReverbCap10 s
  | .readCoefReverbCap11 => Sys2Proof.Machine.execReadCoefReverbCap11 s
  | .readCoefReverbCap12 => Sys2Proof.Machine.execReadCoefReverbCap12 s
  | .readCoefReverbOff0 => Sys2Proof.Machine.execReadCoefReverbOff0 s
  | .readCoefReverbOff1 => Sys2Proof.Machine.execReadCoefReverbOff1 s
  | .readCoefReverbOff2 => Sys2Proof.Machine.execReadCoefReverbOff2 s
  | .readCoefReverbOff3 => Sys2Proof.Machine.execReadCoefReverbOff3 s
  | .readCoefReverbOff4 => Sys2Proof.Machine.execReadCoefReverbOff4 s
  | .readCoefReverbOff5 => Sys2Proof.Machine.execReadCoefReverbOff5 s
  | .readCoefReverbOff6 => Sys2Proof.Machine.execReadCoefReverbOff6 s
  | .readCoefReverbOff7 => Sys2Proof.Machine.execReadCoefReverbOff7 s
  | .readCoefReverbOff8 => Sys2Proof.Machine.execReadCoefReverbOff8 s
  | .readCoefReverbOff9 => Sys2Proof.Machine.execReadCoefReverbOff9 s
  | .readCoefReverbOff10 => Sys2Proof.Machine.execReadCoefReverbOff10 s
  | .readCoefReverbOff11 => Sys2Proof.Machine.execReadCoefReverbOff11 s
  | .readCoefReverbOff12 => Sys2Proof.Machine.execReadCoefReverbOff12 s
  | .readCoefReverbTaplK0 => Sys2Proof.Machine.execReadCoefReverbTaplK0 s
  | .readCoefReverbTaplK1 => Sys2Proof.Machine.execReadCoefReverbTaplK1 s
  | .readCoefReverbTaplK2 => Sys2Proof.Machine.execReadCoefReverbTaplK2 s
  | .readCoefReverbTaplK3 => Sys2Proof.Machine.execReadCoefReverbTaplK3 s
  | .readCoefReverbTaplK4 => Sys2Proof.Machine.execReadCoefReverbTaplK4 s
  | .readCoefReverbTaplK5 => Sys2Proof.Machine.execReadCoefReverbTaplK5 s
  | .readCoefReverbTaplK6 => Sys2Proof.Machine.execReadCoefReverbTaplK6 s
  | .readCoefReverbTaprK0 => Sys2Proof.Machine.execReadCoefReverbTaprK0 s
  | .readCoefReverbTaprK1 => Sys2Proof.Machine.execReadCoefReverbTaprK1 s
  | .readCoefReverbTaprK2 => Sys2Proof.Machine.execReadCoefReverbTaprK2 s
  | .readCoefReverbTaprK3 => Sys2Proof.Machine.execReadCoefReverbTaprK3 s
  | .readCoefReverbTaprK4 => Sys2Proof.Machine.execReadCoefReverbTaprK4 s
  | .readCoefReverbTaprK5 => Sys2Proof.Machine.execReadCoefReverbTaprK5 s
  | .readCoefReverbTaprK6 => Sys2Proof.Machine.execReadCoefReverbTaprK6 s
  | .readCoefReverbLife => Sys2Proof.Machine.execReadCoefReverbLife s
  | .readCoefReverbGen => Sys2Proof.Machine.execReadCoefReverbGen s
  | .readCoefReverbFs => Sys2Proof.Machine.execReadCoefReverbFs s
  | .readCoefReverbDirty => Sys2Proof.Machine.execReadCoefReverbDirty s
  | .readCoefReverbMemreq => Sys2Proof.Machine.execReadCoefReverbMemreq s

end Sys2Proof.Machine
end

