-- ==== Sys2Proof/Machine/HostPort.lean ====
section
/-! DEFINITION. The register window as the host sees it (10_state.md R23 to R29, 20_memory.md R88, R89), the host's own
accesses to data memory (R83, R95), the reset input (70_reset_and_hazards.md R470), and the fetch of the next command:
the block fetches no instructions (R21), it runs the word the host writes to CMD (R29). -/

namespace Sys2Proof.Machine
open Sys2Proof.Config

/-- What the next host access comes to: an outcome with no command run, or a command to run. -/
inductive Fetched where
  /-- No command runs: the step ends so. -/
  | done (o : Host.Outcome State Fault Refusal)
  /-- The host wrote the word of this command to CMD: it runs from this state. -/
  | run (i : Instr) (s : State)

/-- A register of the window (R23). -/
inductive WindowReg where
  | cmd | status | faultCmd | faultInfo0 | faultInfo1 | ctrl | id | nch
  | arg0 | arg1 | arg2 | arg3 | arg4 | arg5 | res0 | res1
  deriving DecidableEq, Repr

/-- The registers in the order of their offsets, four bytes each (R23). -/
def windowRegs : List WindowReg :=
  [.cmd, .status, .faultCmd, .faultInfo0, .faultInfo1, .ctrl, .id, .nch,
    .arg0, .arg1, .arg2, .arg3, .arg4, .arg5, .res0, .res1]

/-- The bytes of a host access (R89). -/
def AccessSize.bytes (size : AccessSize) : Nat := size.extra + 1

/-- The register an access reaches at an address of the window at `base`: an aligned 32-bit access, or none (R89,
R90). -/
def accessedReg (base a : Nat) (size : AccessSize) : Option WindowReg :=
  if size = .word ∧ base ≤ a ∧ (a - base) % 4 = 0 then windowRegs[(a - base) / 4]? else none

/-- Whether an access touches one of the window's 64 bytes (R90). -/
def touchesWindow (base a : Nat) (size : AccessSize) : Bool :=
  decide (a < base + 64) && decide (base < a + size.bytes)

/-- The answer to an access that reaches no register: a bus error where it touches the window (R89); elsewhere the block
is not addressed, and what the platform answers is not the spec's (notes/assumptions/14). -/
def missedReply (base a : Nat) (size : AccessSize) : Reply :=
  if touchesWindow base a size then .busError else .elsewhere

/-- The word a host load of a register returns (R23 to R28). -/
def readWindow (s : State) : WindowReg → Word
  | .cmd => 0
  | .status => s.win.status
  | .faultCmd => s.win.faultCmd
  | .faultInfo0 => s.win.faultInfo0
  | .faultInfo1 => s.win.faultInfo1
  | .ctrl => 0
  | .id => idWord
  | .nch => BitVec.ofNat 32 s.hw.nCh
  | .arg0 => s.win.arg0
  | .arg1 => s.win.arg1
  | .arg2 => s.win.arg2
  | .arg3 => s.win.arg3
  | .arg4 => s.win.arg4
  | .arg5 => s.win.arg5
  | .res0 => s.win.res0
  | .res1 => s.win.res1

/-- A write to CMD (R29): ignored while the block is faulted (60_exceptions.md R442); an illegal word faults ILLEGAL
(30_encoding.md R116). -/
def writeCmd (w : Word) (s : State) : Fetched :=
  if statusFault s.win.status then .done (.next s)
  else match decode w with
    | .error _ => .done (.next (enterFault w .illegal 0 0 s))
    | .ok i => .run i s

/-- A host store to a register (R23, R27, R29): only CMD, CTRL and the operand registers are affected by one. -/
def writeWindow (r : WindowReg) (w : Word) (s : State) : Fetched :=
  match r with
  | .cmd => writeCmd w s
  | .ctrl => .done (.next (if w.getLsbD 0 then blockReset s else s))
  | .arg0 => .done (.next { s with win := { s.win with arg0 := w } })
  | .arg1 => .done (.next { s with win := { s.win with arg1 := w } })
  | .arg2 => .done (.next { s with win := { s.win with arg2 := w } })
  | .arg3 => .done (.next { s with win := { s.win with arg3 := w } })
  | .arg4 => .done (.next { s with win := { s.win with arg4 := w } })
  | .arg5 => .done (.next { s with win := { s.win with arg5 := w } })
  | .status => .done (.next s)
  | .faultCmd => .done (.next s)
  | .faultInfo0 => .done (.next s)
  | .faultInfo1 => .done (.next s)
  | .id => .done (.next s)
  | .nch => .done (.next s)
  | .res0 => .done (.next s)
  | .res1 => .done (.next s)

/-- A state with the answer to a host access. -/
def State.answer (s : State) (r : Reply) : State := { s with reply := r }

/-- A host access to the `n` bytes of data memory from an address on, where the platform has ordinary memory (R81, R87;
notes/assumptions/9). -/
def hostAccess (a : Word) (n : Nat) (s : State) (k : State) : Host.Outcome State Fault Refusal :=
  if 2 ^ 32 < a.toNat + n then .fault (.hostAddress a.toNat)
  else match regionAt s.hw.regions a.toNat n with
    | some .busError => .next (s.answer .busError)
    | some .sideEffect => .refused (.sideEffectMemory a.toNat)
    | none => .next k

/-- One host access, from the state with that access taken from the queue. -/
def hostStep (e : HostEvent) (s : State) : Fetched :=
  match e with
  | .store a size w =>
    match accessedReg s.hw.base a size with
    | some r => writeWindow r w (s.answer .stored)
    | none => .done (.next (s.answer (missedReply s.hw.base a size)))
  | .load a size =>
    match accessedReg s.hw.base a size with
    | some r => .done (.next (s.answer (.data (readWindow s r))))
    | none => .done (.next (s.answer (missedReply s.hw.base a size)))
  | .memStore a w => .done (hostAccess a 4 s ({ s with mem := writeWord s.mem a.toNat w }.answer .stored))
  | .memLoad a => .done (hostAccess a 4 s (s.answer (.data (readWord s.mem a.toNat))))
  | .memStoreByte a b => .done (hostAccess a 1 s ({ s with mem := writeByte s.mem a.toNat b }.answer .stored))
  | .memLoadByte a => .done (hostAccess a 1 s (s.answer (.data ((readByte s.mem a.toNat).setWidth 32))))
  | .resetInput => .done (.next (blockReset s))

/-- The next host access, taken from the queue; with none the block is idle (10_state.md R20, 60_exceptions.md R452). -/
def fetch (s : State) : Fetched :=
  match s.inbox with
  | [] => .done (.next s)
  | e :: rest => hostStep e { s with inbox := rest }

/-- A state whose host writes a command word to CMD, at BASE, next, before its other accesses (30_encoding.md R110). -/
def queueCommand (s : State) (w : Word) : State := { s with inbox := .store s.hw.base .word w :: s.inbox }

end Sys2Proof.Machine
end

