-- ==== Sys2Proof/Machine/Step.lean ====
section
/-! DEFINITION. One step: the next host access (10_state.md R20: "it steps exactly when the host writes CMD"), and the
command it starts. -/

namespace Sys2Proof.Machine

/-- One step of the block and its host. -/
def step (s : State) : Host.Outcome State Fault Refusal :=
  match fetch s with
  | .done o => o
  | .run i s' => exec i s'

/-- A state whose next step is the host's write to CMD of the word of an instruction whose `nbits` bits are `w`
(notes/assumptions/1). -/
def State.withFetchWord (s : State) (nbits w : Nat) : State := queueCommand s (BitVec.ofNat 32 (w % 2 ^ nbits))

end Sys2Proof.Machine
end

