-- ==== Sys2Proof/Safety.lean ====
section
/-! DEFINITION. The words claims use: the opcode and unit of a command, the commands of each opcode by unit, the spec's
admission tables and register tables read by select, the invariants every step keeps, and what a safe step is. Nothing
here is part of the machine. -/

namespace Sys2Proof.Machine
open Sys2Proof.Config

/-! ### Commands by opcode and unit -/

/-- The unit's number in the command word (30_encoding.md R113). -/
def unitNumber : UnitId → BitVec 4
  | .onepole => 0
  | .mm1 => 1
  | .mm2 => 2
  | .hp1 => 3
  | .ls1 => 4
  | .ls2 => 5
  | .ap2 => 6
  | .peak => 7
  | .delay => 8
  | .reverb => 9

/-- `INIT` of a unit. -/
def initOf : UnitId → Instr
  | .onepole => .initOnepole
  | .mm1 => .initMm1
  | .mm2 => .initMm2
  | .hp1 => .initHp1
  | .ls1 => .initLs1
  | .ls2 => .initLs2
  | .ap2 => .initAp2
  | .peak => .initPeak
  | .delay => .initDelay
  | .reverb => .initReverb

/-- `SET_SR` of a unit. -/
def setSrOf : UnitId → Instr
  | .onepole => .setSrOnepole
  | .mm1 => .setSrMm1
  | .mm2 => .setSrMm2
  | .hp1 => .setSrHp1
  | .ls1 => .setSrLs1
  | .ls2 => .setSrLs2
  | .ap2 => .setSrAp2
  | .peak => .setSrPeak
  | .delay => .setSrDelay
  | .reverb => .setSrReverb

/-- `RESET_COEFFS` of a unit. -/
def resetCoeffsOf : UnitId → Instr
  | .onepole => .resetCoeffsOnepole
  | .mm1 => .resetCoeffsMm1
  | .mm2 => .resetCoeffsMm2
  | .hp1 => .resetCoeffsHp1
  | .ls1 => .resetCoeffsLs1
  | .ls2 => .resetCoeffsLs2
  | .ap2 => .resetCoeffsAp2
  | .peak => .resetCoeffsPeak
  | .delay => .resetCoeffsDelay
  | .reverb => .resetCoeffsReverb

/-- `RESET_STATE` of a unit's channel. -/
def resetStateOf (u : UnitId) (ch : BitVec 6) : Instr :=
  match u with
  | .onepole => .resetStateOnepole ch
  | .mm1 => .resetStateMm1 ch
  | .mm2 => .resetStateMm2 ch
  | .hp1 => .resetStateHp1 ch
  | .ls1 => .resetStateLs1 ch
  | .ls2 => .resetStateLs2 ch
  | .ap2 => .resetStateAp2 ch
  | .peak => .resetStatePeak ch
  | .delay => .resetStateDelay ch
  | .reverb => .resetStateReverb ch

/-- `UPDATE_CTRL` of a unit. -/
def updateCtrlOf : UnitId → Instr
  | .onepole => .updateCtrlOnepole
  | .mm1 => .updateCtrlMm1
  | .mm2 => .updateCtrlMm2
  | .hp1 => .updateCtrlHp1
  | .ls1 => .updateCtrlLs1
  | .ls2 => .updateCtrlLs2
  | .ap2 => .updateCtrlAp2
  | .peak => .updateCtrlPeak
  | .delay => .updateCtrlDelay
  | .reverb => .updateCtrlReverb

/-- `UPDATE_AUDIO` of a unit. -/
def updateAudioOf : UnitId → Instr
  | .onepole => .updateAudioOnepole
  | .mm1 => .updateAudioMm1
  | .mm2 => .updateAudioMm2
  | .hp1 => .updateAudioHp1
  | .ls1 => .updateAudioLs1
  | .ls2 => .updateAudioLs2
  | .ap2 => .updateAudioAp2
  | .peak => .updateAudioPeak
  | .delay => .updateAudioDelay
  | .reverb => .updateAudioReverb

/-- `PROCESS1` of a unit's channel. -/
def process1Of (u : UnitId) (ch : BitVec 6) : Instr :=
  match u with
  | .onepole => .process1Onepole ch
  | .mm1 => .process1Mm1 ch
  | .mm2 => .process1Mm2 ch
  | .hp1 => .process1Hp1 ch
  | .ls1 => .process1Ls1 ch
  | .ls2 => .process1Ls2 ch
  | .ap2 => .process1Ap2 ch
  | .peak => .process1Peak ch
  | .delay => .process1Delay ch
  | .reverb => .process1Reverb ch

/-- `PROCESS` of a unit's channel. -/
def processOf (u : UnitId) (ch : BitVec 6) : Instr :=
  match u with
  | .onepole => .processOnepole ch
  | .mm1 => .processMm1 ch
  | .mm2 => .processMm2 ch
  | .hp1 => .processHp1 ch
  | .ls1 => .processLs1 ch
  | .ls2 => .processLs2 ch
  | .ap2 => .processAp2 ch
  | .peak => .processPeak ch
  | .delay => .processDelay ch
  | .reverb => .processReverb ch

/-- `PROCESS_MULTI` of a unit. -/
def processMultiOf : UnitId → Instr
  | .onepole => .processMultiOnepole
  | .mm1 => .processMultiMm1
  | .mm2 => .processMultiMm2
  | .hp1 => .processMultiHp1
  | .ls1 => .processMultiLs1
  | .ls2 => .processMultiLs2
  | .ap2 => .processMultiAp2
  | .peak => .processMultiPeak
  | .delay => .processMultiDelay
  | .reverb => .processMultiReverb

/-! ### The spec's tables -/

/-- The lifecycle an opcode requires (40_protocol.md R141's table, row by row). -/
def lifeAccepted (opc : BitVec 6) (l : Life) : Prop :=
  if opc = 0x00#6 ∨ opc = 0x01#6 ∨ opc = 0x0F#6 ∨ opc = 0x10#6 then True
  else if opc = 0x02#6 ∨ opc = 0x0A#6 then l = .inited ∨ l = .srSet ∨ l = .ready
  else if opc = 0x03#6 ∨ opc = 0x0B#6 ∨ opc = 0x0C#6 then l = .srSet ∨ l = .ready
  else l = .ready

/-- The units an opcode accepts (30_encoding.md R112), and NOP's one encoding (R116 item 4). -/
def unitAccepted (opc : BitVec 6) (unit : BitVec 4) : Prop :=
  if opc = 0x00#6 then unit = 0#4
  else if opc = 0x0B#6 ∨ opc = 0x0C#6 then unit = 8#4 ∨ unit = 9#4
  else if opc = 0x0D#6 ∨ opc = 0x0E#6 then unit = 8#4
  else True

/-- How many parameter selects, from 0x00 on, SET_PARAM accepts for a unit (R115). -/
def paramCount (unit : BitVec 4) : Nat :=
  match unit with
  | 0#4 => 8
  | 1#4 => 5
  | 2#4 => 8
  | 3#4 => 3
  | 4#4 => 5
  | 5#4 => 6
  | 6#4 => 4
  | 7#4 => 8
  | 8#4 => 1
  | 9#4 => 4
  | _ => 0

/-- The unit of a number (R113). -/
def unitOfNumber (n : BitVec 4) : Option UnitId :=
  match n with
  | 0#4 => some .onepole
  | 1#4 => some .mm1
  | 2#4 => some .mm2
  | 3#4 => some .hp1
  | 4#4 => some .ls1
  | 5#4 => some .ls2
  | 6#4 => some .ap2
  | 7#4 => some .peak
  | 8#4 => some .delay
  | 9#4 => some .reverb
  | _ => none

/-- The unit of a command; NOP has none. -/
def unitOfInstr (i : Instr) : Option UnitId :=
  if i.fields.opc = 0x00#6 then none else unitOfNumber i.fields.unit

/-- The values INIT gives the parameters of an MM1 bank (10_state.md R38), by select; every other register is 0. -/
def mm1Init (sel : BitVec 8) : Word :=
  if sel = 0x00#8 then 0x447A0000#32
  else if sel = 0x01#8 then 1
  else if sel = 0x02#8 then 0x447A0000#32
  else if sel = 0x04#8 then 0x3F800000#32
  else 0

/-- The values INIT gives the parameters of an MM2 bank (R39), by select. -/
def mm2Init (sel : BitVec 8) : Word :=
  if sel = 0x00#8 then 0x447A0000#32
  else if sel = 0x01#8 then 0x3F000000#32
  else if sel = 0x02#8 then 1
  else if sel = 0x03#8 then 0x447A0000#32
  else if sel = 0x05#8 then 0x3F800000#32
  else 0

/-- The INIT value of every register of a unit, by READ_COEF's select (R34, R37 to R43; 40_protocol.md R142): LIFE 1,
every DIRTY bit set, the tables' INIT column, 0 elsewhere. `arg0` is what ARG0 holds. -/
def initValue (u : UnitId) (arg0 : Word) (sel : BitVec 8) : Word :=
  if sel = 0xF0#8 then 1
  else match u with
    | .onepole =>
      if sel = 0xF3#8 then 0xF else if sel = 0x01#8 ∨ sel = 0x02#8 then 0x7F800000#32 else 0
    | .mm1 => if sel = 0xF3#8 then 0x7 else mm1Init sel
    | .mm2 => if sel = 0xF3#8 then 0xF else mm2Init sel
    | .hp1 =>
      if sel = 0xF3#8 then 0x3 else if sel = 0xE0#8 then 0x7
      else if sel = 0x00#8 then 0x447A0000#32 else if sel = 0x01#8 then 1 else if sel = 0x02#8 then 0x447A0000#32
      else if 0x80 ≤ sel.toNat then mm1Init (sel - 0x80#8) else 0
    | .ls1 =>
      if sel = 0xF3#8 then 0x7 else if sel = 0xE0#8 then 0x7
      else if sel = 0x00#8 then 0x447A0000#32 else if sel = 0x01#8 then 0x3F800000#32 else if sel = 0x03#8 then 1
      else if sel = 0x04#8 then 0x447A0000#32
      else if 0x80 ≤ sel.toNat then mm1Init (sel - 0x80#8) else 0
    | .ls2 =>
      if sel = 0xF3#8 then 0xF else if sel = 0xE0#8 then 0xF
      else if sel = 0x00#8 then 0x447A0000#32 else if sel = 0x01#8 then 0x3F000000#32
      else if sel = 0x02#8 then 0x3F800000#32 else if sel = 0x04#8 then 1 else if sel = 0x05#8 then 0x447A0000#32
      else if 0x80 ≤ sel.toNat then mm2Init (sel - 0x80#8) else 0
    | .ap2 =>
      if sel = 0xF3#8 then 0x7 else if sel = 0xE0#8 then 0xF
      else if sel = 0x00#8 then 0x447A0000#32 else if sel = 0x01#8 then 0x3F000000#32 else if sel = 0x02#8 then 1
      else if sel = 0x03#8 then 0x447A0000#32
      else if 0x80 ≤ sel.toNat then mm2Init (sel - 0x80#8) else 0
    | .peak =>
      if sel = 0xF3#8 then 0xF else if sel = 0xE0#8 then 0xF
      else if sel = 0x00#8 then 0x447A0000#32 else if sel = 0x01#8 then 0x3F000000#32
      else if sel = 0x02#8 then 0x3F800000#32 else if sel = 0x04#8 then 0x44FA0000#32 else if sel = 0x06#8 then 1
      else if sel = 0x07#8 then 0x447A0000#32
      else if 0x80 ≤ sel.toNat then mm2Init (sel - 0x80#8) else 0
    | .delay => if sel = 0xF3#8 then 0x1 else if sel = 0x01#8 then arg0 else 0
    | .reverb =>
      if sel = 0xF3#8 then 0xF else if sel = 0x01#8 ∨ sel = 0x02#8 then 0x469C4000#32
      else if sel = 0x03#8 then 0x3F000000#32 else 0

/-! ### What stays as it was -/

/-- Every register of a unit's coefficient bank, every register of its channels, and the bindings of its channels are
the same in two states. -/
def sameUnit (s t : State) (u : UnitId) : Prop :=
  (∀ sel, coefReg t u sel = coefReg s u sel) ∧ ∀ ch sel, stateReg t u ch sel = stateReg s u ch sel

/-- Everything outside one unit is the same in two states, data memory and the window included. -/
def onlyUnit (s t : State) (u : UnitId) : Prop :=
  (∀ v, v ≠ u → sameUnit s t v) ∧ t.hw = s.hw ∧ t.win = s.win ∧ t.mem = s.mem ∧ t.inbox = s.inbox ∧ t.reply = s.reply

/-- Every byte of data memory outside a range is the same in two states. -/
def sameOutside (s t : State) (lo len : Nat) : Prop :=
  ∀ a, ¬(lo ≤ a ∧ a < lo + len) → readByte t.mem a = readByte s.mem a

/-! ### Invariants -/

/-- The sum of the capacities of a list of the reverb's lines. -/
def capSum (c : ReverbCoefs) (ls : List RevLine) : Nat := (ls.map fun j => (c.cap.get j).toNat).sum

/-- DELAY's arena is one line of LEN words (44_delay.md R345). -/
def delayLayout (c : DelayCoefs) : Prop :=
  1 ≤ c.len.toNat ∧ c.len.toNat ≤ 2 ^ 24 ∧ c.memReq.toNat = 4 * c.len.toNat

/-- REVERB's arena is its thirteen lines one after the other (45_reverb.md R375). -/
def reverbLayout (c : ReverbCoefs) : Prop :=
  (∀ j, 1 ≤ (c.cap.get j).toNat) ∧ (∀ j, (c.off.get j).toNat = 4 * capSum c (linesBefore j)) ∧
    c.memReq.toNat = 4 * capSum c revLines

/-- The layout of a unit's arena, where it has one. -/
def unitLayout (s : State) : UnitId → Prop
  | .delay => delayLayout s.coefs.delay
  | .reverb => reverbLayout s.coefs.reverb
  | _ => True

/-- Every write cursor of a channel is inside its line (R340). -/
def cursorsInside (s : State) (u : UnitId) (ch : Nat) : Prop :=
  match u with
  | .delay => lineCursor s (.delay ch) < lineCap s (.delay ch)
  | .reverb => ∀ j, lineCursor s (.reverb ch j) < lineCap s (.reverb ch j)
  | _ => True

/-- The window holds no fault, or one of the eleven (10_state.md R25, R26). -/
def legalWindow (w : Window) : Prop :=
  (w.status = 0 ∧ w.faultCmd = 0 ∧ w.faultInfo0 = 0 ∧ w.faultInfo1 = 0) ∨ ∃ c, w.status = statusOf c

/-- Every list of channel registers has `N_CH` entries (R44). -/
def channelCounts (s : State) : Prop :=
  (∀ u, (s.valid.get u).length = s.hw.nCh) ∧ s.binds.delay.length = s.hw.nCh ∧ s.binds.reverb.length = s.hw.nCh ∧
    s.chans.onepole.length = s.hw.nCh ∧ s.chans.mm1.length = s.hw.nCh ∧ s.chans.mm2.length = s.hw.nCh ∧
    s.chans.hp1.length = s.hw.nCh ∧ s.chans.ls1.length = s.hw.nCh ∧ s.chans.ls2.length = s.hw.nCh ∧
    s.chans.ap2.length = s.hw.nCh ∧ s.chans.peak.length = s.hw.nCh ∧ s.chans.delay.length = s.hw.nCh ∧
    s.chans.reverb.length = s.hw.nCh

/-- What a unit's lifecycle says of its common registers (R30 to R33): the generation counter and the sample rate are
0 before SET_SR, and a sample rate that SET_SR accepts is held from then on. -/
def lifeRegs (r : UnitRegs) (u : UnitId) : Prop :=
  r.dirty &&& ~~~allDirty u = 0 ∧
    match r.life with
    | .uninit => r.gen = 0 ∧ r.fs = 0 ∧ r.dirty = 0
    | .inited => r.gen = 0 ∧ r.fs = 0
    | _ => isFinite r.fs = true ∧ fLe fsMin r.fs = true

/-- A channel's flags agree with its unit's lifecycle and, for the units with memory, with the binding (R35, R36; 20_memory.md
R85, R86; 40_protocol.md R151). -/
def channelFlags (s : State) (u : UnitId) (ch : Nat) : Prop :=
  (s.stValid u ch = true → lifeSrSet (s.regs.get u).life = true ∧
    (hasMemory u = true → (s.regs.get u).life = .ready ∧ (s.binding u ch).bound = true ∧ cursorsInside s u ch)) ∧
  ((s.binding u ch).bound = true → lifeSrSet (s.regs.get u).life = true ∧ aligned4 (s.binding u ch).base = true ∧
    (s.binding u ch).base.toNat + (s.memReq u).toNat ≤ 2 ^ 32)

/-- A tap of REV_TABLE reads below its line's length (93_implementation_defined.md, section 4). -/
def tapInside (t : RevTable) (p : RevTap) : Prop := p.pos < t.length.get p.line

/-- A REV_TABLE the rules admit (R371; 93_implementation_defined.md, section 4): the predelay line has no length, every
tap reads below its line's length, no length passes 2^19, so that every capacity stays below 2^24 as R375 says, and the
two modulated lines have at least 64 samples, so that their reads are legal as R382 says. The two bounds are the model's
(notes/assumptions/7). -/
def tableLegal (t : RevTable) : Prop :=
  t.length.pd = 0 ∧ (∀ j, t.length.get j ≤ 2 ^ 19) ∧ 64 ≤ t.length.dd1 ∧ 64 ≤ t.length.dd3 ∧
    ∀ k, tapInside t (t.tapL.get k) ∧ tapInside t (t.tapR.get k)

/-- The parameters of the block are in their ranges (00_scope.md R6). -/
def hardwareLegal (hw : Hardware) : Prop :=
  1 ≤ hw.nCh ∧ hw.nCh ≤ 64 ∧ hw.base % 64 = 0 ∧ tableLegal hw.revTable

/-- The invariant every step keeps. -/
def Inv (s : State) : Prop :=
  hardwareLegal s.hw ∧ Memory.wf s.mem = true ∧ channelCounts s ∧ legalWindow s.win ∧
    (∀ u, lifeRegs (s.regs.get u) u) ∧ (∀ u, lifeSrSet (s.regs.get u).life = true → unitLayout s u) ∧
    ∀ u ch, channelFlags s u ch

/-- Every parameter register holds a value its setter accepts, from INIT on (the setters of 41 to 45). -/
def legalParams (s : State) : Prop :=
  (s.regs.onepole.life ≠ .uninit → okCutoff s.coefs.onepole.cutoffUp = true ∧
    okCutoff s.coefs.onepole.cutoffDown = true ∧ okNonneg s.coefs.onepole.stickyThresh = true) ∧
  okFlag s.coefs.onepole.stickyMode = true ∧
  (s.regs.mm1.life ≠ .uninit → okNonneg s.coefs.mm1.cutoff = true ∧ okPositive s.coefs.mm1.prewarpFreq = true ∧
    isFinite s.coefs.mm1.coeffX = true ∧ isFinite s.coefs.mm1.coeffLp = true) ∧
  okFlag s.coefs.mm1.prewarpAtCutoff = true ∧
  (s.regs.mm2.life ≠ .uninit → okNonneg s.coefs.mm2.cutoff = true ∧ isFinite s.coefs.mm2.q = true ∧
    okPositive s.coefs.mm2.prewarpFreq = true ∧ isFinite s.coefs.mm2.coeffX = true ∧
    isFinite s.coefs.mm2.coeffLp = true ∧ isFinite s.coefs.mm2.coeffBp = true ∧ isFinite s.coefs.mm2.coeffHp = true) ∧
  okFlag s.coefs.mm2.prewarpAtCutoff = true ∧
  (s.regs.hp1.life ≠ .uninit → okNonneg s.coefs.hp1.cutoff = true ∧ okPositive s.coefs.hp1.prewarpFreq = true) ∧
  okFlag s.coefs.hp1.prewarpAtCutoff = true ∧
  (s.regs.ls1.life ≠ .uninit → okPositive s.coefs.ls1.cutoff = true ∧ okPositive s.coefs.ls1.dcGainLin = true ∧
    okDb s.coefs.ls1.dcGainDb = true ∧ okPositive s.coefs.ls1.prewarpFreq = true) ∧
  okFlag s.coefs.ls1.prewarpAtCutoff = true ∧ okFlag s.coefs.ls1.gainIsDb = true ∧
  (s.regs.ls2.life ≠ .uninit → okPositive s.coefs.ls2.cutoff = true ∧ isFinite s.coefs.ls2.q = true ∧
    okPositive s.coefs.ls2.dcGainLin = true ∧ okDb s.coefs.ls2.dcGainDb = true ∧
    okPositive s.coefs.ls2.prewarpFreq = true) ∧
  okFlag s.coefs.ls2.prewarpAtCutoff = true ∧ okFlag s.coefs.ls2.gainIsDb = true ∧
  (s.regs.ap2.life ≠ .uninit → okNonneg s.coefs.ap2.cutoff = true ∧ isFinite s.coefs.ap2.q = true ∧
    okPositive s.coefs.ap2.prewarpFreq = true) ∧
  okFlag s.coefs.ap2.prewarpAtCutoff = true ∧
  (s.regs.peak.life ≠ .uninit → okNonneg s.coefs.peak.cutoff = true ∧ isFinite s.coefs.peak.q = true ∧
    okPositive s.coefs.peak.peakGainLin = true ∧ okDb s.coefs.peak.peakGainDb = true ∧
    okPositive s.coefs.peak.bandwidth = true ∧ okPositive s.coefs.peak.prewarpFreq = true) ∧
  okFlag s.coefs.peak.useBandwidth = true ∧ okFlag s.coefs.peak.prewarpAtCutoff = true ∧
  okFlag s.coefs.peak.gainIsDb = true ∧
  (s.regs.delay.life ≠ .uninit → okNonneg s.coefs.delay.delay = true ∧ okNonneg s.coefs.delay.maxDelay = true) ∧
  (s.regs.reverb.life ≠ .uninit → okPredelay s.coefs.reverb.predelay = true ∧
    okCutoff s.coefs.reverb.bandwidth = true ∧ okCutoff s.coefs.reverb.damping = true ∧
    okDecay s.coefs.reverb.decay = true)

/-! ### Safe steps -/

/-- The platform has only ordinary memory and bus errors: no location with side effects (20_memory.md R87). -/
def noSideEffects (s : State) : Prop := ∀ r ∈ s.hw.regions, r.kind ≠ .sideEffect

/-- The host's next access is a block reset: the reset input, or a store to CTRL with SOFT_RESET set
(70_reset_and_hazards.md R470). -/
def resetNext (s : State) : Prop :=
  ∃ rest, s.inbox = .resetInput :: rest ∨
    ∃ w : Word, w.getLsbD 0 = true ∧ s.inbox = .store (s.hw.base + 0x14) .word w :: rest

/-- Ordinary memory answers every access to `len` bytes from `lo` on. -/
def ordinary (s : State) (lo len : Nat) : Prop := regionAt s.hw.regions lo len = none

/-! ### Legal values, written over the encoded numbers -/

/-- `v >= 0 or v == +inf`; NaN fails (41_one_pole.md R220). -/
def cutoffLegal (v : F32) : Prop := isNaN v = false ∧ 0 ≤ scaled v

/-- Finite (42_svf.md R253). -/
def finiteLegal (v : F32) : Prop := isFinite v = true

/-- Finite and not negative (R252). -/
def nonnegLegal (v : F32) : Prop := isFinite v = true ∧ 0 ≤ scaled v

/-- Finite and positive (R255). -/
def positiveLegal (v : F32) : Prop := isFinite v = true ∧ 0 < scaled v

/-- 0 or 1 (R254). -/
def flagLegal (w : Word) : Prop := w = 0 ∨ w = 1

/-- Within ±600 dB (43_eq.md R295); a value is `scaled v` units of 2^-149 (00_scope.md R9). -/
def dbLegal (v : F32) : Prop := isNaN v = false ∧ -(600 * 2 ^ 149) ≤ scaled v ∧ scaled v ≤ 600 * 2 ^ 149

/-- Within [0, 0.1] s (45_reverb.md R394). -/
def predelayLegal (v : F32) : Prop := isNaN v = false ∧ 0 ≤ scaled v ∧ scaled v ≤ scaled 0x3DCCCCCD#32

/-- Within [0, 1) (R397). -/
def decayLegal (v : F32) : Prop := isNaN v = false ∧ 0 ≤ scaled v ∧ scaled v < 2 ^ 149

/-- A sample rate: finite and at least 1 Hz (40_protocol.md R143). -/
def rateLegal (fs : F32) : Prop := isFinite fs = true ∧ 2 ^ 149 ≤ scaled fs

/-- A sample rate of REVERB: 1000 Hz to 768000 Hz (R143). -/
def reverbRateLegal (fs : F32) : Prop :=
  isFinite fs = true ∧ 1000 * 2 ^ 149 ≤ scaled fs ∧ scaled fs ≤ 768000 * 2 ^ 149

/-- A lifecycle SET_PARAM and SET_SR accept (R141). -/
def isInited (l : Life) : Prop := l = .inited ∨ l = .srSet ∨ l = .ready

/-- The rule of one SET_PARAM setter (R149): its command word; with a legal operand, the parameter registers it writes and
the DIRTY bits it marks, everything else as it was; with any other operand, PARAM_RANGE and nothing else. -/
def SetterRule (i : Instr) (word : Word) (u : UnitId) (ok : Word → Prop) (bits : Word)
    (put : Word → Coefs → Coefs) : Prop :=
  encode i = word ∧ ∀ s : State, isInited (s.regs.get u).life →
    (ok s.win.arg0 → exec i s = .next { s with
      coefs := put s.win.arg0 s.coefs
      regs := s.regs.set u { s.regs.get u with dirty := (s.regs.get u).dirty ||| bits } }) ∧
    (¬ok s.win.arg0 → exec i s = .next { s with win := { s.win with
      status := 0x00000601#32, faultCmd := word, faultInfo0 := s.win.arg0, faultInfo1 := 0 } })

/-! ### Channels, buffers and arenas -/

/-- A channel that PROCESS1 admits (R141): its unit READY, the channel one of `N_CH`, bound where it has memory, valid. -/
def admitted (s : State) (u : UnitId) (ch : Nat) : Prop :=
  (s.regs.get u).life = .ready ∧ ch < s.hw.nCh ∧ (hasMemory u = true → (s.binding u ch).bound = true) ∧
    s.stValid u ch = true

/-- The first byte of a channel's arena (20_memory.md R92). -/
def arenaBase (s : State) (u : UnitId) (ch : Nat) : Nat := (s.binding u ch).base.toNat

/-- The bytes of an arena of a unit (R92): 0 where the unit has none. -/
def arenaSize (s : State) (u : UnitId) : Nat := (s.memReq u).toNat

/-- A buffer of `n` words that a batched command accepts and ordinary memory backs (R85, R86, R81). -/
def bufferPlain (s : State) (b : Word) (n : Nat) : Prop :=
  b.toNat % 4 = 0 ∧ b.toNat + 4 * n ≤ 2 ^ 32 ∧ ordinary s b.toNat (4 * n)

/-- No word of input buffer `b` is overwritten through output buffer `c` before its own sample is read (R156). -/
def readBeforeWritten (b c : Word) (n : Nat) : Prop :=
  ∀ i j, j < i → i < n → b.toNat + 4 * i ≠ c.toNat + 4 * j

/-- A buffer of `n` words does not meet a channel's arena. -/
def clearOfArena (s : State) (u : UnitId) (ch : Nat) (b : Word) (n : Nat) : Prop :=
  b.toNat + 4 * n ≤ arenaBase s u ch ∨ arenaBase s u ch + arenaSize s u ≤ b.toNat

/-- The words of an input buffer are finite samples. -/
def samplesFinite (s : State) (b : Word) (n : Nat) : Prop :=
  ∀ i, i < n → isFinite (readWord s.mem (b.toNat + 4 * i)) = true

/-- Entry `c` of a pointer table (R157). -/
def tableEntry (s : State) (table : Word) (c : Nat) : Word := readWord s.mem (table.toNat + 4 * c)

/-- The window with another sample count in PROCESS_MULTI's count operand (R157). -/
def withMultiCount (u : UnitId) (w : Window) (n : Word) : Window :=
  match u with
  | .reverb => { w with arg5 := n }
  | _ => { w with arg3 := n }

/-- The window with another sample count in PROCESS's count operand (R156). -/
def withCount (u : UnitId) (w : Window) (n : Word) : Window :=
  match u with
  | .reverb => { w with arg4 := n }
  | _ => { w with arg2 := n }

/-! ### What a host's own loop comes to (R153, R156, R157) -/

/-- How a host's loop over samples ends. -/
inductive LoopEnd where
  /-- Every sample is done. -/
  | done (s : State)
  /-- Sample `i` met a fault, this being STATUS and FAULT_INFO0 after it, with the state as it stands there. -/
  | fault (status info0 : Word) (i : Nat) (s : State)

/-- A channel of a batched command: its number, its input buffers and its output buffers. -/
structure Lane where
  ch : BitVec 6
  ins : List Word
  outs : List Word

/-- Whether the bus answers an access to the word at an address with an error (20_memory.md R81). -/
abbrev busFails (s : State) (a : Nat) : Prop := regionAt s.hw.regions a 4 = some .busError

/-- The address of the first word of a list of addresses that the bus answers with an error. -/
def firstFailing (s : State) (as : List Nat) : Option Nat :=
  as.find? fun a => decide (regionAt s.hw.regions a 4 = some .busError)

/-- The addresses of the input words of sample `i`, in the order they are loaded: channel by channel. -/
def laneLoads (lanes : List Lane) (i : Nat) : List Nat := lanes.flatMap fun l => l.ins.map fun b => b.toNat + 4 * i

/-- The input words of sample `i` of a channel, in the memory of a state. -/
def laneSamples (s : State) (i : Nat) (l : Lane) : List F32 := l.ins.map fun b => readWord s.mem (b.toNat + 4 * i)

/-- The window with the samples of a PROCESS1 in its operands (R148). -/
def withSamples (w : Window) : List F32 → Window
  | [] => w
  | [x] => { w with arg0 := x }
  | xl :: xr :: _ => { w with arg0 := xl, arg1 := xr }

/-- The stores of results at index `i` of a list of buffers, in order, up to one that the bus answers with an error. -/
def hostStores (i : Nat) : List Word → List F32 → State → LoopEnd
  | b :: bs, y :: ys, s =>
    if regionAt s.hw.regions (b.toNat + 4 * i) 4 = some .busError then
      .fault (statusOf .busError) (BitVec.ofNat 32 (b.toNat + 4 * i)) i s
    else hostStores i bs ys { s with mem := writeWord s.mem (b.toNat + 4 * i) y }
  | _, _, s => .done s

/-- A host's PROCESS1 of each channel of a list with its samples, and the stores of RES0 and RES1 after each (R157's
inner loop). -/
def hostChannels (u : UnitId) (i : Nat) : List (Lane × List F32) → State → Option LoopEnd
  | [], s => some (.done s)
  | (l, xs) :: rest, s =>
    match exec (process1Of u l.ch) { s with win := withSamples s.win xs } with
    | .next t =>
      if statusFault t.win.status then some (.fault t.win.status t.win.faultInfo0 i t)
      else match hostStores i l.outs [t.win.res0, t.win.res1] t with
        | .done t' => hostChannels u i rest t'
        | e => some e
    | _ => none

/-- Sample `i` of a host's loop (R156, R157): every channel's input words are loaded, then all of them tested, then
UPDATE_AUDIO runs once, then each channel is processed and stored in turn. A load that the bus answers with an error ends
the sample before the rest (notes/assumptions/20). -/
def hostSample (u : UnitId) (lanes : List Lane) (i : Nat) (s : State) : Option LoopEnd :=
  match firstFailing s (laneLoads lanes i) with
  | some a => some (.fault (statusOf .busError) (BitVec.ofNat 32 a) i s)
  | none =>
    match (lanes.flatMap (laneSamples s i)).find? fun v => !isFinite v with
    | some v => some (.fault (statusOf .nonfinite) v i s)
    | none =>
      match exec (updateAudioOf u) s with
      | .next t => hostChannels u i (lanes.map fun l => (l, laneSamples s i l)) t
      | _ => none

/-- A host's loop over `k` samples from sample `i` on. -/
def hostLoop (u : UnitId) (lanes : List Lane) (i : Nat) : Nat → State → Option LoopEnd
  | 0, s => some (.done s)
  | k + 1, s =>
    match hostSample u lanes i s with
    | some (.done t) => hostLoop u lanes (i + 1) k t
    | e => e

/-- The state a batched command ends in where the host's loop ends so: the window is the one it started from, but for a
fault's entry with the sample's index in FAULT_INFO1 (60_exceptions.md R440). -/
def LoopEnd.finish (w : Window) (cmd : Word) : LoopEnd → State
  | .done s => { s with win := w }
  | .fault status info0 i s =>
    { s with win := { w with status := status, faultCmd := cmd, faultInfo0 := info0, faultInfo1 := BitVec.ofNat 32 i } }

/-- The one channel of a PROCESS. -/
def processLane (u : UnitId) (ch : BitVec 6) (w : Window) : Lane := ⟨ch, inArgs u w, outArgs u w⟩

/-- The channels of a PROCESS_MULTI, 0 to n_channels - 1, with the buffers its tables name. -/
def multiLanes (u : UnitId) (s : State) : List Lane :=
  (List.range (multiM u s.win).toNat).map fun c =>
    ⟨BitVec.ofNat 6 c, (inArgs u s.win).map fun T => tableEntry s T c, (outArgs u s.win).map fun T => tableEntry s T c⟩

/-- A buffer or table of `n` words that passes a batched command's operand checks (R85, R86). -/
def bufferLegal (n : Nat) (b : Word) : Prop := b.toNat % 4 = 0 ∧ b.toNat + 4 * n ≤ 2 ^ 32

/-- The addresses of the entries of a PROCESS_MULTI's tables, in the order they are read (R157). -/
def tableReads (u : UnitId) (w : Window) : List Nat :=
  (inArgs u w ++ outArgs u w).flatMap fun T => (List.range (multiM u w).toNat).map fun c => T.toNat + 4 * c

/-- The pointers of a PROCESS_MULTI's tables, in the order they are checked (R157). -/
def tablePointers (u : UnitId) (s : State) : List Word :=
  (inArgs u s.win ++ outArgs u s.win).flatMap fun T =>
    (List.range (multiM u s.win).toNat).map fun c => tableEntry s T c

/-- What the checks of a PROCESS_MULTI ask of the state before any table is read (R157). -/
def multiAdmitted (s : State) (u : UnitId) : Prop :=
  (s.regs.get u).life = .ready ∧ (multiM u s.win).toNat ≤ s.hw.nCh ∧
    ∀ c, c < (multiM u s.win).toNat → admitted s u c

/-- What they ask of its tables and their pointers: every table passes its checks, no entry is answered with an error,
and every pointer passes. -/
def multiOperands (s : State) (u : UnitId) : Prop :=
  (∀ T ∈ inArgs u s.win ++ outArgs u s.win, bufferLegal (multiM u s.win).toNat T) ∧
    (∀ a ∈ tableReads u s.win, ¬busFails s a) ∧ ∀ b ∈ tablePointers u s, bufferLegal (multiN u s.win) b

/-- A host's DELAY_WRITE of each sample of a list, in order. -/
def delayWrites (ch : BitVec 6) : List F32 → State → Option State
  | [], s => some s
  | x :: xs, s =>
    match exec (.delayWriteDelay ch) { s with win := { s.win with arg0 := x } } with
    | .next t => delayWrites ch xs t
    | _ => none

/-! ### A derived filter's inner unit (43_eq.md R280) -/

/-- The state in which unit MM1 is what the inner core of a derived unit is: its bank, its channels, its flags. -/
def asMm1 (s : State) (u : UnitId) (bank : Mm1Bank) (chans : List Mm1State) : State :=
  { s with
    coefs := { s.coefs with mm1 := bank }
    chans := { s.chans with mm1 := chans }
    regs := s.regs.set .mm1 (s.regs.get u)
    valid := s.valid.set .mm1 (s.valid.get u) }

/-- The state in which unit MM2 is what the inner core of a derived unit is. -/
def asMm2 (s : State) (u : UnitId) (bank : Mm2Bank) (chans : List Mm2State) : State :=
  { s with
    coefs := { s.coefs with mm2 := bank }
    chans := { s.chans with mm2 := chans }
    regs := s.regs.set .mm2 (s.regs.get u)
    valid := s.valid.set .mm2 (s.valid.get u) }

/-- Unit MM1, READY, holding a bank with every DIRTY bit set. -/
def staleMm1 (s : State) (bank : Mm1Bank) : State :=
  { s with
    coefs := { s.coefs with mm1 := bank }
    regs := s.regs.set .mm1 { s.regs.get .mm1 with life := .ready, dirty := 0b111 } }

/-- Unit MM2, READY, holding a bank with every DIRTY bit set. -/
def staleMm2 (s : State) (bank : Mm2Bank) : State :=
  { s with
    coefs := { s.coefs with mm2 := bank }
    regs := s.regs.set .mm2 { s.regs.get .mm2 with life := .ready, dirty := 0b1111 } }

/-! ### One sample of the reverb, as equations over the words before it (45_reverb.md R390 to R392) -/

/-- The word of a line at recency `d`, in the memory of a state. -/
def lineWord (s : State) (ch : Nat) (j : RevLine) (d : Nat) : F32 :=
  readWord s.mem (lineBase s (.reverb ch j) + 4 * lineIndex s (.reverb ch j) d)

/-- The value of a line at recency `d` and fraction `f` (44_delay.md R342). -/
def lineValue (s : State) (ch : Nat) (j : RevLine) (d : Nat) (f : F32) : F32 :=
  if fEq f 0#32 then lineWord s ch j d
  else fAdd (lineWord s ch j d) (fMul f (fSub (lineWord s ch j (d + 1)) (lineWord s ch j d)))

/-- The address of the word a line's next write stores to. -/
def lineNext (s : State) (ch : Nat) (j : RevLine) : Nat := lineBase s (.reverb ch j) + 4 * lineCursor s (.reverb ch j)

/-- An output from the seven taps' values (R391): their sum in order, each with its sign in REV_TABLE, times 0.6. -/
def tapMix (v : RevLine → Nat → F32) (tap : PerTap RevTap) (k : PerTap Word) : F32 :=
  let value := fun x => v (tap.get x).line (k.get x).toNat
  let then_ := fun acc x => if (tap.get x).plus = true then fAdd acc (value x) else fSub acc (value x)
  let first := if tap.t0.plus = true then value .t0 else fNeg (value .t0)
  fMul 0x3F19999A#32 (then_ (then_ (then_ (then_ (then_ (then_ first .t1) .t2) .t3) .t4) .t5) .t6)

/-- The one-pole step in the words of 41_one_pole.md R214. -/
def onePoleOf (a yp x : F32) : F32 :=
  if fEq a 0x3F800000#32 then yp else if fEq a 0#32 then x else fAdd x (fMul a (fSub yp x))

/-- What an allpass writes for input `u`, gain `g` and delayed value `z` (R372). -/
def allpassWrites (u g z : F32) : F32 := fSub u (fMul g z)

/-- What an allpass answers for input `u`, gain `g` and delayed value `z` (R372). -/
def allpassAnswers (u g z : F32) : F32 := fAdd z (fMul g (allpassWrites u g z))

/-- What one REVERB sample writes: a word to each line, and the three filter states. -/
structure ReverbSample where
  /-- The word each line receives. -/
  word : PerLine F32
  /-- BW_Z1 after the sample. -/
  bw : F32
  /-- DL_Z1 after the sample. -/
  dl : F32
  /-- DR_Z1 after the sample. -/
  dr : F32

/-- One REVERB sample (R392), every delayed value taken from the memory before it; the predelay line alone is read after
its own write. -/
def reverbSampleOf (s : State) (ch : Nat) (xl xr : F32) : ReverbSample :=
  let c := s.coefs.reverb
  let st := s.chans.reverb.getD ch {}
  let at_ := fun j => lineWord s ch j (c.n.get j).toNat
  let i := fMul 0x3F000000#32 (fAdd xl xr)
  let p := if c.pdN.toNat % (c.cap.get .pd).toNat = 0 then i else lineWord s ch .pd c.pdN.toNat
  let b := onePoleOf c.aBw st.bwZ1 p
  let u1 := allpassAnswers b 0x3F400000#32 (at_ .id1)
  let u2 := allpassAnswers u1 0x3F400000#32 (at_ .id2)
  let u3 := allpassAnswers u2 0x3F200000#32 (at_ .id3)
  let u4 := allpassAnswers u3 0x3F200000#32 (at_ .id4)
  let inL := fAdd u4 (fMul c.decayG (at_ .dlR2))
  let zL := lineValue s ch .dd1 c.di1.toNat c.df1
  let dl := onePoleOf c.aDamp st.dlZ1 (at_ .dlL1)
  let gL := fMul c.decayG dl
  let inR := fAdd u4 (fMul c.decayG (at_ .dlL2))
  let zR := lineValue s ch .dd3 c.di3.toNat c.df3
  let dr := onePoleOf c.aDamp st.drZ1 (at_ .dlR1)
  let gR := fMul c.decayG dr
  { word :=
      { pd := i
        id1 := allpassWrites b 0x3F400000#32 (at_ .id1)
        id2 := allpassWrites u1 0x3F400000#32 (at_ .id2)
        id3 := allpassWrites u2 0x3F200000#32 (at_ .id3)
        id4 := allpassWrites u3 0x3F200000#32 (at_ .id4)
        dd1 := allpassWrites inL 0xBF333333#32 zL
        dlL1 := allpassAnswers inL 0xBF333333#32 zL
        dd2 := allpassWrites gL c.dd2G (at_ .dd2)
        dlL2 := allpassAnswers gL c.dd2G (at_ .dd2)
        dd3 := allpassWrites inR 0xBF333333#32 zR
        dlR1 := allpassAnswers inR 0xBF333333#32 zR
        dd4 := allpassWrites gR c.dd2G (at_ .dd4)
        dlR2 := allpassAnswers gR c.dd2G (at_ .dd4) }
    bw := b
    dl := dl
    dr := dr }

/-- The word RESET_STATE fills each line with (R390), for the inputs `xl0` and `xr0`. -/
def reverbSeed (c : ReverbCoefs) (xl0 xr0 : F32) : PerLine F32 :=
  let i0 := fMul 0x3F000000#32 (fAdd xl0 xr0)
  let tin := fDiv i0 (fSub 0x3F800000#32 (fMul c.decayG c.decayG))
  let e := fMul c.decayG tin
  { pd := i0
    id1 := fDiv i0 (fAdd 0x3F800000#32 0x3F400000#32)
    id2 := fDiv i0 (fAdd 0x3F800000#32 0x3F400000#32)
    id3 := fDiv i0 (fAdd 0x3F800000#32 0x3F200000#32)
    id4 := fDiv i0 (fAdd 0x3F800000#32 0x3F200000#32)
    dd1 := fDiv tin (fAdd 0x3F800000#32 0xBF333333#32)
    dlL1 := tin
    dd2 := fDiv e (fAdd 0x3F800000#32 c.dd2G)
    dlL2 := e
    dd3 := fDiv tin (fAdd 0x3F800000#32 0xBF333333#32)
    dlR1 := tin
    dd4 := fDiv e (fAdd 0x3F800000#32 c.dd2G)
    dlR2 := e }

/-! ### A REVERB command ended part-way by the bus (R390, R392, R393; 60_exceptions.md R440) -/

/-- The state registers of a REVERB channel after RESET_STATE has filled the lines before line j (R390). -/
def seedBefore (v : PerLine F32) (st : ReverbState) (j : RevLine) : ReverbState where
  bwZ1 := if .pd ∈ linesBefore j then v.pd else st.bwZ1
  dlZ1 := if .dlL1 ∈ linesBefore j then v.dlL1 else st.dlZ1
  drZ1 := if .dlR1 ∈ linesBefore j then v.dlR1 else st.drZ1
  w := PerLine.of fun l => if l ∈ linesBefore j then 0 else st.w.get l

/-- The address of the word of a line at recency index `d`. -/
def lineAt (s : State) (ch : Nat) (j : RevLine) (d : Nat) : Nat :=
  lineBase s (.reverb ch j) + 4 * lineIndex s (.reverb ch j) d

/-- The addresses one REVERB sample accesses, in the order of R393, each with how many of the sample's stages are
complete before it: 1 the predelay line's write, 2 the bandwidth filter, 3 to 13 the lines ID1 to DD4 with the damping
filter that follows DL_L1 and DL_R1. The predelay line is read after its own write, so one word less far back. -/
def reverbAccesses (s : State) (ch : Nat) : List (Nat × Nat) :=
  let c := s.coefs.reverb
  let taps : PerTap RevTap → PerTap Word → List (Nat × Nat) := fun tap k =>
    tapOrder.map fun x => (lineAt s ch (tap.get x).line (k.get x).toNat, 0)
  let whole : RevLine → Nat → List (Nat × Nat) := fun j n =>
    [(lineAt s ch j (c.n.get j).toNat, n), (lineNext s ch j, n)]
  let modulated : RevLine → Word → F32 → Nat → List (Nat × Nat) := fun j di df n =>
    [(lineAt s ch j di.toNat, n)] ++ (if fEq df 0#32 then [] else [(lineAt s ch j (di.toNat + 1), n)]) ++
      [(lineNext s ch j, n)]
  taps s.hw.revTable.tapL c.tapLK ++ taps s.hw.revTable.tapR c.tapRK ++
    [(lineAt s ch .dlL2 c.n.dlL2.toNat, 0), (lineAt s ch .dlR2 c.n.dlR2.toNat, 0)] ++
    [(lineNext s ch .pd, 0), (lineAt s ch .pd c.pdN.toNat, 1)] ++
    whole .id1 2 ++ whole .id2 3 ++ whole .id3 4 ++ whole .id4 5 ++
    modulated .dd1 c.di1 c.df1 6 ++ whole .dlL1 7 ++ whole .dd2 8 ++ [(lineNext s ch .dlL2, 9)] ++
    modulated .dd3 c.di3 c.df3 10 ++ whole .dlR1 11 ++ whole .dd4 12 ++ [(lineNext s ch .dlR2, 13)]

/-- The lines whose words are written once so many stages of a sample are complete. -/
def linesWritten (stages : Nat) : List RevLine := revLines.take (if stages ≤ 1 then stages else stages - 1)

/-- The state registers of a REVERB channel once so many stages of a sample are complete. -/
def sampleBefore (s : State) (ch : Nat) (r : ReverbSample) (stages : Nat) : ReverbState where
  bwZ1 := if 2 ≤ stages then r.bw else (s.chans.reverb.getD ch {}).bwZ1
  dlZ1 := if 8 ≤ stages then r.dl else (s.chans.reverb.getD ch {}).dlZ1
  drZ1 := if 12 ≤ stages then r.dr else (s.chans.reverb.getD ch {}).drZ1
  w := PerLine.of fun j =>
    if j ∈ linesWritten stages then
      BitVec.ofNat 32 ((lineCursor s (.reverb ch j) + 1) % lineCap s (.reverb ch j))
    else (s.chans.reverb.getD ch {}).w.get j

end Sys2Proof.Machine
end

