-- ==== Sys2Proof/Certificates/Slice0/Obligations.lean ====
section
/-! DEFINITION. The statements for the provers. Each docstring names the rule of spec/ it says, or that it is derived. A
store to the register window is `.store <address> .word <word>`, its address BASE (`s.hw.base`) and the register's
offset; `statusOf c` is STATUS after fault `c`. -/

open Sys2Proof Sys2Proof.Machine

/-! ### Encoding (30_encoding.md) -/

/-- Derived from R111 and R118: decoding the word of a command gives the command back, whatever its channel. -/
def Obligations.DecodeOfEncode : Prop :=
  ∀ i : Instr, decode (encode i) = .ok i

/-- Derived from R111 and R118: a word that decodes to a command is that command's one word. -/
def Obligations.EncodeOfDecode : Prop :=
  ∀ (w : Word) (i : Instr), decode w = .ok i → encode i = w

/-- R116: which words are legal, item by item, and what an illegal one does. The registers of items 7 and 8 are those
the register tables of 10_state.md hold (`coefReg`, `stateReg`), not the decoder's. -/
def Obligations.LegalWords : Prop :=
  (∀ w : Word, (∃ i, decode w = .ok i) ↔
    ((unpackCmd w).zero = 0 ∧ (unpackCmd w).opc.toNat ≤ 0x10 ∧ (unpackCmd w).unit.toNat ≤ 9 ∧
      unitAccepted (unpackCmd w).opc (unpackCmd w).unit ∧
      ((unpackCmd w).opc ∉ [0x04#6, 0x07#6, 0x08#6, 0x0C#6, 0x0D#6, 0x0E#6, 0x10#6] → (unpackCmd w).ch = 0) ∧
      ((unpackCmd w).opc ∉ [0x0A#6, 0x0F#6, 0x10#6] → (unpackCmd w).sel = 0) ∧
      ((unpackCmd w).opc = 0x0A#6 → (unpackCmd w).sel.toNat < paramCount (unpackCmd w).unit) ∧
      ((unpackCmd w).opc = 0x0F#6 → ∃ u, unitOfNumber (unpackCmd w).unit = some u ∧
        (coefReg State.reset u (unpackCmd w).sel).isSome = true) ∧
      ((unpackCmd w).opc = 0x10#6 → ∃ u, unitOfNumber (unpackCmd w).unit = some u ∧
        (stateReg State.reset u 0 (unpackCmd w).sel).isSome = true))) ∧
  ∀ (s : State) (w : Word) (rest : List HostEvent), (¬∃ i, decode w = .ok i) → statusFault s.win.status = false →
    step { s with inbox := .store s.hw.base .word w :: rest } =
      .next { s with
        inbox := rest, reply := .stored
        win := { s.win with status := 0x00000101#32, faultCmd := w, faultInfo0 := 0, faultInfo1 := 0 } }

/-- Derived from R111 to R113: a few words written out field by field (OPC, UNIT, CH, SEL, ZERO) decode to the
commands they stand for. -/
def Obligations.WrittenWordsDecode : Prop :=
  decode (0b000000#6 ++ 0b0000#4 ++ 0b000000#6 ++ 0x00#8 ++ 0x00#8) = .ok .nop ∧
  decode (0b000001#6 ++ 0b1000#4 ++ 0b000000#6 ++ 0x00#8 ++ 0x00#8) = .ok .initDelay ∧
  decode (0b000100#6 ++ 0b0101#4 ++ 0b000011#6 ++ 0x00#8 ++ 0x00#8) = .ok (.resetStateLs2 3) ∧
  decode (0b000111#6 ++ 0b1001#4 ++ 0b111111#6 ++ 0x00#8 ++ 0x00#8) = .ok (.process1Reverb 63) ∧
  decode (0b001010#6 ++ 0b0111#4 ++ 0b000000#6 ++ 0x05#8 ++ 0x00#8) = .ok .setParamPeakUseBandwidth ∧
  decode (0b001100#6 ++ 0b1000#4 ++ 0b000001#6 ++ 0x00#8 ++ 0x00#8) = .ok (.memSetDelay 1) ∧
  decode (0b001111#6 ++ 0b0010#4 ++ 0b000000#6 ++ 0x44#8 ++ 0x00#8) = .ok .readCoefMm2HpD ∧
  decode (0b010000#6 ++ 0b0000#4 ++ 0b000010#6 ++ 0xF0#8 ++ 0x00#8) = .ok (.readStateOnepoleStValid 2)

/-! ### The register window and the step (10_state.md, 20_memory.md) -/

/-- R29: a host write to CMD runs the command it names, unless the block is faulted, when it has no effect; and CMD
reads 0. `withFetchWord` is such a write. -/
def Obligations.CmdWriteRunsCommand : Prop :=
  (∀ (s : State) (w : Word) (rest : List HostEvent) (i : Instr), decode w = .ok i →
    statusFault s.win.status = false →
    step { s with inbox := .store s.hw.base .word w :: rest } = exec i { s with inbox := rest, reply := .stored }) ∧
  (∀ (s : State) (w : Word) (rest : List HostEvent), statusFault s.win.status = true →
    step { s with inbox := .store s.hw.base .word w :: rest } = .next { s with inbox := rest, reply := .stored }) ∧
  (∀ (s : State) (rest : List HostEvent),
    step { s with inbox := .load s.hw.base .word :: rest } = .next { s with inbox := rest, reply := .data 0 }) ∧
  ∀ (s : State) (w : Word) (i : Instr), decode w = .ok i → statusFault s.win.status = false →
    step (s.withFetchWord 32 w.toNat) = exec i { s with reply := .stored }

/-- R442: while STATUS.FAULT is 1, a write to CMD has no effect, and every read, the writes to ARG0 to ARG5 and the
write to CTRL work as usual. -/
def Obligations.FaultedBlock : Prop :=
  ∀ (s : State) (w : Word) (rest : List HostEvent), statusFault s.win.status = true →
    step { s with inbox := .store s.hw.base .word w :: rest } = .next { s with inbox := rest, reply := .stored } ∧
    (∀ (a : Nat) (r : WindowReg), accessedReg s.hw.base a .word = some r →
      step { s with inbox := .load a .word :: rest } =
        .next { s with inbox := rest, reply := .data (readWindow s r) }) ∧
    step { s with inbox := .store (s.hw.base + 0x20) .word w :: rest } =
      .next { s with inbox := rest, reply := .stored, win := { s.win with arg0 := w } } ∧
    step { s with inbox := .store (s.hw.base + 0x24) .word w :: rest } =
      .next { s with inbox := rest, reply := .stored, win := { s.win with arg1 := w } } ∧
    step { s with inbox := .store (s.hw.base + 0x28) .word w :: rest } =
      .next { s with inbox := rest, reply := .stored, win := { s.win with arg2 := w } } ∧
    step { s with inbox := .store (s.hw.base + 0x2C) .word w :: rest } =
      .next { s with inbox := rest, reply := .stored, win := { s.win with arg3 := w } } ∧
    step { s with inbox := .store (s.hw.base + 0x30) .word w :: rest } =
      .next { s with inbox := rest, reply := .stored, win := { s.win with arg4 := w } } ∧
    step { s with inbox := .store (s.hw.base + 0x34) .word w :: rest } =
      .next { s with inbox := rest, reply := .stored, win := { s.win with arg5 := w } } ∧
    (w.getLsbD 0 = true →
      ∃ t, step { s with inbox := .store (s.hw.base + 0x14) .word w :: rest } = .next t ∧ t.win = {}) ∧
    (w.getLsbD 0 = false → step { s with inbox := .store (s.hw.base + 0x14) .word w :: rest } =
      .next { s with inbox := rest, reply := .stored })

/-- Derived from R22 to R28 and R88 to R90: an access that touches the window, the 64 bytes from BASE, and is not an
aligned word gets a bus error and changes no register; every register's word is read at its offset, with no effect; a
write to ARG0 to ARG5 writes that register and nothing else; a write to a read-only register, and one to CTRL with bit 0
clear, has no effect; an access that touches no byte of the window changes no register. Nothing is assumed of
STATUS.FAULT. The answers to a store and to an access elsewhere are the model's (notes/assumptions/18 and 14). -/
def Obligations.WindowAccess : Prop :=
  ∀ (s : State) (rest : List HostEvent),
    (∀ (a : Nat) (size : AccessSize) (w : Word), s.hw.base % 64 = 0 → a < s.hw.base + 64 →
      s.hw.base < a + size.bytes → size ≠ .word ∨ a % 4 ≠ 0 →
      step { s with inbox := .store a size w :: rest } = .next { s with inbox := rest, reply := .busError } ∧
      step { s with inbox := .load a size :: rest } = .next { s with inbox := rest, reply := .busError }) ∧
    (∀ p ∈ ([(0x00, 0), (0x04, s.win.status), (0x08, s.win.faultCmd), (0x0C, s.win.faultInfo0),
        (0x10, s.win.faultInfo1), (0x14, 0), (0x18, 0x42570001#32), (0x1C, BitVec.ofNat 32 s.hw.nCh),
        (0x20, s.win.arg0), (0x24, s.win.arg1), (0x28, s.win.arg2), (0x2C, s.win.arg3),
        (0x30, s.win.arg4), (0x34, s.win.arg5), (0x38, s.win.res0), (0x3C, s.win.res1)] : List (Nat × Word)),
      step { s with inbox := .load (s.hw.base + p.1) .word :: rest } =
        .next { s with inbox := rest, reply := .data p.2 }) ∧
    (∀ off ∈ [0x04, 0x08, 0x0C, 0x10, 0x18, 0x1C, 0x38, 0x3C], ∀ w : Word,
      step { s with inbox := .store (s.hw.base + off) .word w :: rest } =
        .next { s with inbox := rest, reply := .stored }) ∧
    (∀ w : Word, ∀ p ∈ ([(0x20, { s.win with arg0 := w }), (0x24, { s.win with arg1 := w }),
        (0x28, { s.win with arg2 := w }), (0x2C, { s.win with arg3 := w }), (0x30, { s.win with arg4 := w }),
        (0x34, { s.win with arg5 := w })] : List (Nat × Window)),
      step { s with inbox := .store (s.hw.base + p.1) .word w :: rest } =
        .next { s with inbox := rest, reply := .stored, win := p.2 }) ∧
    (∀ w : Word, w.getLsbD 0 = false →
      step { s with inbox := .store (s.hw.base + 0x14) .word w :: rest } =
        .next { s with inbox := rest, reply := .stored }) ∧
    ∀ (a : Nat) (size : AccessSize) (w : Word), s.hw.base + 64 ≤ a ∨ a + size.bytes ≤ s.hw.base →
      step { s with inbox := .store a size w :: rest } = .next { s with inbox := rest, reply := .elsewhere } ∧
      step { s with inbox := .load a size :: rest } = .next { s with inbox := rest, reply := .elsewhere }

/-- Derived from R82 to R84 and R95: the word stored is the word read; its byte `k` is bits [8k+7:8k]; and no other byte
changes. The same of the host's own accesses to ordinary data memory below 2^32: a store of a word or of a byte changes
exactly its bytes and no register, a load answers the little-endian word or the byte and changes nothing. That a word at
an address that is not 4-aligned is its four bytes, and that a byte is answered in the low bits of a word, is the model's
(notes/assumptions/9). -/
def Obligations.WordsAreLittleEndian : Prop :=
  (∀ (m : List Host.Cell) (a : Nat) (w : Word), Memory.wf m = true → a % 4 = 0 → a + 4 ≤ 2 ^ 32 →
    readWord (writeWord m a w) a = w ∧
    (∀ k, k < 4 → readByte (writeWord m a w) (a + k) = (w >>> (8 * k)).setWidth 8) ∧
    (∀ b, b < a ∨ a + 4 ≤ b → readByte (writeWord m a w) b = readByte m b) ∧
    Memory.wf (writeWord m a w) = true) ∧
  ∀ (s : State) (rest : List HostEvent) (a : Word), Memory.wf s.mem = true →
    (a.toNat + 4 ≤ 2 ^ 32 → ordinary s a.toNat 4 →
      (∀ w : Word, ∃ m, step { s with inbox := .memStore a w :: rest } =
          .next { s with inbox := rest, reply := .stored, mem := m } ∧
        (∀ k, k < 4 → readByte m (a.toNat + k) = (w >>> (8 * k)).setWidth 8) ∧
        (∀ b, b < a.toNat ∨ a.toNat + 4 ≤ b → readByte m b = readByte s.mem b) ∧ Memory.wf m = true) ∧
      ∃ w : Word, step { s with inbox := .memLoad a :: rest } = .next { s with inbox := rest, reply := .data w } ∧
        ∀ k, k < 4 → (w >>> (8 * k)).setWidth 8 = readByte s.mem (a.toNat + k)) ∧
    (ordinary s a.toNat 1 →
      (∀ v : Byte, ∃ m, step { s with inbox := .memStoreByte a v :: rest } =
          .next { s with inbox := rest, reply := .stored, mem := m } ∧
        readByte m a.toNat = v ∧ (∀ b, b ≠ a.toNat → readByte m b = readByte s.mem b) ∧ Memory.wf m = true) ∧
      step { s with inbox := .memLoadByte a :: rest } =
        .next { s with inbox := rest, reply := .data ((readByte s.mem a.toNat).setWidth 32) })

/-! ### Reset (70_reset_and_hazards.md) -/

/-- Derived from R470: both triggers of block reset; every register of the window and of every unit and channel reads
0, every unit is UNINIT, the instance and data memory are as they were. It holds while STATUS.FAULT is 1 too: nothing
is assumed of it. -/
def Obligations.BlockReset : Prop :=
  ∀ (s : State) (w : Word) (rest : List HostEvent), w.getLsbD 0 = true →
    ∀ e, e = .store (s.hw.base + 0x14) .word w ∨ e = .resetInput →
      ∃ t, step { s with inbox := e :: rest } = .next t ∧
        t.win = { status := 0, faultCmd := 0, faultInfo0 := 0, faultInfo1 := 0
                  arg0 := 0, arg1 := 0, arg2 := 0, arg3 := 0, arg4 := 0, arg5 := 0, res0 := 0, res1 := 0 } ∧
        (∀ u, (t.regs.get u).life = .uninit) ∧
        (∀ u sel v, coefReg t u sel = some v → v = 0) ∧
        (∀ u ch sel v, stateReg t u ch sel = some v → v = 0) ∧
        t.hw = s.hw ∧ t.inbox = rest ∧ ∀ a, readByte t.mem a = readByte s.mem a

/-- Derived from R471 and R371: the state after reset reads 0 in every register of the window, of every unit and of
every channel, no host access is pending, and REV_TABLE is the default table. (`N_CH` = 2, `BASE` = 0, ordinary memory
everywhere and the byte an unlisted address reads as are the model's choices: notes/assumptions/2, 14, 3 and 6; that the
block of State.reset takes R6's default table is 7.) -/
def Obligations.ResetState : Prop :=
  State.reset.win = {} ∧ (∀ u, State.reset.regs.get u = {}) ∧
  (∀ u sel v, coefReg State.reset u sel = some v → v = 0) ∧
  (∀ u ch sel v, stateReg State.reset u ch sel = some v → v = 0) ∧ State.reset.inbox = [] ∧
  State.reset.hw.revTable.length = { pd := 0, id1 := 142, id2 := 107, id3 := 379, id4 := 277, dd1 := 672, dlL1 := 4453
                                     dd2 := 1800, dlL2 := 3720, dd3 := 908, dlR1 := 4217, dd4 := 2656, dlR2 := 3163 } ∧
  State.reset.hw.revTable.tapL = { t0 := ⟨.dlR1, 266, true⟩, t1 := ⟨.dlR1, 2974, true⟩, t2 := ⟨.dd4, 1913, false⟩
                                   t3 := ⟨.dlR2, 1996, true⟩, t4 := ⟨.dlL1, 1990, false⟩, t5 := ⟨.dd2, 187, false⟩
                                   t6 := ⟨.dlL2, 1066, false⟩ } ∧
  State.reset.hw.revTable.tapR = { t0 := ⟨.dlL1, 353, true⟩, t1 := ⟨.dlL1, 3627, true⟩, t2 := ⟨.dd2, 1228, false⟩
                                   t3 := ⟨.dlL2, 2673, true⟩, t4 := ⟨.dlR1, 2111, false⟩, t5 := ⟨.dd4, 335, false⟩
                                   t6 := ⟨.dlR2, 121, false⟩ }

/-- The invariant holds after reset (with the model's own choices of `N_CH`, `BASE` and REV_TABLE, notes/assumptions/2,
14 and 7). -/
def Obligations.InvAtReset : Prop :=
  Inv State.reset ∧ legalParams State.reset

/-- Derived from R472: in UNINIT a unit accepts only NOP, INIT, READ_COEF and READ_STATE; every other command of it,
of a channel the block has, faults LIFECYCLE with info0 = 0 and changes nothing else. -/
def Obligations.UninitAcceptsOnlyInitAndReads : Prop :=
  ∀ (i : Instr) (u : UnitId) (s : State), unitOfInstr i = some u → (s.regs.get u).life = .uninit →
    i.wellFormed s.hw.nCh = true →
    if i.fields.opc = 0x01#6 ∨ i.fields.opc = 0x0F#6 ∨ i.fields.opc = 0x10#6 then
      ∃ t, exec i s = .next t ∧ (t.win.status = s.win.status ∨ i = .initDelay ∧ ¬nonnegLegal s.win.arg0)
    else exec i s = .next { s with win := { s.win with
      status := 0x00000301#32, faultCmd := encode i, faultInfo0 := 0, faultInfo1 := 0 } }

/-! ### Faults (60_exceptions.md, 40_protocol.md R141) -/

/-- Derived from R440, R431 and R25: fault entry writes STATUS (FAULT 1, BUSY 0, the code of R431's table, the
reserved bits 0), FAULT_CMD, FAULT_INFO0 and FAULT_INFO1, and nothing else. -/
def Obligations.FaultEntry : Prop :=
  (∀ (w : Word) (c : FaultCode) (a b : Word) (s : State),
    enterFault w c a b s = { s with win := { s.win with
      status := statusOf c, faultCmd := w, faultInfo0 := a, faultInfo1 := b } } ∧
    statusFault (statusOf c) = true ∧ statusBusy (statusOf c) = false ∧ statusCode (statusOf c) = faultByte c ∧
    (statusOf c) &&& 0xFFFF00FC#32 = 0) ∧
  faultByte .illegal = 0x01 ∧ faultByte .badChannel = 0x02 ∧ faultByte .lifecycle = 0x03 ∧
  faultByte .stateInvalid = 0x04 ∧ faultByte .memUnbound = 0x05 ∧ faultByte .paramRange = 0x06 ∧
  faultByte .nonfinite = 0x07 ∧ faultByte .misaligned = 0x08 ∧ faultByte .busError = 0x09 ∧
  faultByte .addrRange = 0x0A ∧ faultByte .operandRange = 0x0B

/-- Derived from R141 items 2 and 3 and R432: a command of a channel the block does not have faults BAD_CHANNEL,
whatever else is wrong; then a command whose unit's lifecycle its opcode does not accept faults LIFECYCLE; neither
changes anything else. -/
def Obligations.ChannelAndLifecycleChecks : Prop :=
  (∀ (i : Instr) (ch : BitVec 6) (s : State), i.channel = some ch → s.hw.nCh ≤ ch.toNat →
    exec i s = .next (enterFault (encode i) .badChannel (ch.setWidth 32) 0 s)) ∧
  ∀ (i : Instr) (u : UnitId) (s : State), unitOfInstr i = some u → i.wellFormed s.hw.nCh = true →
    ¬lifeAccepted i.fields.opc (s.regs.get u).life →
    exec i s = .next (enterFault (encode i) .lifecycle (lifeCode (s.regs.get u).life) 0 s)

/-- Derived from R141 items 4 and 5 and R432: with the channel and the lifecycle right, an unbound channel of DELAY or
REVERB faults MEM_UNBOUND; a bound one, or a channel of another unit, that is not valid faults STATE_INVALID where the
opcode asks for ST_VALID; neither changes anything else. -/
def Obligations.BindingAndValidityChecks : Prop :=
  ∀ (u : UnitId) (ch : BitVec 6) (s : State), (s.regs.get u).life = .ready → ch.toNat < s.hw.nCh →
    ((hasMemory u = true ∧ (s.binding u ch.toNat).bound = false) →
      ∀ i, i = resetStateOf u ch ∨ i = process1Of u ch ∨ i = processOf u ch ∨
          (u = .delay ∧ (i = .delayReadDelay ch ∨ i = .delayWriteDelay ch)) →
        exec i s = .next (enterFault (encode i) .memUnbound (ch.setWidth 32) 0 s)) ∧
    (((hasMemory u = true → (s.binding u ch.toNat).bound = true) ∧ s.stValid u ch.toNat = false) →
      ∀ i, i = process1Of u ch ∨ i = processOf u ch ∨
          (u = .delay ∧ (i = .delayReadDelay ch ∨ i = .delayWriteDelay ch)) →
        exec i s = .next (enterFault (encode i) .stateInvalid (ch.setWidth 32) 0 s))

/-- Derived from R145, R148 and R432: an infinite or NaN input sample of RESET_STATE or PROCESS1 faults NONFINITE, for
REVERB ARG0 before ARG1, and changes nothing else. -/
def Obligations.NonfiniteInputFaults : Prop :=
  ∀ (u : UnitId) (ch : BitVec 6) (s : State), (s.regs.get u).life = .ready → ch.toNat < s.hw.nCh →
    (hasMemory u = true → (s.binding u ch.toNat).bound = true) →
    ∀ i, i = resetStateOf u ch ∨ (i = process1Of u ch ∧ s.stValid u ch.toNat = true) →
      (isFinite s.win.arg0 = false → exec i s = .next (enterFault (encode i) .nonfinite s.win.arg0 0 s)) ∧
      (isFinite s.win.arg0 = true → u = .reverb → isFinite s.win.arg1 = false →
        exec i s = .next (enterFault (encode i) .nonfinite s.win.arg1 0 s))

/-- R443: a block reset, and no other step, changes the fault registers of a faulted block: it clears them and returns
every unit to UNINIT. -/
def Obligations.OnlyResetClearsFault : Prop :=
  ∀ (s t : State), statusFault s.win.status = true → step s = .next t →
    (resetNext s → t.win.status = 0 ∧ t.win.faultCmd = 0 ∧ t.win.faultInfo0 = 0 ∧ t.win.faultInfo1 = 0 ∧
      ∀ u, (t.regs.get u).life = .uninit) ∧
    (¬resetNext s → t.win.status = s.win.status ∧ t.win.faultCmd = s.win.faultCmd ∧
      t.win.faultInfo0 = s.win.faultInfo0 ∧ t.win.faultInfo1 = s.win.faultInfo1)

/-! ### Lifecycle commands (40_protocol.md R142 to R147) -/

/-- R142: INIT of every unit, at any time: LIFE INITED, every parameter at the INIT value of the register tables,
every derived register 0, every DIRTY bit set, every register of every channel 0, and nothing outside the unit
changed; DELAY's max_delay must be finite and not negative, else PARAM_RANGE and no effect. -/
def Obligations.InitSetsDefaults : Prop :=
  (∀ (u : UnitId) (s : State), (u = .delay → nonnegLegal s.win.arg0) →
    ∃ t, exec (initOf u) s = .next t ∧ (t.regs.get u).life = .inited ∧
      (∀ sel v, coefReg t u sel = some v → v = initValue u s.win.arg0 sel) ∧
      (∀ ch sel v, stateReg t u ch sel = some v → v = 0) ∧ onlyUnit s t u) ∧
  ∀ s : State, ¬nonnegLegal s.win.arg0 →
    exec .initDelay s = .next (enterFault 0x06000000#32 .paramRange s.win.arg0 0 s)

/-- Derived from R143, R203, R243 and R281: SET_SR of the eight units without memory stores the rate, computes the one
sample-rate constant and drops the unit to SR_SET; every other register keeps its value; an illegal rate faults
PARAM_RANGE. -/
def Obligations.SetSrOfFilters : Prop :=
  ∀ (u : UnitId) (s : State), hasMemory u = false → isInited (s.regs.get u).life →
    (rateLegal s.win.arg0 → ∃ t, exec (setSrOf u) s = .next t ∧
      (∀ sel, coefReg t u sel =
        if sel = 0xF0#8 then some 2
        else if sel = 0xF2#8 then some s.win.arg0
        else if sel = 0x40#8 ∧ u = .onepole then some (fDiv 0xC0C90FDB#32 s.win.arg0)
        else if sel = 0x40#8 ∧ (u = .mm1 ∨ u = .mm2) then some (fDiv 0x40490FDB#32 s.win.arg0)
        else if sel = 0xC0#8 ∧ u ≠ .onepole ∧ u ≠ .mm1 ∧ u ≠ .mm2 then some (fDiv 0x40490FDB#32 s.win.arg0)
        else coefReg s u sel) ∧
      (∀ ch sel, stateReg t u ch sel = stateReg s u ch sel) ∧ onlyUnit s t u) ∧
    (¬rateLegal s.win.arg0 →
      exec (setSrOf u) s = .next (enterFault (encode (setSrOf u)) .paramRange s.win.arg0 0 s))

/-- Derived from R143 and R345: SET_SR of DELAY sizes the line, unbinds every channel and clears its ST_VALID; an
illegal rate, or a line above DLEN_MAX, faults PARAM_RANGE with no other effect. -/
def Obligations.SetSrOfDelay : Prop :=
  (∀ s : State, isInited s.regs.delay.life → ¬rateLegal s.win.arg0 →
    exec .setSrDelay s = .next (enterFault 0x0A000000#32 .paramRange s.win.arg0 0 s)) ∧
  ∀ s : State, isInited s.regs.delay.life → rateLegal s.win.arg0 → nonnegLegal s.coefs.delay.maxDelay →
    (scaled (fMul s.win.arg0 s.coefs.delay.maxDelay) ≤ 16777215 * 2 ^ 149 →
      ∃ t, exec .setSrDelay s = .next t ∧
        (t.coefs.delay.len.toNat : Int) = realCeil (fMul s.win.arg0 s.coefs.delay.maxDelay) + 1 ∧
        t.coefs.delay.memReq.toNat = 4 * t.coefs.delay.len.toNat ∧
        (∀ sel, sel ≠ 0x40#8 → sel ≠ 0xF4#8 → coefReg t .delay sel =
          if sel = 0xF0#8 then some 2 else if sel = 0xF2#8 then some s.win.arg0 else coefReg s .delay sel) ∧
        (∀ ch, stateReg t .delay ch 0x00#8 = stateReg s .delay ch 0x00#8 ∧
          stateReg t .delay ch 0xF0#8 = some 0 ∧ stateReg t .delay ch 0xF1#8 = some 0 ∧
          stateReg t .delay ch 0xF2#8 = some 0) ∧ onlyUnit s t .delay) ∧
    (16777215 * 2 ^ 149 < scaled (fMul s.win.arg0 s.coefs.delay.maxDelay) →
      exec .setSrDelay s = .next (enterFault 0x0A000000#32 .paramRange s.win.arg0 0 s))

/-- Derived from R143 and R375: SET_SR of REVERB computes the rate constants, the lengths and the tap positions of
REV_TABLE, the capacities and the layout of the arena, unbinds every channel and clears its ST_VALID; a rate outside
1000 to 768000 Hz faults PARAM_RANGE. The table is any that `tableLegal` admits (its bounds: notes/assumptions/7). -/
def Obligations.SetSrOfReverb : Prop :=
  ∀ s : State, isInited s.regs.reverb.life →
    (tableLegal s.hw.revTable → reverbRateLegal s.win.arg0 → ∃ t, exec .setSrReverb s = .next t ∧
      t.regs.reverb = { s.regs.reverb with life := .srSet, fs := s.win.arg0 } ∧
      t.coefs.reverb.kExp = fDiv 0xC0C90FDB#32 s.win.arg0 ∧
      t.coefs.reverb.ratio = fDiv s.win.arg0 0x46E88200#32 ∧
      t.coefs.reverb.exc = fMul 0x41000000#32 t.coefs.reverb.ratio ∧
      t.coefs.reverb.lfoInc = fDiv 0x3F800000#32 s.win.arg0 ∧
      (∀ j, j ≠ .pd → ((t.coefs.reverb.n.get j).toNat : Int) =
        max 1 (realRound (fMul (toF32 (s.hw.revTable.length.get j)) t.coefs.reverb.ratio))) ∧
      (∀ k, ((t.coefs.reverb.tapLK.get k).toNat : Int) =
          max 1 (realRound (fMul (toF32 (s.hw.revTable.tapL.get k).pos) t.coefs.reverb.ratio)) ∧
        ((t.coefs.reverb.tapRK.get k).toNat : Int) =
          max 1 (realRound (fMul (toF32 (s.hw.revTable.tapR.get k).pos) t.coefs.reverb.ratio))) ∧
      ((t.coefs.reverb.cap.get .pd).toNat : Int) = realCeil (fMul 0x3DCCCCCD#32 s.win.arg0) + 1 ∧
      (∀ j, j ≠ .pd → ((t.coefs.reverb.cap.get j).toNat : Int) = (t.coefs.reverb.n.get j).toNat +
        if j = .dd1 ∨ j = .dd3 then realCeil t.coefs.reverb.exc + 1 else 0) ∧
      reverbLayout t.coefs.reverb ∧
      t.coefs.reverb = { s.coefs.reverb with
        kExp := t.coefs.reverb.kExp, ratio := t.coefs.reverb.ratio, exc := t.coefs.reverb.exc
        lfoInc := t.coefs.reverb.lfoInc, n := t.coefs.reverb.n, tapLK := t.coefs.reverb.tapLK
        tapRK := t.coefs.reverb.tapRK, cap := t.coefs.reverb.cap, off := t.coefs.reverb.off
        memReq := t.coefs.reverb.memReq } ∧
      (∀ ch, t.stValid .reverb ch = false ∧ t.binding .reverb ch = { bound := false, base := 0 }) ∧
      t.chans = s.chans ∧ onlyUnit s t .reverb) ∧
    (¬reverbRateLegal s.win.arg0 →
      exec .setSrReverb s = .next (enterFault 0x0A400000#32 .paramRange s.win.arg0 0 s))

/-- Derived from R144, R346 and R376: RESET_COEFFS of every unit makes it READY, counts GEN, clears DIRTY and every
ST_VALID, and leaves its parameters, FS, bindings and the rest as they were; the derived registers become what
UPDATE_CTRL with every DIRTY bit set makes them, and REVERB's smoother, LFO and modulated positions start as R376
says. -/
def Obligations.ResetCoeffs : Prop :=
  ∀ (u : UnitId) (s : State), (s.regs.get u).life = .srSet ∨ (s.regs.get u).life = .ready →
    ∃ t t', exec (resetCoeffsOf u) s = .next t ∧
      exec (updateCtrlOf u) { s with
        regs := s.regs.set u { s.regs.get u with life := .ready, dirty := allDirty u } } = .next t' ∧
      t.regs.get u = { life := .ready, gen := (s.regs.get u).gen + 1, fs := (s.regs.get u).fs, dirty := 0 } ∧
      (∀ ch, t.stValid u ch = false) ∧ t.binds = s.binds ∧ t.chans = s.chans ∧
      (u ≠ .reverb → t.coefs = t'.coefs) ∧
      (u = .reverb → t.coefs.reverb = { t'.coefs.reverb with
        aPds := if fLt 0x4D17C830#32 0x404BB7E4#32 then 0#32 else numExp (fMul s.coefs.reverb.kExp 0x404BB7E4#32)
        st2Pd := 0x2B8CBCCC#32
        pdS := s.coefs.reverb.predelay
        pdN := BitVec.ofNat 32 (min (realRound (fMul s.coefs.reverb.predelay s.regs.reverb.fs)).toNat
          (s.coefs.reverb.cap.pd.toNat - 1))
        lfoPhase := 0, lfoM := 0
        di1 := s.coefs.reverb.n.dd1, df1 := 0, di3 := s.coefs.reverb.n.dd3, df3 := 0 }) ∧
      (∀ sel : BitVec 8, sel.toNat < 0x40 → coefReg t u sel = coefReg s u sel) ∧ onlyUnit s t u

/-- Derived from R146: UPDATE_CTRL of every unit completes when READY, clears DIRTY, and leaves LIFE, GEN, FS, the
parameters, the channels and everything outside the unit as they were; with DIRTY 0 it changes nothing. What the derived
registers become is UpdateCtrlOfOnePole's to UpdateCtrlOfDelayAndReverb's to say. -/
def Obligations.UpdateCtrl : Prop :=
  ∀ (u : UnitId) (s : State), (s.regs.get u).life = .ready →
    ∃ t, exec (updateCtrlOf u) s = .next t ∧ ((s.regs.get u).dirty = 0 → t = s) ∧
      t.regs.get u = { s.regs.get u with dirty := 0 } ∧
      (∀ sel : BitVec 8, sel.toNat < 0x40 → coefReg t u sel = coefReg s u sel) ∧
      (∀ ch sel, stateReg t u ch sel = stateReg s u ch sel) ∧ onlyUnit s t u

/-- R147, with R379, R380 and R381: UPDATE_AUDIO of a READY unit changes nothing, but for REVERB, where it makes one
step of the predelay smoother and of the LFO and moves the two modulated read positions. -/
def Obligations.UpdateAudio : Prop :=
  (∀ (u : UnitId) (s : State), (s.regs.get u).life = .ready → u ≠ .reverb → exec (updateAudioOf u) s = .next s) ∧
  ∀ s : State, s.regs.reverb.life = .ready →
    ∃ c : ReverbCoefs, exec .updateAudioReverb s = .next { s with coefs := { s.coefs with reverb := c } } ∧
      (let y := onePoleOf s.coefs.reverb.aPds s.coefs.reverb.pdS s.coefs.reverb.pdTarget
       let e := fSub y s.coefs.reverb.pdTarget
       let m := numSin2pi s.coefs.reverb.lfoPhase
       let p := fAdd s.coefs.reverb.lfoPhase s.coefs.reverb.lfoInc
       let d1 := fAdd (toF32 s.coefs.reverb.n.dd1.toNat) (fMul s.coefs.reverb.exc m)
       let d3 := fSub (toF32 s.coefs.reverb.n.dd3.toNat) (fMul s.coefs.reverb.exc m)
       c = { s.coefs.reverb with
         pdS := if fNe s.coefs.reverb.aPds 0x3F800000#32 = true ∧ fLe (fMul e e) s.coefs.reverb.st2Pd = true
           then s.coefs.reverb.pdTarget else y
         pdN := BitVec.ofNat 32 (min (realRound (fMul c.pdS s.regs.reverb.fs)).toNat
           (s.coefs.reverb.cap.pd.toNat - 1))
         lfoM := m
         lfoPhase := if fLe 0x3F800000#32 p then fSub p 0x3F800000#32 else p
         di1 := BitVec.ofNat 32 (realFloor d1).toNat
         df1 := fSub d1 (toF32 (realFloor d1).toNat)
         di3 := BitVec.ofNat 32 (realFloor d3).toNat
         df3 := fSub d3 (toF32 (realFloor d3).toNat) })

/-! ### Coefficient formulas (41 to 45) -/

/-- Derived from R205, with the multiplier of R204: UPDATE_CTRL of ONEPOLE recomputes the derived registers of the set
DIRTY bits. -/
def Obligations.UpdateCtrlOfOnePole : Prop :=
  ∀ s : State, s.regs.onepole.life = .ready →
    exec .updateCtrlOnepole s = .next { s with
      regs := { s.regs with onepole := { s.regs.onepole with dirty := 0 } }
      coefs := { s.coefs with onepole := { s.coefs.onepole with
        aUp := if s.regs.onepole.dirty.getLsbD 0 then
            (if fLt 0x4D17C830#32 s.coefs.onepole.cutoffUp then 0#32
              else numExp (fMul s.coefs.onepole.kExp s.coefs.onepole.cutoffUp))
          else s.coefs.onepole.aUp
        aDown := if s.regs.onepole.dirty.getLsbD 1 then
            (if fLt 0x4D17C830#32 s.coefs.onepole.cutoffDown then 0#32
              else numExp (fMul s.coefs.onepole.kExp s.coefs.onepole.cutoffDown))
          else s.coefs.onepole.aDown
        st2 := if s.regs.onepole.dirty.getLsbD 2 then
            fMul s.coefs.onepole.stickyThresh s.coefs.onepole.stickyThresh
          else s.coefs.onepole.st2
        modeAct := if s.regs.onepole.dirty.getLsbD 3 then s.coefs.onepole.stickyMode
          else s.coefs.onepole.modeAct } } }

/-- Derived from R265 and R248, with R245 to R247: UPDATE_CTRL of MM1 and of MM2. -/
def Obligations.UpdateCtrlOfMultiMode : Prop :=
  (∀ s : State, s.regs.mm1.life = .ready →
    let b := s.coefs.mm1
    let m := s.regs.mm1.dirty
    let t := numTan (fMin (fMul b.kPi (if b.prewarpAtCutoff = 1 then b.cutoff else b.prewarpFreq)) 0x3FC8A8E9#32)
    let g := if b.prewarpAtCutoff = 1 then t else fMul (fDiv t b.prewarpFreq) b.cutoff
    exec .updateCtrlMm1 s = .next { s with
      regs := { s.regs with mm1 := { s.regs.mm1 with dirty := 0 } }
      coefs := { s.coefs with mm1 := { b with
        g := if m.getLsbD 0 ∨ m.getLsbD 1 then g else b.g
        g1 := if m.getLsbD 0 ∨ m.getLsbD 1 then fDiv g (fAdd 0x3F800000#32 g) else b.g1
        cxAct := if m.getLsbD 2 then b.coeffX else b.cxAct
        clpAct := if m.getLsbD 2 then b.coeffLp else b.clpAct } } }) ∧
  ∀ s : State, s.regs.mm2.life = .ready →
    let b := s.coefs.mm2
    let m := s.regs.mm2.dirty
    let t := numTan (fMin (fMul b.kPi (if b.prewarpAtCutoff = 1 then b.cutoff else b.prewarpFreq)) 0x3FC8A8E9#32)
    let g := if m.getLsbD 0 ∨ m.getLsbD 2 then
      (if b.prewarpAtCutoff = 1 then t else fMul (fDiv t b.prewarpFreq) b.cutoff) else b.g
    let k := if m.getLsbD 1 then fDiv 0x3F800000#32 (fMax b.q 0x3F000000#32) else b.k
    let gk := if m.getLsbD 0 ∨ m.getLsbD 1 ∨ m.getLsbD 2 then fAdd g k else b.gk
    exec .updateCtrlMm2 s = .next { s with
      regs := { s.regs with mm2 := { s.regs.mm2 with dirty := 0 } }
      coefs := { s.coefs with mm2 := { b with
        g := g, k := k, gk := gk
        hpD := if m.getLsbD 0 ∨ m.getLsbD 1 ∨ m.getLsbD 2 then
          fDiv 0x3F800000#32 (fAdd 0x3F800000#32 (fMul g gk)) else b.hpD
        cxAct := if m.getLsbD 3 then b.coeffX else b.cxAct
        clpAct := if m.getLsbD 3 then b.coeffLp else b.clpAct
        cbpAct := if m.getLsbD 3 then b.coeffBp else b.cbpAct
        chpAct := if m.getLsbD 3 then b.coeffHp else b.chpAct } } }

/-- Derived from R284, R290, R298, R307, R314, with R280, R282, R283: UPDATE_CTRL of a derived filter, some DIRTY bit
set, writes its own derived registers, gives its inner bank the parameters of its translation, and leaves that bank as
UPDATE_CTRL of unit MM1 or MM2 would leave a bank with those parameters and every DIRTY bit set; the inner DIRTY mask
ends 0. -/
def Obligations.UpdateCtrlOfDerivedFilters : Prop :=
  (∀ s : State, s.regs.hp1.life = .ready → s.regs.hp1.dirty ≠ 0 →
    let c := s.coefs.hp1
    ∃ t t', exec .updateCtrlHp1 s = .next t ∧
      exec .updateCtrlMm1 (staleMm1 s { c.inner with
        cutoff := c.cutoff, prewarpAtCutoff := c.prewarpAtCutoff, prewarpFreq := c.prewarpFreq
        coeffX := 0x3F800000#32, coeffLp := 0xBF800000#32 }) = .next t' ∧
      t.coefs.hp1 = { c with inner := t'.coefs.mm1, innerDirty := 0 }) ∧
  (∀ s : State, s.regs.ls1.life = .ready → s.regs.ls1.dirty ≠ 0 →
    let c := s.coefs.ls1
    let g := if c.gainIsDb = 1 then numPow2 (fMul 0x3E2A152D#32 c.dcGainDb) else c.dcGainLin
    ∃ t t', exec .updateCtrlLs1 s = .next t ∧
      exec .updateCtrlMm1 (staleMm1 s { c.inner with
        cutoff := fDiv c.cutoff (fSqrt g), prewarpAtCutoff := 0
        prewarpFreq := if c.prewarpAtCutoff = 1 then c.cutoff else c.prewarpFreq
        coeffX := 0x3F800000#32, coeffLp := fSub g 0x3F800000#32 }) = .next t' ∧
      t.coefs.ls1 = { c with g := g, inner := t'.coefs.mm1, innerDirty := 0 }) ∧
  (∀ s : State, s.regs.ls2.life = .ready → s.regs.ls2.dirty ≠ 0 →
    let c := s.coefs.ls2
    let g := if c.gainIsDb = 1 then numPow2 (fMul 0x3E2A152D#32 c.dcGainDb) else c.dcGainLin
    let ki := fDiv 0x3F800000#32 (fMax c.q 0x3F000000#32)
    ∃ t t', exec .updateCtrlLs2 s = .next t ∧
      exec .updateCtrlMm2 (staleMm2 s { c.inner with
        cutoff := fDiv c.cutoff (fSqrt (fSqrt g)), q := c.q, prewarpAtCutoff := 0
        prewarpFreq := if c.prewarpAtCutoff = 1 then c.cutoff else c.prewarpFreq
        coeffX := 0x3F800000#32, coeffLp := fSub g 0x3F800000#32
        coeffBp := fMul (fSub (fSqrt g) 0x3F800000#32) ki, coeffHp := 0 }) = .next t' ∧
      t.coefs.ls2 = { c with g := g, ki := ki, inner := t'.coefs.mm2, innerDirty := 0 }) ∧
  (∀ s : State, s.regs.ap2.life = .ready → s.regs.ap2.dirty ≠ 0 →
    let c := s.coefs.ap2
    let ki := fDiv 0x3F800000#32 (fMax c.q 0x3F000000#32)
    ∃ t t', exec .updateCtrlAp2 s = .next t ∧
      exec .updateCtrlMm2 (staleMm2 s { c.inner with
        cutoff := c.cutoff, q := c.q, prewarpAtCutoff := c.prewarpAtCutoff, prewarpFreq := c.prewarpFreq
        coeffX := 0x3F800000#32, coeffLp := 0, coeffBp := fMul 0xC0000000#32 ki, coeffHp := 0 }) = .next t' ∧
      t.coefs.ap2 = { c with ki := ki, inner := t'.coefs.mm2, innerDirty := 0 }) ∧
  ∀ s : State, s.regs.peak.life = .ready → s.regs.peak.dirty ≠ 0 →
    let c := s.coefs.peak
    let g := if c.gainIsDb = 1 then numPow2 (fMul 0x3E2A152D#32 c.peakGainDb) else c.peakGainLin
    let qu := if c.useBandwidth = 1 then fDiv c.cutoff c.bandwidth else c.q
    let qi := fMul qu (fSqrt g)
    let ki := fDiv 0x3F800000#32 (fMax qi 0x3F000000#32)
    ∃ t t', exec .updateCtrlPeak s = .next t ∧
      exec .updateCtrlMm2 (staleMm2 s { c.inner with
        cutoff := c.cutoff, q := qi, prewarpAtCutoff := c.prewarpAtCutoff, prewarpFreq := c.prewarpFreq
        coeffX := 0x3F800000#32, coeffLp := 0, coeffBp := fMul (fSub g 0x3F800000#32) ki, coeffHp := 0 }) = .next t' ∧
      t.coefs.peak = { c with g := g, qu := qu, qi := qi, ki := ki, inner := t'.coefs.mm2, innerDirty := 0 }

/-- R347 and R377: UPDATE_CTRL of DELAY splits the clamped delay into DI and DF; UPDATE_CTRL of REVERB recomputes the
derived registers of the set DIRTY bits. -/
def Obligations.UpdateCtrlOfDelayAndReverb : Prop :=
  (∀ s : State, s.regs.delay.life = .ready →
    let c := s.coefs.delay
    let dt := fMin (fMul s.regs.delay.fs c.delay) (toF32 (c.len.toNat - 1))
    exec .updateCtrlDelay s = .next { s with
      regs := { s.regs with delay := { s.regs.delay with dirty := 0 } }
      coefs := { s.coefs with delay := { c with
        di := if s.regs.delay.dirty.getLsbD 0 then BitVec.ofNat 32 (realFloor dt).toNat else c.di
        df := if s.regs.delay.dirty.getLsbD 0 then fSub dt (toF32 (realFloor dt).toNat) else c.df } } }) ∧
  ∀ s : State, s.regs.reverb.life = .ready →
    let c := s.coefs.reverb
    let m := s.regs.reverb.dirty
    exec .updateCtrlReverb s = .next { s with
      regs := { s.regs with reverb := { s.regs.reverb with dirty := 0 } }
      coefs := { s.coefs with reverb := { c with
        pdTarget := if m.getLsbD 0 then c.predelay else c.pdTarget
        aBw := if m.getLsbD 1 then
            (if fLt 0x4D17C830#32 c.bandwidth then 0#32 else numExp (fMul c.kExp c.bandwidth)) else c.aBw
        aDamp := if m.getLsbD 2 then
            (if fLt 0x4D17C830#32 c.damping then 0#32 else numExp (fMul c.kExp c.damping)) else c.aDamp
        decayG := if m.getLsbD 3 then c.decay else c.decayG
        dd2G := if m.getLsbD 3 then
            fMin (fMax (fAdd c.decay 0x3E19999A#32) 0x3E800000#32) 0x3F000000#32 else c.dd2G } } }

/-- R10: the named properties of the numeric services; the model gives them no other. -/
def Obligations.NumericServices : Prop :=
  numExp 0x00000000#32 = 0x3F800000#32 ∧ numExp 0x80000000#32 = 0x3F800000#32 ∧
  (∀ v, isFinite v = true → scaled v ≤ 0 →
    isFinite (numExp v) = true ∧ 0 ≤ scaled (numExp v) ∧ scaled (numExp v) ≤ 2 ^ 149) ∧
  numTan 0x00000000#32 = 0x00000000#32 ∧
  (∀ v, isNaN v = false → 0 ≤ scaled v → scaled v ≤ scaled 0x3FC8A8E9#32 →
    isFinite (numTan v) = true ∧ 0 ≤ scaled (numTan v)) ∧
  (∀ v, isFinite v = true → -(100 * 2 ^ 149) ≤ scaled v → scaled v ≤ 100 * 2 ^ 149 →
    isFinite (numPow2 v) = true ∧ 0 < scaled (numPow2 v)) ∧
  ∀ v, isNaN v = false → 0 ≤ scaled v → scaled v < 2 ^ 149 →
    isFinite (numSin2pi v) = true ∧ -(2 ^ 149) ≤ scaled (numSin2pi v) ∧ scaled (numSin2pi v) ≤ 2 ^ 149

/-- Derived from R8: a sum and a product of finite values, where the result is finite, is a value nearest to the exact
one, and the one with an even encoding where two are nearest; `scaled v` is the value in units of 2^-149. -/
def Obligations.SumAndProductAreNearest : Prop :=
  ∀ a b v : F32, isFinite a = true → isFinite b = true → isFinite v = true →
    (isFinite (fAdd a b) = true →
      |scaled (fAdd a b) - (scaled a + scaled b)| ≤ |scaled v - (scaled a + scaled b)| ∧
      (|scaled (fAdd a b) - (scaled a + scaled b)| = |scaled v - (scaled a + scaled b)| →
        scaled v ≠ scaled (fAdd a b) → (fAdd a b).getLsbD 0 = false)) ∧
    (isFinite (fMul a b) = true →
      |scaled (fMul a b) * 2 ^ 149 - scaled a * scaled b| ≤ |scaled v * 2 ^ 149 - scaled a * scaled b| ∧
      (|scaled (fMul a b) * 2 ^ 149 - scaled a * scaled b| = |scaled v * 2 ^ 149 - scaled a * scaled b| →
        scaled v ≠ scaled (fMul a b) → (fMul a b).getLsbD 0 = false))

/-! ### Single samples (40_protocol.md R145, R148; 41 to 43) -/

/-- R210 and R214, with the variants of R213: RESET_STATE and PROCESS1 of ONEPOLE. -/
def Obligations.OnePoleSamples : Prop :=
  ∀ (s : State) (ch : BitVec 6), isFinite s.win.arg0 = true → ch.toNat < s.hw.nCh → s.regs.onepole.life = .ready →
    exec (.resetStateOnepole ch) s = .next { s with
      win := { s.win with res0 := s.win.arg0 }
      valid := { s.valid with onepole := s.valid.onepole.set ch.toNat true }
      chans := { s.chans with onepole := s.chans.onepole.set ch.toNat { yZ1 := s.win.arg0 } } } ∧
    (s.stValid .onepole ch.toNat = true →
      let c := s.coefs.onepole
      let x := s.win.arg0
      let yp := (s.chans.onepole.getD ch.toNat {}).yZ1
      let a := if fNe c.aUp c.aDown = true ∧ fLe yp x = false then c.aDown else c.aUp
      let o := onePoleOf a yp x
      let e := fSub o x
      let y := if fNe c.st2 0#32 = true ∧ fNe a 0x3F800000#32 = true ∧
          (if c.modeAct = 0 then fLe (fMul e e) c.st2 else fLe (fMul e e) (fMul (fMul c.st2 x) x)) = true
        then x else o
      exec (.process1Onepole ch) s = .next { s with
        win := { s.win with res0 := y }
        chans := { s.chans with onepole := s.chans.onepole.set ch.toNat { yZ1 := y } } })

/-- Derived from R215: with both multipliers 1, PROCESS1 of ONEPOLE returns the previous output, bit for bit, for any
finite input and whatever the sticky registers hold; with both +0 it returns the input, bit for bit. -/
def Obligations.OnePoleHoldsAndPasses : Prop :=
  ∀ (s : State) (ch : BitVec 6), isFinite s.win.arg0 = true → admitted s .onepole ch.toNat →
    (s.coefs.onepole.aUp = 0x3F800000#32 → s.coefs.onepole.aDown = 0x3F800000#32 →
      exec (.process1Onepole ch) s = .next { s with
        win := { s.win with res0 := (s.chans.onepole.getD ch.toNat {}).yZ1 }
        chans := { s.chans with
          onepole := s.chans.onepole.set ch.toNat { yZ1 := (s.chans.onepole.getD ch.toNat {}).yZ1 } } }) ∧
    (s.coefs.onepole.aUp = 0x00000000#32 → s.coefs.onepole.aDown = 0x00000000#32 →
      exec (.process1Onepole ch) s = .next { s with
        win := { s.win with res0 := s.win.arg0 }
        chans := { s.chans with onepole := s.chans.onepole.set ch.toNat { yZ1 := s.win.arg0 } } })

/-- R267, R268, R250 and R251: RESET_STATE and PROCESS1 of MM1 and of MM2. -/
def Obligations.MultiModeSamples : Prop :=
  ∀ (s : State) (ch : BitVec 6), isFinite s.win.arg0 = true → ch.toNat < s.hw.nCh →
    (s.regs.mm1.life = .ready →
      let b := s.coefs.mm1
      let x := s.win.arg0
      let z := (s.chans.mm1.getD ch.toNat {}).s
      let v := fMul b.g1 (fSub x z)
      let lp := fAdd v z
      exec (.resetStateMm1 ch) s = .next { s with
        win := { s.win with res0 := fAdd (fMul b.cxAct x) (fMul b.clpAct x) }
        valid := { s.valid with mm1 := s.valid.mm1.set ch.toNat true }
        chans := { s.chans with mm1 := s.chans.mm1.set ch.toNat { s := x } } } ∧
      (s.stValid .mm1 ch.toNat = true → exec (.process1Mm1 ch) s = .next { s with
        win := { s.win with res0 := fAdd (fMul b.cxAct x) (fMul b.clpAct lp) }
        chans := { s.chans with mm1 := s.chans.mm1.set ch.toNat { s := fAdd lp v } } })) ∧
    (s.regs.mm2.life = .ready →
      let b := s.coefs.mm2
      let x := s.win.arg0
      let z1 := (s.chans.mm2.getD ch.toNat {}).s1
      let z2 := (s.chans.mm2.getD ch.toNat {}).s2
      let hp := fMul b.hpD (fSub (fSub x (fMul b.gk z1)) z2)
      let v1 := fMul b.g hp
      let bp := fAdd v1 z1
      let v2 := fMul b.g bp
      let lp := fAdd v2 z2
      exec (.resetStateMm2 ch) s = .next { s with
        win := { s.win with
          res0 := fAdd (fAdd (fAdd (fMul b.cxAct x) (fMul b.clpAct x)) (fMul b.cbpAct 0#32))
            (fMul b.chpAct 0#32) }
        valid := { s.valid with mm2 := s.valid.mm2.set ch.toNat true }
        chans := { s.chans with mm2 := s.chans.mm2.set ch.toNat { s1 := 0, s2 := x } } } ∧
      (s.stValid .mm2 ch.toNat = true → exec (.process1Mm2 ch) s = .next { s with
        win := { s.win with
          res0 := fAdd (fAdd (fAdd (fMul b.cxAct x) (fMul b.clpAct lp)) (fMul b.cbpAct bp))
            (fMul b.chpAct hp) }
        chans := { s.chans with mm2 := s.chans.mm2.set ch.toNat { s1 := fAdd v1 bp, s2 := fAdd v2 lp } } }))

/-- Derived from R280, R285, R286, R291, R292, R299, R300, R308, R309, R315, R316: RESET_STATE and PROCESS1 of a
derived filter answer what unit MM1 or MM2 would with the filter's inner bank and channels, and write only the
filter's own channels, ST_VALID (RESET_STATE) and RES0. -/
def Obligations.DerivedSamples : Prop :=
  ∀ (s : State) (ch : BitVec 6), isFinite s.win.arg0 = true → ch.toNat < s.hw.nCh →
    (∀ p ∈ [(UnitId.hp1, s.coefs.hp1.inner, s.chans.hp1), (UnitId.ls1, s.coefs.ls1.inner, s.chans.ls1)],
      (s.regs.get p.1).life = .ready →
      (∃ t t', exec (resetStateOf p.1 ch) s = .next t ∧
        exec (.resetStateMm1 ch) (asMm1 s p.1 p.2.1 p.2.2) = .next t' ∧
        t.win = t'.win ∧ t.valid.get p.1 = t'.valid.mm1 ∧
        (p.1 = .hp1 → t = { s with win := t.win, valid := { s.valid with hp1 := t'.valid.mm1 }
                                   chans := { s.chans with hp1 := t'.chans.mm1 } }) ∧
        (p.1 = .ls1 → t = { s with win := t.win, valid := { s.valid with ls1 := t'.valid.mm1 }
                                   chans := { s.chans with ls1 := t'.chans.mm1 } })) ∧
      (s.stValid p.1 ch.toNat = true → ∃ t t', exec (process1Of p.1 ch) s = .next t ∧
        exec (.process1Mm1 ch) (asMm1 s p.1 p.2.1 p.2.2) = .next t' ∧ t.win = t'.win ∧
        (p.1 = .hp1 → t = { s with win := t.win, chans := { s.chans with hp1 := t'.chans.mm1 } }) ∧
        (p.1 = .ls1 → t = { s with win := t.win, chans := { s.chans with ls1 := t'.chans.mm1 } }))) ∧
    ∀ p ∈ [(UnitId.ls2, s.coefs.ls2.inner, s.chans.ls2), (UnitId.ap2, s.coefs.ap2.inner, s.chans.ap2),
        (UnitId.peak, s.coefs.peak.inner, s.chans.peak)],
      (s.regs.get p.1).life = .ready →
      (∃ t t', exec (resetStateOf p.1 ch) s = .next t ∧
        exec (.resetStateMm2 ch) (asMm2 s p.1 p.2.1 p.2.2) = .next t' ∧
        t.win = t'.win ∧ t.valid.get p.1 = t'.valid.mm2 ∧
        (p.1 = .ls2 → t = { s with win := t.win, valid := { s.valid with ls2 := t'.valid.mm2 }
                                   chans := { s.chans with ls2 := t'.chans.mm2 } }) ∧
        (p.1 = .ap2 → t = { s with win := t.win, valid := { s.valid with ap2 := t'.valid.mm2 }
                                   chans := { s.chans with ap2 := t'.chans.mm2 } }) ∧
        (p.1 = .peak → t = { s with win := t.win, valid := { s.valid with peak := t'.valid.mm2 }
                                    chans := { s.chans with peak := t'.chans.mm2 } })) ∧
      (s.stValid p.1 ch.toNat = true → ∃ t t', exec (process1Of p.1 ch) s = .next t ∧
        exec (.process1Mm2 ch) (asMm2 s p.1 p.2.1 p.2.2) = .next t' ∧ t.win = t'.win ∧
        (p.1 = .ls2 → t = { s with win := t.win, chans := { s.chans with ls2 := t'.chans.mm2 } }) ∧
        (p.1 = .ap2 → t = { s with win := t.win, chans := { s.chans with ap2 := t'.chans.mm2 } }) ∧
        (p.1 = .peak → t = { s with win := t.win, chans := { s.chans with peak := t'.chans.mm2 } }))

/-! ### DELAY (44_delay.md) -/

/-- Derived from R350, with R343 and R145: RESET_STATE of DELAY fills the line with the initial value, sets the cursor
to 0 and the channel valid, and returns that value; every byte outside the arena, every coefficient and every other
channel is as before. -/
def Obligations.ResetStateOfDelay : Prop :=
  ∀ (s : State) (ch : BitVec 6), Inv s → isFinite s.win.arg0 = true → ch.toNat < s.hw.nCh → s.regs.delay.life = .ready →
    (s.binding .delay ch.toNat).bound = true → ordinary s (arenaBase s .delay ch.toNat) (arenaSize s .delay) →
    ∃ t, exec (.resetStateDelay ch) s = .next t ∧
      (∀ k, k < s.coefs.delay.len.toNat → readWord t.mem (arenaBase s .delay ch.toNat + 4 * k) = s.win.arg0) ∧
      sameOutside s t (arenaBase s .delay ch.toNat) (4 * s.coefs.delay.len.toNat) ∧
      t = { s with
        mem := t.mem
        win := { s.win with res0 := s.win.arg0 }
        valid := { s.valid with delay := s.valid.delay.set ch.toNat true }
        chans := { s.chans with delay := s.chans.delay.set ch.toNat { w := 0 } } }

/-- Derived from R351, with R341 and R342: PROCESS1 of DELAY stores the input at the cursor, advances the cursor
modulo LEN, and returns the word DI + 1 behind it, interpolated with the next older one unless DF is 0; nothing else
changes. -/
def Obligations.Process1OfDelay : Prop :=
  ∀ (s : State) (ch : BitVec 6), Inv s → isFinite s.win.arg0 = true → admitted s .delay ch.toNat →
    ordinary s (arenaBase s .delay ch.toNat) (arenaSize s .delay) →
    let b := arenaBase s .delay ch.toNat
    let c := s.coefs.delay
    let w := (s.chans.delay.getD ch.toNat {}).w.toNat
    let m := writeWord s.mem (b + 4 * w) s.win.arg0
    let w' := (w + 1) % c.len.toNat
    let at_ := fun d : Nat => readWord m (b + 4 * (((w' : Int) - (d : Int)) % (c.len.toNat : Int)).toNat)
    let s0 := at_ (c.di.toNat + 1)
    exec (.process1Delay ch) s = .next { s with
      mem := m
      win := { s.win with
        res0 := if fEq c.df 0#32 then s0 else fAdd s0 (fMul c.df (fSub (at_ (c.di.toNat + 2)) s0)) }
      chans := { s.chans with delay := s.chans.delay.set ch.toNat { w := BitVec.ofNat 32 w' } } }

/-- Derived from R352: DELAY_READ checks the fraction, then the index, and returns the word that many samples behind
the cursor, interpolated with the next older one unless the fraction is 0; nothing else changes. -/
def Obligations.DelayRead : Prop :=
  ∀ (s : State) (ch : BitVec 6), Inv s → admitted s .delay ch.toNat →
    let d := s.win.arg0.toNat
    let f := s.win.arg1
    let len := s.coefs.delay.len.toNat
    let lim := if scaled f = 0 then len else len - 1
    let okF := isFinite f = true ∧ 0 ≤ scaled f ∧ scaled f < 2 ^ 149
    let b := arenaBase s .delay ch.toNat
    let w := (s.chans.delay.getD ch.toNat {}).w.toNat
    let at_ := fun d : Nat => readWord s.mem (b + 4 * (((w : Int) - (d : Int)) % (len : Int)).toNat)
    (¬okF → exec (.delayReadDelay ch) s =
      .next (enterFault (0x36000000#32 ||| (ch.setWidth 32 <<< 16)) .operandRange f 0 s)) ∧
    (okF → ¬(1 ≤ d ∧ d ≤ lim) → exec (.delayReadDelay ch) s =
      .next (enterFault (0x36000000#32 ||| (ch.setWidth 32 <<< 16)) .operandRange s.win.arg0 0 s)) ∧
    (okF → 1 ≤ d → d ≤ lim → ordinary s b (4 * len) →
      exec (.delayReadDelay ch) s = .next { s with win := { s.win with
        res0 := if scaled f = 0 then at_ d else fAdd (at_ d) (fMul f (fSub (at_ (d + 1)) (at_ d))) } })

/-- Derived from R353, with R341: DELAY_WRITE stores a finite sample at the cursor and advances the cursor modulo LEN;
nothing else changes, RES included. -/
def Obligations.DelayWrite : Prop :=
  ∀ (s : State) (ch : BitVec 6), Inv s → admitted s .delay ch.toNat →
    let b := arenaBase s .delay ch.toNat
    let len := s.coefs.delay.len.toNat
    let w := (s.chans.delay.getD ch.toNat {}).w.toNat
    (isFinite s.win.arg0 = false → exec (.delayWriteDelay ch) s =
      .next (enterFault (0x3A000000#32 ||| (ch.setWidth 32 <<< 16)) .nonfinite s.win.arg0 0 s)) ∧
    (isFinite s.win.arg0 = true → ordinary s b (4 * len) →
      exec (.delayWriteDelay ch) s = .next { s with
        mem := writeWord s.mem (b + 4 * w) s.win.arg0
        chans := { s.chans with delay := s.chans.delay.set ch.toNat { w := BitVec.ofNat 32 ((w + 1) % len) } } })

/-- R355: after DELAY_WRITE of a sample and of d - 1 further ones, DELAY_READ of index d with fraction 0 returns that
sample, bit for bit, for every d from 1 to LEN. -/
def Obligations.DelayRoundTrip : Prop :=
  ∀ (s : State) (ch : BitVec 6) (x : F32) (ys : List F32), Inv s → admitted s .delay ch.toNat →
    ordinary s (arenaBase s .delay ch.toNat) (arenaSize s .delay) → isFinite x = true →
    (∀ y ∈ ys, isFinite y = true) → ys.length + 1 ≤ s.coefs.delay.len.toNat →
    ∃ t, delayWrites ch (x :: ys) s = some t ∧
      exec (.delayReadDelay ch) { t with win := { t.win with
        arg0 := BitVec.ofNat 32 (ys.length + 1), arg1 := 0 } } =
      .next { t with win := { t.win with arg0 := BitVec.ofNat 32 (ys.length + 1), arg1 := 0, res0 := x } }

/-! ### REVERB (45_reverb.md) -/

/-- Derived from R390, with R391: RESET_STATE of REVERB fills the thirteen lines with their steady-state words, sets
every cursor to 0 and the three filter states, marks the channel valid and returns the two tap sums; every byte
outside the arena, every coefficient and every other channel is as before. R391 writes out the signs of the default
REV_TABLE only: for a table with others (`tapMix`; a first tap negated) the two sums are the model's choice
(notes/assumptions/7). -/
def Obligations.ResetStateOfReverb : Prop :=
  ∀ (s : State) (ch : BitVec 6), Inv s → isFinite s.win.arg0 = true → isFinite s.win.arg1 = true →
    ch.toNat < s.hw.nCh → s.regs.reverb.life = .ready → (s.binding .reverb ch.toNat).bound = true →
    ordinary s (arenaBase s .reverb ch.toNat) (arenaSize s .reverb) →
    let v := reverbSeed s.coefs.reverb s.win.arg0 s.win.arg1
    ∃ t, exec (.resetStateReverb ch) s = .next t ∧
      (∀ j k, k < (s.coefs.reverb.cap.get j).toNat → readWord t.mem
        (arenaBase s .reverb ch.toNat + (s.coefs.reverb.off.get j).toNat + 4 * k) = v.get j) ∧
      sameOutside s t (arenaBase s .reverb ch.toNat) (arenaSize s .reverb) ∧
      t = { s with
        mem := t.mem
        win := { s.win with
          res0 := tapMix (fun j _ => v.get j) s.hw.revTable.tapL s.coefs.reverb.tapLK
          res1 := tapMix (fun j _ => v.get j) s.hw.revTable.tapR s.coefs.reverb.tapRK }
        valid := { s.valid with reverb := s.valid.reverb.set ch.toNat true }
        chans := { s.chans with
          reverb := s.chans.reverb.set ch.toNat
            { bwZ1 := v.pd, dlZ1 := v.dlL1, drZ1 := v.dlR1, w := PerLine.const 0 } } }

/-- Derived from R392, with R391 and R372 to R374: PROCESS1 of REVERB returns the two tap sums of the words before the
sample, stores one word to each line at its cursor, advances every cursor modulo its capacity, and writes the three
filter states; every byte outside those thirteen words, every coefficient and every other channel is as before. The
network is written out in `reverbSampleOf`. R391 writes out the signs of the default REV_TABLE only: for a table with
others (`tapMix`; a first tap negated) the two sums are the model's choice (notes/assumptions/7). -/
def Obligations.Process1OfReverb : Prop :=
  ∀ (s : State) (ch : BitVec 6), Inv s → isFinite s.win.arg0 = true → isFinite s.win.arg1 = true →
    admitted s .reverb ch.toNat → ordinary s (arenaBase s .reverb ch.toNat) (arenaSize s .reverb) →
    let r := reverbSampleOf s ch.toNat s.win.arg0 s.win.arg1
    let c := s.coefs.reverb
    ∃ t, exec (.process1Reverb ch) s = .next t ∧
      (∀ j, readWord t.mem (lineNext s ch.toNat j) = r.word.get j) ∧
      (∀ a, (∀ j, ¬(lineNext s ch.toNat j ≤ a ∧ a < lineNext s ch.toNat j + 4)) →
        readByte t.mem a = readByte s.mem a) ∧
      t = { s with
        mem := t.mem
        win := { s.win with
          res0 := tapMix (fun j d => lineWord s ch.toNat j d) s.hw.revTable.tapL c.tapLK
          res1 := tapMix (fun j d => lineWord s ch.toNat j d) s.hw.revTable.tapR c.tapRK }
        chans := { s.chans with
          reverb := s.chans.reverb.set ch.toNat
            { bwZ1 := r.bw, dlZ1 := r.dl, drZ1 := r.dr
              w := PerLine.of fun j => BitVec.ofNat 32
                ((lineCursor s (.reverb ch.toNat j) + 1) % lineCap s (.reverb ch.toNat j)) } } }

/-! ### Batched commands (40_protocol.md R156, R157) -/

/-- Derived from R156: PROCESS of every unit runs to its end, with every window register as it was (RES included) and
DIRTY cleared, when its channel is admitted, its buffers are aligned, in range and ordinary memory, its input words
are finite and no output or arena write reaches an input word before it is read. -/
def Obligations.ProcessCompletes : Prop :=
  ∀ (u : UnitId) (s : State) (ch : BitVec 6), Inv s → admitted s u ch.toNat →
    (hasMemory u = true → ordinary s (arenaBase s u ch.toNat) (arenaSize s u)) →
    (∀ b ∈ inArgs u s.win ++ outArgs u s.win, bufferPlain s b (processN u s.win)) →
    (∀ b ∈ inArgs u s.win, samplesFinite s b (processN u s.win) ∧
      (hasMemory u = true → clearOfArena s u ch.toNat b (processN u s.win)) ∧
      ∀ c ∈ outArgs u s.win, readBeforeWritten b c (processN u s.win)) →
    ∃ t, exec (processOf u ch) s = .next t ∧ t.win = s.win ∧ t.regs.get u = { s.regs.get u with dirty := 0 } ∧
      t.valid = s.valid ∧ t.binds = s.binds ∧ ∀ v, v ≠ u → sameUnit s t v

/-- Derived from R157: PROCESS_MULTI of every unit runs to its end, with every window register as it was and DIRTY
cleared, when its channel count is at most N_CH, its channels are admitted, its tables and the buffers they name are
aligned, in range and ordinary memory, its input words are finite and no output or arena write reaches an input word
before it is read. -/
def Obligations.ProcessMultiCompletes : Prop :=
  ∀ (u : UnitId) (s : State), Inv s → (s.regs.get u).life = .ready → (multiM u s.win).toNat ≤ s.hw.nCh →
    (∀ c, c < (multiM u s.win).toNat → admitted s u c ∧
      (hasMemory u = true → ordinary s (arenaBase s u c) (arenaSize s u))) →
    (∀ T ∈ inArgs u s.win ++ outArgs u s.win, bufferPlain s T (multiM u s.win).toNat ∧
      ∀ c, c < (multiM u s.win).toNat → bufferPlain s (tableEntry s T c) (multiN u s.win)) →
    (∀ T ∈ inArgs u s.win, ∀ c, c < (multiM u s.win).toNat →
      samplesFinite s (tableEntry s T c) (multiN u s.win) ∧
      ∀ c', c' < (multiM u s.win).toNat →
        (hasMemory u = true → clearOfArena s u c' (tableEntry s T c) (multiN u s.win)) ∧
        ∀ T' ∈ outArgs u s.win, readBeforeWritten (tableEntry s T c) (tableEntry s T' c') (multiN u s.win)) →
    ∃ t, exec (processMultiOf u) s = .next t ∧ t.win = s.win ∧
      t.regs.get u = { s.regs.get u with dirty := 0 } ∧ t.valid = s.valid ∧ t.binds = s.binds ∧
      ∀ v, v ≠ u → sameUnit s t v

/-- Derived from R156 and R157: whatever PROCESS or PROCESS_MULTI does, a fault part-way included, every byte outside
the output buffers and the arenas of its channels is as before. The buffers are the ones the command's operands, or
its tables, name. -/
def Obligations.BatchedCommandsWriteOnlyOutputs : Prop :=
  (∀ (u : UnitId) (s t : State) (ch : BitVec 6), Inv s → exec (processOf u ch) s = .next t →
    ∀ a, (∀ b ∈ outArgs u s.win, ¬(b.toNat ≤ a ∧ a < b.toNat + 4 * processN u s.win)) →
      ¬(arenaBase s u ch.toNat ≤ a ∧ a < arenaBase s u ch.toNat + arenaSize s u) →
      readByte t.mem a = readByte s.mem a) ∧
  ∀ (u : UnitId) (s t : State), Inv s → exec (processMultiOf u) s = .next t →
    ∀ a, (∀ T ∈ outArgs u s.win, ∀ c, c < (multiM u s.win).toNat →
        ¬((tableEntry s T c).toNat ≤ a ∧ a < (tableEntry s T c).toNat + 4 * multiN u s.win)) →
      (∀ c, c < (multiM u s.win).toNat →
        ¬(arenaBase s u c ≤ a ∧ a < arenaBase s u c + arenaSize s u)) →
      readByte t.mem a = readByte s.mem a

/-- Derived from R156, R157, R153 and R440: PROCESS and PROCESS_MULTI of every unit come to the host's own loop: one
UPDATE_CTRL; then for each sample the loads of every channel's input words, the test that all are finite, one
UPDATE_AUDIO, and for each channel in turn its PROCESS1 and the stores of its results. A fault at sample i ends the
command as it ends the loop there, with info1 = i: a BUS_ERROR of a load leaves samples 0 to i - 1 complete and nothing
of sample i, one of PROCESS1 what that PROCESS1 leaves, one of a store what was done before it; a NONFINITE nothing of
sample i. The window, which the loop's commands use, is but for the fault's entry as it was. For a BUS_ERROR of a load of
PROCESS_MULTI this is R157's order; R440's row read literally has the sample's audio-rate update and the channels before
complete: the order is the model's choice (notes/assumptions/20). -/
def Obligations.ProcessIsTheHostLoop : Prop :=
  (∀ (u : UnitId) (s t : State) (ch : BitVec 6), statusFault s.win.status = false → admitted s u ch.toNat →
    (∀ b ∈ inArgs u s.win ++ outArgs u s.win, bufferLegal (processN u s.win) b) →
    exec (processOf u ch) s = .next t →
    ∃ s1 e, exec (updateCtrlOf u) s = .next s1 ∧
      hostLoop u [processLane u ch s.win] 0 (processN u s.win) s1 = some e ∧
      t = e.finish s.win (encode (processOf u ch))) ∧
  ∀ (u : UnitId) (s t : State), s.hw.nCh ≤ 64 → statusFault s.win.status = false → multiAdmitted s u →
    multiOperands s u → exec (processMultiOf u) s = .next t →
    ∃ s1 e, exec (updateCtrlOf u) s = .next s1 ∧ hostLoop u (multiLanes u s) 0 (multiN u s.win) s1 = some e ∧
      t = e.finish s.win (encode (processMultiOf u))

/-- Derived from R156, R157 and R440's rows for them: when PROCESS or PROCESS_MULTI faults NONFINITE at sample i, the
state is the one the command ends with when it is given only i samples, but for the window: samples 0 to i - 1 are
complete and sample i has had no effect, of no channel, not even its audio-rate update. -/
def Obligations.NonfiniteSampleIsPrecise : Prop :=
  (∀ (u : UnitId) (s t : State) (ch : BitVec 6), statusFault s.win.status = false →
    exec (processOf u ch) s = .next t → t.win.status = statusOf .nonfinite →
    ∃ t', exec (processOf u ch) { s with win := withCount u s.win t.win.faultInfo1 } = .next t' ∧
      statusFault t'.win.status = false ∧ t = { t' with win := t.win } ∧ t.win.faultCmd = encode (processOf u ch)) ∧
  ∀ (u : UnitId) (s t : State), statusFault s.win.status = false →
    exec (processMultiOf u) s = .next t → t.win.status = statusOf .nonfinite →
    ∃ t', exec (processMultiOf u) { s with win := withMultiCount u s.win t.win.faultInfo1 } = .next t' ∧
      statusFault t'.win.status = false ∧ t = { t' with win := t.win } ∧ t.win.faultCmd = encode (processMultiOf u)

/-- Derived from R156, R157, R85, R86 and R432: PROCESS of an admitted channel checks its buffers in order, inputs
before outputs: the first that is not 4-aligned faults MISALIGNED, the first that passes 2^32 faults ADDR_RANGE,
alignment before range for one buffer. PROCESS_MULTI checks in this order: more channels than the block has fault
OPERAND_RANGE; then of each channel from 0 on, where the unit has memory, an unbound one faults MEM_UNBOUND, and one
that is not valid STATE_INVALID; then its tables, and then, the tables read, the pointers in them, as PROCESS its
buffers. None of them has any other effect. -/
def Obligations.BatchedOperandChecks : Prop :=
  (∀ (u : UnitId) (s : State) (ch : BitVec 6) (before after : List Word) (b : Word), admitted s u ch.toNat →
    inArgs u s.win ++ outArgs u s.win = before ++ b :: after → (∀ c ∈ before, bufferLegal (processN u s.win) c) →
    (b.toNat % 4 ≠ 0 → exec (processOf u ch) s =
      .next (enterFault (encode (processOf u ch)) .misaligned b 0 s)) ∧
    (b.toNat % 4 = 0 → 2 ^ 32 < b.toNat + 4 * processN u s.win → exec (processOf u ch) s =
      .next (enterFault (encode (processOf u ch)) .addrRange b 0 s))) ∧
  ∀ (u : UnitId) (s : State), (s.regs.get u).life = .ready →
    let i := processMultiOf u
    let m := (multiM u s.win).toNat
    (s.hw.nCh < m → exec i s = .next (enterFault (encode i) .operandRange (multiM u s.win) 0 s)) ∧
    (∀ c, m ≤ s.hw.nCh → c < m → (∀ c', c' < c → admitted s u c') →
      (hasMemory u = true → (s.binding u c).bound = false →
        exec i s = .next (enterFault (encode i) .memUnbound (BitVec.ofNat 32 c) 0 s)) ∧
      ((hasMemory u = true → (s.binding u c).bound = true) → s.stValid u c = false →
        exec i s = .next (enterFault (encode i) .stateInvalid (BitVec.ofNat 32 c) 0 s))) ∧
    (∀ (before after : List Word) (T : Word), multiAdmitted s u →
      inArgs u s.win ++ outArgs u s.win = before ++ T :: after → (∀ T' ∈ before, bufferLegal m T') →
      (T.toNat % 4 ≠ 0 → exec i s = .next (enterFault (encode i) .misaligned T 0 s)) ∧
      (T.toNat % 4 = 0 → 2 ^ 32 < T.toNat + 4 * m →
        exec i s = .next (enterFault (encode i) .addrRange T 0 s))) ∧
    ∀ (before after : List Word) (b : Word), multiAdmitted s u →
      (∀ T ∈ inArgs u s.win ++ outArgs u s.win, bufferLegal m T) → (∀ a ∈ tableReads u s.win, ordinary s a 4) →
      tablePointers u s = before ++ b :: after → (∀ c ∈ before, bufferLegal (multiN u s.win) c) →
      (b.toNat % 4 ≠ 0 → exec i s = .next (enterFault (encode i) .misaligned b 0 s)) ∧
      (b.toNat % 4 = 0 → 2 ^ 32 < b.toNat + 4 * multiN u s.win →
        exec i s = .next (enterFault (encode i) .addrRange b 0 s))

/-- Derived from R81, R145, R350 to R352, R390, R392, R393 and R440's rows for BUS_ERROR: the first access of a command
that the platform's bus answers with an error faults BUS_ERROR with the word's address, and everything before it stays.
DELAY: DELAY_WRITE and PROCESS1 at their store and DELAY_READ at a load change nothing else; PROCESS1 at a load has
stored its word and advanced its cursor; RESET_STATE at word k has filled the words before it. REVERB: RESET_STATE at
word k of line j has filled the words before it, set the cursors of the lines before j and the filter states R390 writes
between them; PROCESS1 at any access of R393 has made the stages before it. PROCESS_MULTI at a table entry has changed
nothing; PROCESS and PROCESS_MULTI at a load of sample i have info1 = i and leave what a command of only i samples
leaves (their other accesses: ProcessIsTheHostLoop). RES is as before throughout. That RESET_STATE leaves ST_VALID 0
where it was 1 is the model's reading (notes/assumptions/8), and so are the filter states it leaves
(notes/assumptions/19), and that a load of PROCESS_MULTI fails before the sample's audio-rate update and before any
channel processes the sample (notes/assumptions/20). -/
def Obligations.BusErrors : Prop :=
  (∀ (s : State) (ch : BitVec 6), Inv s → isFinite s.win.arg0 = true → admitted s .delay ch.toNat →
    let a := arenaBase s .delay ch.toNat + 4 * lineCursor s (.delay ch.toNat)
    busFails s a → ∀ i, i = .delayWriteDelay ch ∨ i = .process1Delay ch →
      exec i s = .next (enterFault (encode i) .busError (BitVec.ofNat 32 a) 0 s)) ∧
  (∀ (s : State) (ch : BitVec 6), Inv s → admitted s .delay ch.toNat →
    let f := s.win.arg1
    let len := s.coefs.delay.len.toNat
    let at_ := fun d => arenaBase s .delay ch.toNat + 4 * lineIndex s (.delay ch.toNat) d
    isFinite f = true → 0 ≤ scaled f → scaled f < 2 ^ 149 → 1 ≤ s.win.arg0.toNat →
    s.win.arg0.toNat ≤ (if scaled f = 0 then len else len - 1) →
    ∀ a, busFails s a → a = at_ s.win.arg0.toNat ∨ (scaled f ≠ 0 ∧ ordinary s (at_ s.win.arg0.toNat) 4 ∧
        a = at_ (s.win.arg0.toNat + 1)) →
      exec (.delayReadDelay ch) s =
        .next (enterFault (encode (.delayReadDelay ch)) .busError (BitVec.ofNat 32 a) 0 s)) ∧
  (∀ (s : State) (ch : BitVec 6), Inv s → isFinite s.win.arg0 = true → admitted s .delay ch.toNat →
    let c := s.coefs.delay
    let at_ := fun k => arenaBase s .delay ch.toNat + 4 * k
    let w := lineCursor s (.delay ch.toNat)
    let s' := { s with
      mem := writeWord s.mem (at_ w) s.win.arg0
      chans := { s.chans with delay := s.chans.delay.set ch.toNat { w := BitVec.ofNat 32 ((w + 1) % c.len.toNat) } } }
    let load := fun d => at_ (lineIndex s' (.delay ch.toNat) d)
    ordinary s (at_ w) 4 → ∀ a, busFails s a → a = load (c.di.toNat + 1) ∨
        (fEq c.df 0#32 = false ∧ ordinary s (load (c.di.toNat + 1)) 4 ∧ a = load (c.di.toNat + 2)) →
      exec (.process1Delay ch) s =
        .next (enterFault (encode (.process1Delay ch)) .busError (BitVec.ofNat 32 a) 0 s')) ∧
  (∀ (s : State) (ch : BitVec 6) (k : Nat), Inv s → isFinite s.win.arg0 = true → ch.toNat < s.hw.nCh →
    s.regs.delay.life = .ready → (s.binding .delay ch.toNat).bound = true → k < s.coefs.delay.len.toNat →
    let b := arenaBase s .delay ch.toNat
    (∀ j, j < k → ordinary s (b + 4 * j) 4) → busFails s (b + 4 * k) →
    ∃ m, exec (.resetStateDelay ch) s =
        .next (enterFault (encode (.resetStateDelay ch)) .busError (BitVec.ofNat 32 (b + 4 * k)) 0
          { s with mem := m, valid := { s.valid with delay := s.valid.delay.set ch.toNat false } }) ∧
      (∀ j, j < k → readWord m (b + 4 * j) = s.win.arg0) ∧
      ∀ a, ¬(b ≤ a ∧ a < b + 4 * k) → readByte m a = readByte s.mem a) ∧
  (∀ (s : State) (ch : BitVec 6) (j : Config.RevLine) (k : Nat), Inv s → isFinite s.win.arg0 = true →
    isFinite s.win.arg1 = true → ch.toNat < s.hw.nCh → s.regs.reverb.life = .ready →
    (s.binding .reverb ch.toNat).bound = true → k < (s.coefs.reverb.cap.get j).toNat →
    let v := reverbSeed s.coefs.reverb s.win.arg0 s.win.arg1
    let b := arenaBase s .reverb ch.toNat
    let off := fun l => (s.coefs.reverb.off.get l).toNat
    (∀ x, 4 * x < off j + 4 * k → ordinary s (b + 4 * x) 4) → busFails s (b + off j + 4 * k) →
    ∃ m, exec (.resetStateReverb ch) s =
        .next (enterFault (encode (.resetStateReverb ch)) .busError (BitVec.ofNat 32 (b + off j + 4 * k)) 0
          { s with
            mem := m
            valid := { s.valid with reverb := s.valid.reverb.set ch.toNat false }
            chans := { s.chans with
              reverb := s.chans.reverb.set ch.toNat (seedBefore v (s.chans.reverb.getD ch.toNat {}) j) } }) ∧
      (∀ l ∈ linesBefore j, ∀ x, x < (s.coefs.reverb.cap.get l).toNat → readWord m (b + off l + 4 * x) = v.get l) ∧
      (∀ x, x < k → readWord m (b + off j + 4 * x) = v.get j) ∧
      ∀ a, ¬(b ≤ a ∧ a < b + off j + 4 * k) → readByte m a = readByte s.mem a) ∧
  (∀ (s : State) (ch : BitVec 6) (before after : List (Nat × Nat)) (a n : Nat), Inv s →
    isFinite s.win.arg0 = true → isFinite s.win.arg1 = true → admitted s .reverb ch.toNat →
    reverbAccesses s ch.toNat = before ++ (a, n) :: after → (∀ p ∈ before, ordinary s p.1 4) → busFails s a →
    let r := reverbSampleOf s ch.toNat s.win.arg0 s.win.arg1
    ∃ m, exec (.process1Reverb ch) s =
        .next (enterFault (encode (.process1Reverb ch)) .busError (BitVec.ofNat 32 a) 0
          { s with
            mem := m
            chans := { s.chans with reverb := s.chans.reverb.set ch.toNat (sampleBefore s ch.toNat r n) } }) ∧
      (∀ j ∈ linesWritten n, readWord m (lineNext s ch.toNat j) = r.word.get j) ∧
      ∀ a, (∀ j ∈ linesWritten n, ¬(lineNext s ch.toNat j ≤ a ∧ a < lineNext s ch.toNat j + 4)) →
        readByte m a = readByte s.mem a) ∧
  (∀ (u : UnitId) (s : State) (before after : List Nat) (a : Nat), multiAdmitted s u →
    (∀ T ∈ inArgs u s.win ++ outArgs u s.win, bufferLegal (multiM u s.win).toNat T) →
    tableReads u s.win = before ++ a :: after → (∀ x ∈ before, ordinary s x 4) → busFails s a →
    exec (processMultiOf u) s =
      .next (enterFault (encode (processMultiOf u)) .busError (BitVec.ofNat 32 a) 0 s)) ∧
  (∀ (u : UnitId) (s t : State) (ch : BitVec 6) (before after : List Word) (b : Word) (i : Nat),
    admitted s u ch.toNat → (∀ b ∈ inArgs u s.win ++ outArgs u s.win, bufferLegal (processN u s.win) b) →
    i < processN u s.win →
    exec (processOf u ch) { s with win := withCount u s.win (BitVec.ofNat 32 i) } = .next t →
    statusFault t.win.status = false → inArgs u s.win = before ++ b :: after →
    (∀ c ∈ before, ordinary s (c.toNat + 4 * i) 4) → busFails s (b.toNat + 4 * i) →
    exec (processOf u ch) s = .next (enterFault (encode (processOf u ch)) .busError
      (BitVec.ofNat 32 (b.toNat + 4 * i)) (BitVec.ofNat 32 i) { t with win := s.win })) ∧
  ∀ (u : UnitId) (s t : State) (before after : List Nat) (a i : Nat), s.hw.nCh ≤ 64 → multiAdmitted s u →
    multiOperands s u → i < multiN u s.win →
    exec (processMultiOf u) { s with win := withMultiCount u s.win (BitVec.ofNat 32 i) } = .next t →
    statusFault t.win.status = false → laneLoads (multiLanes u s) i = before ++ a :: after →
    (∀ x ∈ before, ordinary s x 4) → busFails s a →
    exec (processMultiOf u) s = .next (enterFault (encode (processMultiOf u)) .busError
      (BitVec.ofNat 32 a) (BitVec.ofNat 32 i) { t with win := s.win })

/-! ### Memory binding and register access (40_protocol.md R150, R151, R160, R161) -/

/-- R150 and R151: MEM_REQ returns the size of an arena; MEM_SET binds an aligned base whose arena does not pass 2^32
and marks the channel invalid, and faults MISALIGNED, then ADDR_RANGE, otherwise; no memory is accessed. -/
def Obligations.MemReqAndMemSet : Prop :=
  (∀ s : State, (s.regs.delay.life = .srSet ∨ s.regs.delay.life = .ready →
      exec .memReqDelay s = .next { s with win := { s.win with res0 := s.coefs.delay.memReq } }) ∧
    (s.regs.reverb.life = .srSet ∨ s.regs.reverb.life = .ready →
      exec .memReqReverb s = .next { s with win := { s.win with res0 := s.coefs.reverb.memReq } })) ∧
  ∀ (s : State) (ch : BitVec 6), ch.toNat < s.hw.nCh →
    (s.regs.delay.life = .srSet ∨ s.regs.delay.life = .ready →
      (s.win.arg0.toNat % 4 ≠ 0 → exec (.memSetDelay ch) s =
        .next (enterFault (0x32000000#32 ||| (ch.setWidth 32 <<< 16)) .misaligned s.win.arg0 0 s)) ∧
      (s.win.arg0.toNat % 4 = 0 → 2 ^ 32 < s.win.arg0.toNat + s.coefs.delay.memReq.toNat → exec (.memSetDelay ch) s =
        .next (enterFault (0x32000000#32 ||| (ch.setWidth 32 <<< 16)) .addrRange s.win.arg0 0 s)) ∧
      (s.win.arg0.toNat % 4 = 0 → s.win.arg0.toNat + s.coefs.delay.memReq.toNat ≤ 2 ^ 32 →
        exec (.memSetDelay ch) s = .next { s with
          binds := { s.binds with delay := s.binds.delay.set ch.toNat { bound := true, base := s.win.arg0 } }
          valid := { s.valid with delay := s.valid.delay.set ch.toNat false } })) ∧
    (s.regs.reverb.life = .srSet ∨ s.regs.reverb.life = .ready →
      (s.win.arg0.toNat % 4 ≠ 0 → exec (.memSetReverb ch) s =
        .next (enterFault (0x32400000#32 ||| (ch.setWidth 32 <<< 16)) .misaligned s.win.arg0 0 s)) ∧
      (s.win.arg0.toNat % 4 = 0 → 2 ^ 32 < s.win.arg0.toNat + s.coefs.reverb.memReq.toNat → exec (.memSetReverb ch) s =
        .next (enterFault (0x32400000#32 ||| (ch.setWidth 32 <<< 16)) .addrRange s.win.arg0 0 s)) ∧
      (s.win.arg0.toNat % 4 = 0 → s.win.arg0.toNat + s.coefs.reverb.memReq.toNat ≤ 2 ^ 32 →
        exec (.memSetReverb ch) s = .next { s with
          binds := { s.binds with reverb := s.binds.reverb.set ch.toNat { bound := true, base := s.win.arg0 } }
          valid := { s.valid with reverb := s.valid.reverb.set ch.toNat false } }))

/-- R140, R160 and R161: NOP changes nothing; READ_COEF, and READ_STATE of a channel the block has, return the
register their select names and change nothing else; in every state, whatever the lifecycle. -/
def Obligations.NopAndRegisterReads : Prop :=
  (encode .nop = 0x00000000#32 ∧ ∀ s : State, exec .nop s = .next s) ∧
  (∀ (i : Instr) (u : UnitId) (s : State), i.fields.opc = 0x0F#6 → unitOfInstr i = some u →
    ∃ v, coefReg s u i.fields.sel = some v ∧ exec i s = .next { s with win := { s.win with res0 := v } }) ∧
  ∀ (i : Instr) (u : UnitId) (ch : BitVec 6) (s : State), i.fields.opc = 0x10#6 → unitOfInstr i = some u →
    i.channel = some ch → ch.toNat < s.hw.nCh →
    ∃ v, stateReg s u ch.toNat i.fields.sel = some v ∧ exec i s = .next { s with win := { s.win with res0 := v } }

/-! ### Setters (40_protocol.md R149; 41 to 45) -/

/-- R220 to R227: the setters of ONEPOLE. -/
def Obligations.SettersOfOnePole : Prop :=
  SetterRule .setParamOnepoleCutoff 0x28000000#32 .onepole cutoffLegal 0b0011 (fun v c =>
    { c with onepole := { c.onepole with cutoffUp := v, cutoffDown := v } }) ∧
  SetterRule .setParamOnepoleCutoffUp 0x28000100#32 .onepole cutoffLegal 0b0001 (fun v c =>
    { c with onepole := { c.onepole with cutoffUp := v } }) ∧
  SetterRule .setParamOnepoleCutoffDown 0x28000200#32 .onepole cutoffLegal 0b0010 (fun v c =>
    { c with onepole := { c.onepole with cutoffDown := v } }) ∧
  SetterRule .setParamOnepoleTau 0x28000300#32 .onepole cutoffLegal 0b0011 (fun t c =>
    let v := if scaled t = 0 then 0x7F800000#32 else fDiv 0x3E22F983#32 t
    { c with onepole := { c.onepole with cutoffUp := v, cutoffDown := v } }) ∧
  SetterRule .setParamOnepoleTauUp 0x28000400#32 .onepole cutoffLegal 0b0001 (fun t c =>
    { c with onepole := { c.onepole with
      cutoffUp := if scaled t = 0 then 0x7F800000#32 else fDiv 0x3E22F983#32 t } }) ∧
  SetterRule .setParamOnepoleTauDown 0x28000500#32 .onepole cutoffLegal 0b0010 (fun t c =>
    { c with onepole := { c.onepole with
      cutoffDown := if scaled t = 0 then 0x7F800000#32 else fDiv 0x3E22F983#32 t } }) ∧
  SetterRule .setParamOnepoleStickyThresh 0x28000600#32 .onepole nonnegLegal 0b0100 (fun v c =>
    { c with onepole := { c.onepole with stickyThresh := v } }) ∧
  SetterRule .setParamOnepoleStickyMode 0x28000700#32 .onepole flagLegal 0b1000 (fun v c =>
    { c with onepole := { c.onepole with stickyMode := v } })

/-- R269 to R273 and R252 to R259: the setters of MM1 and MM2. -/
def Obligations.SettersOfMultiMode : Prop :=
  SetterRule .setParamMm1Cutoff 0x28400000#32 .mm1 nonnegLegal 0b001 (fun v c =>
    { c with mm1 := { c.mm1 with cutoff := v } }) ∧
  SetterRule .setParamMm1PrewarpAtCutoff 0x28400100#32 .mm1 flagLegal 0b010 (fun v c =>
    { c with mm1 := { c.mm1 with prewarpAtCutoff := v } }) ∧
  SetterRule .setParamMm1PrewarpFreq 0x28400200#32 .mm1 positiveLegal 0b010 (fun v c =>
    { c with mm1 := { c.mm1 with prewarpFreq := v } }) ∧
  SetterRule .setParamMm1CoeffX 0x28400300#32 .mm1 finiteLegal 0b100 (fun v c =>
    { c with mm1 := { c.mm1 with coeffX := v } }) ∧
  SetterRule .setParamMm1CoeffLp 0x28400400#32 .mm1 finiteLegal 0b100 (fun v c =>
    { c with mm1 := { c.mm1 with coeffLp := v } }) ∧
  SetterRule .setParamMm2Cutoff 0x28800000#32 .mm2 nonnegLegal 0b0001 (fun v c =>
    { c with mm2 := { c.mm2 with cutoff := v } }) ∧
  SetterRule .setParamMm2Q 0x28800100#32 .mm2 finiteLegal 0b0010 (fun v c =>
    { c with mm2 := { c.mm2 with q := v } }) ∧
  SetterRule .setParamMm2PrewarpAtCutoff 0x28800200#32 .mm2 flagLegal 0b0100 (fun v c =>
    { c with mm2 := { c.mm2 with prewarpAtCutoff := v } }) ∧
  SetterRule .setParamMm2PrewarpFreq 0x28800300#32 .mm2 positiveLegal 0b0100 (fun v c =>
    { c with mm2 := { c.mm2 with prewarpFreq := v } }) ∧
  SetterRule .setParamMm2CoeffX 0x28800400#32 .mm2 finiteLegal 0b1000 (fun v c =>
    { c with mm2 := { c.mm2 with coeffX := v } }) ∧
  SetterRule .setParamMm2CoeffLp 0x28800500#32 .mm2 finiteLegal 0b1000 (fun v c =>
    { c with mm2 := { c.mm2 with coeffLp := v } }) ∧
  SetterRule .setParamMm2CoeffBp 0x28800600#32 .mm2 finiteLegal 0b1000 (fun v c =>
    { c with mm2 := { c.mm2 with coeffBp := v } }) ∧
  SetterRule .setParamMm2CoeffHp 0x28800700#32 .mm2 finiteLegal 0b1000 (fun v c =>
    { c with mm2 := { c.mm2 with coeffHp := v } })

/-- R287 to R289, R293 to R297 and R301 to R306: the setters of HP1, LS1 and LS2. -/
def Obligations.SettersOfShelves : Prop :=
  SetterRule .setParamHp1Cutoff 0x28C00000#32 .hp1 nonnegLegal 0b01 (fun v c =>
    { c with hp1 := { c.hp1 with cutoff := v } }) ∧
  SetterRule .setParamHp1PrewarpAtCutoff 0x28C00100#32 .hp1 flagLegal 0b10 (fun v c =>
    { c with hp1 := { c.hp1 with prewarpAtCutoff := v } }) ∧
  SetterRule .setParamHp1PrewarpFreq 0x28C00200#32 .hp1 positiveLegal 0b10 (fun v c =>
    { c with hp1 := { c.hp1 with prewarpFreq := v } }) ∧
  SetterRule .setParamLs1Cutoff 0x29000000#32 .ls1 positiveLegal 0b001 (fun v c =>
    { c with ls1 := { c.ls1 with cutoff := v } }) ∧
  SetterRule .setParamLs1DcGainLin 0x29000100#32 .ls1 positiveLegal 0b010 (fun v c =>
    { c with ls1 := { c.ls1 with dcGainLin := v, gainIsDb := 0 } }) ∧
  SetterRule .setParamLs1DcGainDb 0x29000200#32 .ls1 dbLegal 0b010 (fun v c =>
    { c with ls1 := { c.ls1 with dcGainDb := v, gainIsDb := 1 } }) ∧
  SetterRule .setParamLs1PrewarpAtCutoff 0x29000300#32 .ls1 flagLegal 0b100 (fun v c =>
    { c with ls1 := { c.ls1 with prewarpAtCutoff := v } }) ∧
  SetterRule .setParamLs1PrewarpFreq 0x29000400#32 .ls1 positiveLegal 0b100 (fun v c =>
    { c with ls1 := { c.ls1 with prewarpFreq := v } }) ∧
  SetterRule .setParamLs2Cutoff 0x29400000#32 .ls2 positiveLegal 0b0001 (fun v c =>
    { c with ls2 := { c.ls2 with cutoff := v } }) ∧
  SetterRule .setParamLs2Q 0x29400100#32 .ls2 finiteLegal 0b0010 (fun v c =>
    { c with ls2 := { c.ls2 with q := v } }) ∧
  SetterRule .setParamLs2DcGainLin 0x29400200#32 .ls2 positiveLegal 0b0100 (fun v c =>
    { c with ls2 := { c.ls2 with dcGainLin := v, gainIsDb := 0 } }) ∧
  SetterRule .setParamLs2DcGainDb 0x29400300#32 .ls2 dbLegal 0b0100 (fun v c =>
    { c with ls2 := { c.ls2 with dcGainDb := v, gainIsDb := 1 } }) ∧
  SetterRule .setParamLs2PrewarpAtCutoff 0x29400400#32 .ls2 flagLegal 0b1000 (fun v c =>
    { c with ls2 := { c.ls2 with prewarpAtCutoff := v } }) ∧
  SetterRule .setParamLs2PrewarpFreq 0x29400500#32 .ls2 positiveLegal 0b1000 (fun v c =>
    { c with ls2 := { c.ls2 with prewarpFreq := v } })

/-- R310 to R313 and R317 to R324: the setters of AP2 and PEAK. -/
def Obligations.SettersOfAllpassAndPeak : Prop :=
  SetterRule .setParamAp2Cutoff 0x29800000#32 .ap2 nonnegLegal 0b001 (fun v c =>
    { c with ap2 := { c.ap2 with cutoff := v } }) ∧
  SetterRule .setParamAp2Q 0x29800100#32 .ap2 finiteLegal 0b010 (fun v c =>
    { c with ap2 := { c.ap2 with q := v } }) ∧
  SetterRule .setParamAp2PrewarpAtCutoff 0x29800200#32 .ap2 flagLegal 0b100 (fun v c =>
    { c with ap2 := { c.ap2 with prewarpAtCutoff := v } }) ∧
  SetterRule .setParamAp2PrewarpFreq 0x29800300#32 .ap2 positiveLegal 0b100 (fun v c =>
    { c with ap2 := { c.ap2 with prewarpFreq := v } }) ∧
  SetterRule .setParamPeakCutoff 0x29C00000#32 .peak nonnegLegal 0b0001 (fun v c =>
    { c with peak := { c.peak with cutoff := v } }) ∧
  SetterRule .setParamPeakQ 0x29C00100#32 .peak finiteLegal 0b0010 (fun v c =>
    { c with peak := { c.peak with q := v } }) ∧
  SetterRule .setParamPeakPeakGainLin 0x29C00200#32 .peak positiveLegal 0b0100 (fun v c =>
    { c with peak := { c.peak with peakGainLin := v, gainIsDb := 0 } }) ∧
  SetterRule .setParamPeakPeakGainDb 0x29C00300#32 .peak dbLegal 0b0100 (fun v c =>
    { c with peak := { c.peak with peakGainDb := v, gainIsDb := 1 } }) ∧
  SetterRule .setParamPeakBandwidth 0x29C00400#32 .peak positiveLegal 0b0010 (fun v c =>
    { c with peak := { c.peak with bandwidth := v } }) ∧
  SetterRule .setParamPeakUseBandwidth 0x29C00500#32 .peak flagLegal 0b0010 (fun v c =>
    { c with peak := { c.peak with useBandwidth := v } }) ∧
  SetterRule .setParamPeakPrewarpAtCutoff 0x29C00600#32 .peak flagLegal 0b1000 (fun v c =>
    { c with peak := { c.peak with prewarpAtCutoff := v } }) ∧
  SetterRule .setParamPeakPrewarpFreq 0x29C00700#32 .peak positiveLegal 0b1000 (fun v c =>
    { c with peak := { c.peak with prewarpFreq := v } })

/-- R354 and R394 to R397: the setters of DELAY and REVERB. -/
def Obligations.SettersOfDelayAndReverb : Prop :=
  SetterRule .setParamDelayDelay 0x2A000000#32 .delay nonnegLegal 0b1 (fun v c =>
    { c with delay := { c.delay with delay := v } }) ∧
  SetterRule .setParamReverbPredelay 0x2A400000#32 .reverb predelayLegal 0b0001 (fun v c =>
    { c with reverb := { c.reverb with predelay := v } }) ∧
  SetterRule .setParamReverbBandwidth 0x2A400100#32 .reverb cutoffLegal 0b0010 (fun v c =>
    { c with reverb := { c.reverb with bandwidth := v } }) ∧
  SetterRule .setParamReverbDamping 0x2A400200#32 .reverb cutoffLegal 0b0100 (fun v c =>
    { c with reverb := { c.reverb with damping := v } }) ∧
  SetterRule .setParamReverbDecay 0x2A400300#32 .reverb decayLegal 0b1000 (fun v c =>
    { c with reverb := { c.reverb with decay := v } })

/-! ### Rules of the whole machine -/

/-- Derived from R30: its transitions by a command, and that no other command changes LIFE: whatever command answers a
next state, each unit's LIFE is as it was, or the command is that unit's INIT, SET_SR or RESET_COEFFS from an
accepting value. -/
def Obligations.LifecycleTransitions : Prop :=
  ∀ (i : Instr) (s t : State) (u : UnitId), exec i s = .next t →
    (t.regs.get u).life = (s.regs.get u).life ∨
    (i = initOf u ∧ (t.regs.get u).life = .inited) ∨
    (i = setSrOf u ∧ isInited (s.regs.get u).life ∧ (t.regs.get u).life = .srSet) ∨
    (i = resetCoeffsOf u ∧ ((s.regs.get u).life = .srSet ∨ (s.regs.get u).life = .ready) ∧
      (t.regs.get u).life = .ready)

/-- Derived from R22, R37 to R44, R80 and R149: a command changes no unit but its own, never an ARG register, the
instance or the host's queue; only INIT and SET_PARAM change a parameter register; and only the commands R80 lists
write data memory. -/
def Obligations.CommandsKeepToTheirOwn : Prop :=
  ∀ (i : Instr) (s t : State), exec i s = .next t →
    (∀ u, unitOfInstr i ≠ some u → sameUnit s t u) ∧
    t.win.arg0 = s.win.arg0 ∧ t.win.arg1 = s.win.arg1 ∧ t.win.arg2 = s.win.arg2 ∧ t.win.arg3 = s.win.arg3 ∧
    t.win.arg4 = s.win.arg4 ∧ t.win.arg5 = s.win.arg5 ∧ t.hw = s.hw ∧ t.inbox = s.inbox ∧ t.reply = s.reply ∧
    (i.fields.opc ≠ 0x01#6 → i.fields.opc ≠ 0x0A#6 → ∀ u (sel : BitVec 8), sel.toNat < 0x40 →
      coefReg t u sel = coefReg s u sel) ∧
    (i.fields.opc ≠ 0x08#6 → i.fields.opc ≠ 0x09#6 →
      (∀ u, unitOfInstr i = some u → hasMemory u = true →
        i.fields.opc ≠ 0x04#6 ∧ i.fields.opc ≠ 0x07#6 ∧ i.fields.opc ≠ 0x0E#6) →
      ∀ a, readByte t.mem a = readByte s.mem a)

/-- The invariant of Safety.lean is kept by every step, from every state that has it: the ranges of the open parameters
(the bounds of REV_TABLE are the model's, notes/assumptions/7), the memory's canonical form, the
counts of channels, the legal STATUS words, the DIRTY masks, the sample rates, the layout of the arenas, the bindings
and the cursors. -/
def Obligations.EveryStepKeepsInv : Prop :=
  ∀ s t : State, Inv s → step s = .next t → Inv t

/-- Every step keeps every parameter register in the legal set of its setter. -/
def Obligations.EveryStepKeepsLegalParams : Prop :=
  ∀ s t : State, legalParams s → step s = .next t → legalParams t

/-- Derived from R85, R86, R382 and R87: where the platform has no location with side effects, every command answers a
next state from every state with the invariant: no engine access is misaligned or passes 2^32, and nothing stops. The
stops it excludes are the model's own: the fault of an address that does not exist (notes/assumptions/12) and the
refusal of a location with side effects (notes/assumptions/13). -/
def Obligations.EveryCommandAnswersNext : Prop :=
  ∀ (i : Instr) (s : State), Inv s → noSideEffects s → ∃ t, exec i s = .next t
end

