-- ==== Sys2Proof/Laws/Engine.lean ====
section
/-! SUPPORT. How the engine's computations run: one lemma for each way they are put together, so that a proof never
unfolds the monad; what each check answers; and what a command's computation comes to as a step. -/

namespace Sys2Proof.Machine
open Sys2Proof.Config

/-! ### Putting computations together -/

@[simp] theorem engine_pure {α : Type} (a : α) (s : State) : (pure a : Engine α) s = .ok a s := rfl

@[simp] theorem engine_get (s : State) : (get : Engine State) s = .ok s s := rfl

@[simp] theorem engine_modify (f : State → State) (s : State) : (modify f : Engine Unit) s = .ok () (f s) := rfl

@[simp] theorem engine_throw {α : Type} (x : Stop) (s : State) : (throw x : Engine α) s = .error x s := rfl

theorem engine_bind {α β : Type} (e : Engine α) (k : α → Engine β) (s : State) :
    (e >>= k) s = match e s with
      | .ok a s' => k a s'
      | .error x s' => .error x s' := by
  show EStateM.bind e k s = _
  unfold EStateM.bind
  cases e s <;> rfl

@[simp] theorem engine_bind_get {β : Type} (k : State → Engine β) (s : State) : ((get : Engine State) >>= k) s = k s s := rfl

@[simp] theorem engine_bind_pure {α β : Type} (a : α) (k : α → Engine β) (s : State) :
    ((pure a : Engine α) >>= k) s = k a s := rfl

@[simp] theorem engine_bind_modify {β : Type} (f : State → State) (k : Unit → Engine β) (s : State) :
    ((modify f : Engine Unit) >>= k) s = k () (f s) := rfl

@[simp] theorem engine_bind_throw {α β : Type} (x : Stop) (k : α → Engine β) (s : State) :
    ((throw x : Engine α) >>= k) s = .error x s := rfl

theorem engine_bind_ok {α β : Type} {e : Engine α} {k : α → Engine β} {s s' : State} {a : α} (h : e s = .ok a s') :
    (e >>= k) s = k a s' := by rw [engine_bind, h]

theorem engine_bind_error {α β : Type} {e : Engine α} {k : α → Engine β} {s s' : State} {x : Stop}
    (h : e s = .error x s') : (e >>= k) s = .error x s' := by rw [engine_bind, h]

/-- A computation of two parts that ends with a value: its first part did, and its second from there. -/
theorem engine_bind_eq_ok {α β : Type} {e : Engine α} {k : α → Engine β} {s t : State} {b : β}
    (h : (e >>= k) s = .ok b t) : ∃ a s', e s = .ok a s' ∧ k a s' = .ok b t := by
  rw [engine_bind] at h
  split at h
  · exact ⟨_, _, ‹_›, h⟩
  · cases h

/-- A computation of two parts that stops: its first part did, or its second from where the first ended. -/
theorem engine_bind_eq_error {α β : Type} {e : Engine α} {k : α → Engine β} {s t : State} {x : Stop}
    (h : (e >>= k) s = .error x t) :
    e s = .error x t ∨ ∃ a s', e s = .ok a s' ∧ k a s' = .error x t := by
  rw [engine_bind] at h
  split at h
  · exact .inr ⟨_, _, ‹_›, h⟩
  · rename_i y s' hy
    cases h
    exact .inl hy

/-! ### Checks -/

@[simp] theorem require_true (code : FaultCode) (i : Word) : require true code i = pure () := rfl

@[simp] theorem require_false (code : FaultCode) (i : Word) : require false code i = throw (.trap code i 0) := rfl

/-- A check leaves the state alone: it passes, or it raises its fault. -/
theorem require_run (c : Bool) (code : FaultCode) (i : Word) (s : State) :
    require c code i s = if c then .ok () s else .error (.trap code i 0) s := by cases c <;> rfl

theorem requireChannel_run (ch : BitVec 6) (s : State) :
    requireChannel ch s =
      if ch.toNat < s.hw.nCh then .ok () s else .error (.trap .badChannel (ch.setWidth 32) 0) s := by
  simp only [requireChannel, engine_bind_get, require_run, decide_eq_true_eq]

theorem requireLife_run (u : UnitId) (ok : Life → Bool) (s : State) :
    requireLife u ok s =
      if ok (s.regs.get u).life then .ok () s
      else .error (.trap .lifecycle (lifeCode (s.regs.get u).life) 0) s := by
  simp only [requireLife, engine_bind_get, require_run]

theorem requireBound_run (u : UnitId) (ch : Nat) (s : State) :
    requireBound u ch s =
      if hasMemory u = true → (s.binding u ch).bound = true then .ok () s
      else .error (.trap .memUnbound (BitVec.ofNat 32 ch) 0) s := by
  simp only [requireBound, engine_bind_get]
  cases hasMemory u <;> simp [require_run]

theorem requireValid_run (u : UnitId) (ch : Nat) (s : State) :
    requireValid u ch s =
      if s.stValid u ch then .ok () s else .error (.trap .stateInvalid (BitVec.ofNat 32 ch) 0) s := by
  simp only [requireValid, engine_bind_get, require_run]

/-- The samples of a list are all finite, or the first that is not is reported. -/
theorem requireFinite_run (xs : List F32) (s : State) :
    requireFinite xs s = match xs.find? fun v => !isFinite v with
      | none => .ok () s
      | some v => .error (.trap .nonfinite v 0) s := by
  induction xs with
  | nil => rfl
  | cons v vs ih =>
    unfold requireFinite
    rw [engine_bind, require_run]
    cases h : isFinite v <;> simp [List.find?, h, ih]

/-- The address checks of a list leave the state alone, whatever they answer. -/
theorem requireBuffers_state (bytes : Nat) (bs : List Word) (s : State) :
    requireBuffers bytes bs s = .ok () s ∨ ∃ x, requireBuffers bytes bs s = .error x s := by
  induction bs with
  | nil => exact .inl rfl
  | cons b bs ih =>
    unfold requireBuffers
    rw [engine_bind, require_run]
    cases aligned4 b
    · exact .inr ⟨_, rfl⟩
    · simp only [if_true]
      rw [engine_bind, require_run]
      cases inRange b bytes
      · exact .inr ⟨_, rfl⟩
      · simpa using ih

/-- Buffers that are all aligned and in range pass. -/
theorem requireBuffers_pass (bytes : Nat) (bs : List Word) (s : State)
    (h : ∀ b ∈ bs, aligned4 b = true ∧ inRange b bytes = true) : requireBuffers bytes bs s = .ok () s := by
  induction bs with
  | nil => rfl
  | cons b bs ih =>
    unfold requireBuffers
    obtain ⟨h1, h2⟩ := h b (by simp)
    simp only [h1, h2, require_true, engine_bind_pure]
    exact ih fun c hc => h c (by simp [hc])

/-- A check before a computation: the computation runs where the check passes. -/
theorem engine_check {β : Type} {e : Engine Unit} {k : Unit → Engine β} {s : State} {c : Prop} [Decidable c] {x : Stop}
    (h : e s = if c then .ok () s else .error x s) : (e >>= k) s = if c then k () s else .error x s := by
  rw [engine_bind, h]
  by_cases hc : c <;> simp [hc]

/-! ### A sample of a batched command -/

theorem atSample_ok {i : Nat} {e : Engine Unit} {s t : State} (h : e s = .ok () t) : atSample i e s = .ok () t := by
  simp [atSample, h]

theorem atSample_trap {i : Nat} {e : Engine Unit} {s t : State} {c : FaultCode} {a b : Word}
    (h : e s = .error (.trap c a b) t) : atSample i e s = .error (.trap c a (BitVec.ofNat 32 i)) t := by
  simp [atSample, h]

theorem atSample_eq_ok {i : Nat} {e : Engine Unit} {s t : State} : atSample i e s = .ok () t ↔ e s = .ok () t := by
  unfold atSample
  split
  · rename_i h
    constructor <;> intro h'
    · cases h'
    · rw [h] at h'; cases h'
  · rfl

/-! ### A command as a step -/

theorem runCommand_ok {i : Instr} {e : Engine Unit} {s t : State} (h : e s = .ok () t) : runCommand i e s = .next t := by
  simp [runCommand, h]

theorem runCommand_trap {i : Instr} {e : Engine Unit} {s t : State} {c : FaultCode} {a b : Word}
    (h : e s = .error (.trap c a b) t) : runCommand i e s = .next (enterFault (encode i) c a b t) := by
  simp [runCommand, h]

/-- A command that answers a next state ran to its end, or faulted and the fault was entered where it stopped. -/
theorem runCommand_next {i : Instr} {e : Engine Unit} {s t : State} (h : runCommand i e s = .next t) :
    e s = .ok () t ∨ ∃ c a b t', e s = .error (.trap c a b) t' ∧ t = enterFault (encode i) c a b t' := by
  unfold runCommand at h
  split at h
  · rename_i h'
    cases h
    exact .inl h'
  · rename_i h'
    cases h
    exact .inr ⟨_, _, _, _, h', rfl⟩
  · cases h
  · cases h

/-! ### Relations every computation keeps

A relation between the state before and after is kept by a computation when it holds whatever the computation answers,
a value or a stop. It is enough to show it of the parts. -/

/-- Whatever a computation answers, its state is related to the one it started from. -/
def Engine.Keeps {α : Type} (R : State → State → Prop) (e : Engine α) : Prop :=
  ∀ s, match e s with
    | .ok _ t => R s t
    | .error _ t => R s t

variable {α β : Type} {R : State → State → Prop}

/-- The state is as it was. -/
def Same (s t : State) : Prop := t = s

theorem same_refl (s : State) : Same s s := rfl

theorem same_trans : ∀ s t u : State, Same s t → Same t u → Same s u := fun _ _ _ h h' => h'.trans h

theorem keeps_pure (hr : ∀ s, R s s) (a : α) : Engine.Keeps R (pure a) := hr

theorem keeps_get (hr : ∀ s, R s s) : Engine.Keeps R (get : Engine State) := hr

theorem keeps_throw (hr : ∀ s, R s s) (x : Stop) : Engine.Keeps R (throw x : Engine α) := hr

theorem keeps_modify {f : State → State} (h : ∀ s, R s (f s)) : Engine.Keeps R (modify f : Engine Unit) := h

theorem keeps_bind (ht : ∀ s t u, R s t → R t u → R s u) {e : Engine α} {k : α → Engine β} (he : Engine.Keeps R e)
    (hk : ∀ a, Engine.Keeps R (k a)) : Engine.Keeps R (e >>= k) := by
  intro s
  rw [engine_bind]
  have h1 := he s
  cases h : e s with
  | ok a s' =>
    rw [h] at h1
    have h2 := hk a s'
    dsimp only at h1 ⊢
    cases h' : k a s' with
    | ok b t => rw [h'] at h2; exact ht _ _ _ h1 h2
    | error x t => rw [h'] at h2; exact ht _ _ _ h1 h2
  | error x s' => rw [h] at h1; exact h1

theorem keeps_require (hr : ∀ s, R s s) (c : Bool) (code : FaultCode) (i : Word) :
    Engine.Keeps R (require c code i) := by
  intro s
  rw [require_run]
  cases c <;> exact hr s

theorem keeps_atSample {i : Nat} {e : Engine Unit} (h : Engine.Keeps R e) : Engine.Keeps R (atSample i e) := by
  intro s
  have h1 := h s
  unfold atSample
  cases h' : e s with
  | ok a t => rw [h'] at h1; exact h1
  | error x t =>
    rw [h'] at h1
    cases x <;> exact h1

theorem keeps_ok {e : Engine α} (h : Engine.Keeps R e) {s t : State} {a : α} (he : e s = .ok a t) : R s t := by
  have := h s
  rw [he] at this
  exact this

theorem keeps_error {e : Engine α} (h : Engine.Keeps R e) {s t : State} {x : Stop} (he : e s = .error x t) : R s t := by
  have := h s
  rw [he] at this
  exact this

end Sys2Proof.Machine
end

