-- ==== Sys2Proof/Laws/State.lean ====
section
/-! SUPPORT. One lemma for each field of the state under each update, so that no proof unfolds a record update, and the
tables' reads after writes. -/

namespace Sys2Proof.Machine
open Sys2Proof.Config

variable (s : State)

/-! ### Tables -/

@[simp] theorem PerUnit.get_set_self {α : Type} (t : PerUnit α) (u : UnitId) (v : α) : (t.set u v).get u = v := by
  cases u <;> rfl

theorem PerUnit.get_set_other {α : Type} (t : PerUnit α) {u w : UnitId} (v : α) (h : w ≠ u) :
    (t.set u v).get w = t.get w := by
  cases u <;> cases w <;> first | rfl | exact absurd rfl h

/-- A table read after a write to one unit. -/
theorem PerUnit.get_set {α : Type} (t : PerUnit α) (u w : UnitId) (v : α) :
    (t.set u v).get w = if w = u then v else t.get w := by
  split
  · rename_i h
    rw [h, PerUnit.get_set_self]
  · exact PerUnit.get_set_other t v ‹_›

@[simp] theorem PerUnit.get_const {α : Type} (v : α) (u : UnitId) : (PerUnit.const v).get u = v := by cases u <;> rfl

/-- Two tables that agree at every unit are equal. -/
theorem PerUnit.ext_get {α : Type} {t t' : PerUnit α} (h : ∀ u, t.get u = t'.get u) : t = t' := by
  have h0 := h .onepole; have h1 := h .mm1; have h2 := h .mm2; have h3 := h .hp1; have h4 := h .ls1
  have h5 := h .ls2; have h6 := h .ap2; have h7 := h .peak; have h8 := h .delay; have h9 := h .reverb
  cases t; cases t'
  simp_all [PerUnit.get]

@[simp] theorem PerLine.get_set_self {α : Type} (t : PerLine α) (j : RevLine) (v : α) : (t.set j v).get j = v := by
  cases j <;> rfl

theorem PerLine.get_set_other {α : Type} (t : PerLine α) {j k : RevLine} (v : α) (h : k ≠ j) :
    (t.set j v).get k = t.get k := by
  cases j <;> cases k <;> first | rfl | exact absurd rfl h

/-- A table read after a write to one line. -/
theorem PerLine.get_set {α : Type} (t : PerLine α) (j k : RevLine) (v : α) :
    (t.set j v).get k = if k = j then v else t.get k := by
  split
  · rename_i h
    rw [h, PerLine.get_set_self]
  · exact PerLine.get_set_other t v ‹_›

@[simp] theorem PerLine.get_const {α : Type} (v : α) (j : RevLine) : (PerLine.const v).get j = v := by cases j <;> rfl

@[simp] theorem PerLine.get_of {α : Type} (f : RevLine → α) (j : RevLine) : (PerLine.of f).get j = f j := by
  cases j <;> rfl

@[simp] theorem PerTap.get_of {α : Type} (f : TapIx → α) (t : TapIx) : (PerTap.of f).get t = f t := by cases t <;> rfl

/-! ### State.updRegs -/

@[simp] theorem State.updRegs_hw (u : UnitId) (f : UnitRegs → UnitRegs) : (s.updRegs u f).hw = s.hw := rfl

@[simp] theorem State.updRegs_win (u : UnitId) (f : UnitRegs → UnitRegs) : (s.updRegs u f).win = s.win := rfl

@[simp] theorem State.updRegs_valid (u : UnitId) (f : UnitRegs → UnitRegs) : (s.updRegs u f).valid = s.valid := rfl

@[simp] theorem State.updRegs_binds (u : UnitId) (f : UnitRegs → UnitRegs) : (s.updRegs u f).binds = s.binds := rfl

@[simp] theorem State.updRegs_coefs (u : UnitId) (f : UnitRegs → UnitRegs) : (s.updRegs u f).coefs = s.coefs := rfl

@[simp] theorem State.updRegs_chans (u : UnitId) (f : UnitRegs → UnitRegs) : (s.updRegs u f).chans = s.chans := rfl

@[simp] theorem State.updRegs_mem (u : UnitId) (f : UnitRegs → UnitRegs) : (s.updRegs u f).mem = s.mem := rfl

@[simp] theorem State.updRegs_inbox (u : UnitId) (f : UnitRegs → UnitRegs) : (s.updRegs u f).inbox = s.inbox := rfl

@[simp] theorem State.updRegs_reply (u : UnitId) (f : UnitRegs → UnitRegs) : (s.updRegs u f).reply = s.reply := rfl

/-! ### State.markDirty -/

@[simp] theorem State.markDirty_hw (u : UnitId) (b : Word) : (s.markDirty u b).hw = s.hw := rfl

@[simp] theorem State.markDirty_win (u : UnitId) (b : Word) : (s.markDirty u b).win = s.win := rfl

@[simp] theorem State.markDirty_valid (u : UnitId) (b : Word) : (s.markDirty u b).valid = s.valid := rfl

@[simp] theorem State.markDirty_binds (u : UnitId) (b : Word) : (s.markDirty u b).binds = s.binds := rfl

@[simp] theorem State.markDirty_coefs (u : UnitId) (b : Word) : (s.markDirty u b).coefs = s.coefs := rfl

@[simp] theorem State.markDirty_chans (u : UnitId) (b : Word) : (s.markDirty u b).chans = s.chans := rfl

@[simp] theorem State.markDirty_mem (u : UnitId) (b : Word) : (s.markDirty u b).mem = s.mem := rfl

@[simp] theorem State.markDirty_inbox (u : UnitId) (b : Word) : (s.markDirty u b).inbox = s.inbox := rfl

@[simp] theorem State.markDirty_reply (u : UnitId) (b : Word) : (s.markDirty u b).reply = s.reply := rfl

/-! ### State.clearDirty -/

@[simp] theorem State.clearDirty_hw (u : UnitId) : (s.clearDirty u).hw = s.hw := rfl

@[simp] theorem State.clearDirty_win (u : UnitId) : (s.clearDirty u).win = s.win := rfl

@[simp] theorem State.clearDirty_valid (u : UnitId) : (s.clearDirty u).valid = s.valid := rfl

@[simp] theorem State.clearDirty_binds (u : UnitId) : (s.clearDirty u).binds = s.binds := rfl

@[simp] theorem State.clearDirty_coefs (u : UnitId) : (s.clearDirty u).coefs = s.coefs := rfl

@[simp] theorem State.clearDirty_chans (u : UnitId) : (s.clearDirty u).chans = s.chans := rfl

@[simp] theorem State.clearDirty_mem (u : UnitId) : (s.clearDirty u).mem = s.mem := rfl

@[simp] theorem State.clearDirty_inbox (u : UnitId) : (s.clearDirty u).inbox = s.inbox := rfl

@[simp] theorem State.clearDirty_reply (u : UnitId) : (s.clearDirty u).reply = s.reply := rfl

/-! ### State.setStValid -/

@[simp] theorem State.setStValid_hw (u : UnitId) (ch : Nat) (b : Bool) : (s.setStValid u ch b).hw = s.hw := rfl

@[simp] theorem State.setStValid_win (u : UnitId) (ch : Nat) (b : Bool) : (s.setStValid u ch b).win = s.win := rfl

@[simp] theorem State.setStValid_regs (u : UnitId) (ch : Nat) (b : Bool) : (s.setStValid u ch b).regs = s.regs := rfl

@[simp] theorem State.setStValid_binds (u : UnitId) (ch : Nat) (b : Bool) : (s.setStValid u ch b).binds = s.binds := rfl

@[simp] theorem State.setStValid_coefs (u : UnitId) (ch : Nat) (b : Bool) : (s.setStValid u ch b).coefs = s.coefs := rfl

@[simp] theorem State.setStValid_chans (u : UnitId) (ch : Nat) (b : Bool) : (s.setStValid u ch b).chans = s.chans := rfl

@[simp] theorem State.setStValid_mem (u : UnitId) (ch : Nat) (b : Bool) : (s.setStValid u ch b).mem = s.mem := rfl

@[simp] theorem State.setStValid_inbox (u : UnitId) (ch : Nat) (b : Bool) : (s.setStValid u ch b).inbox = s.inbox := rfl

@[simp] theorem State.setStValid_reply (u : UnitId) (ch : Nat) (b : Bool) : (s.setStValid u ch b).reply = s.reply := rfl

/-! ### State.clearValid -/

@[simp] theorem State.clearValid_hw (u : UnitId) : (s.clearValid u).hw = s.hw := rfl

@[simp] theorem State.clearValid_win (u : UnitId) : (s.clearValid u).win = s.win := rfl

@[simp] theorem State.clearValid_regs (u : UnitId) : (s.clearValid u).regs = s.regs := rfl

@[simp] theorem State.clearValid_binds (u : UnitId) : (s.clearValid u).binds = s.binds := rfl

@[simp] theorem State.clearValid_coefs (u : UnitId) : (s.clearValid u).coefs = s.coefs := rfl

@[simp] theorem State.clearValid_chans (u : UnitId) : (s.clearValid u).chans = s.chans := rfl

@[simp] theorem State.clearValid_mem (u : UnitId) : (s.clearValid u).mem = s.mem := rfl

@[simp] theorem State.clearValid_inbox (u : UnitId) : (s.clearValid u).inbox = s.inbox := rfl

@[simp] theorem State.clearValid_reply (u : UnitId) : (s.clearValid u).reply = s.reply := rfl

/-! ### State.setBinding -/

@[simp] theorem State.setBinding_hw (u : UnitId) (ch : Nat) (b : Binding) : (s.setBinding u ch b).hw = s.hw := by cases u <;> rfl

@[simp] theorem State.setBinding_win (u : UnitId) (ch : Nat) (b : Binding) : (s.setBinding u ch b).win = s.win := by cases u <;> rfl

@[simp] theorem State.setBinding_regs (u : UnitId) (ch : Nat) (b : Binding) : (s.setBinding u ch b).regs = s.regs := by cases u <;> rfl

@[simp] theorem State.setBinding_valid (u : UnitId) (ch : Nat) (b : Binding) : (s.setBinding u ch b).valid = s.valid := by cases u <;> rfl

@[simp] theorem State.setBinding_coefs (u : UnitId) (ch : Nat) (b : Binding) : (s.setBinding u ch b).coefs = s.coefs := by cases u <;> rfl

@[simp] theorem State.setBinding_chans (u : UnitId) (ch : Nat) (b : Binding) : (s.setBinding u ch b).chans = s.chans := by cases u <;> rfl

@[simp] theorem State.setBinding_mem (u : UnitId) (ch : Nat) (b : Binding) : (s.setBinding u ch b).mem = s.mem := by cases u <;> rfl

@[simp] theorem State.setBinding_inbox (u : UnitId) (ch : Nat) (b : Binding) : (s.setBinding u ch b).inbox = s.inbox := by cases u <;> rfl

@[simp] theorem State.setBinding_reply (u : UnitId) (ch : Nat) (b : Binding) : (s.setBinding u ch b).reply = s.reply := by cases u <;> rfl

/-! ### State.unbindAll -/

@[simp] theorem State.unbindAll_hw (u : UnitId) : (s.unbindAll u).hw = s.hw := by cases u <;> rfl

@[simp] theorem State.unbindAll_win (u : UnitId) : (s.unbindAll u).win = s.win := by cases u <;> rfl

@[simp] theorem State.unbindAll_regs (u : UnitId) : (s.unbindAll u).regs = s.regs := by cases u <;> rfl

@[simp] theorem State.unbindAll_valid (u : UnitId) : (s.unbindAll u).valid = s.valid := by cases u <;> rfl

@[simp] theorem State.unbindAll_coefs (u : UnitId) : (s.unbindAll u).coefs = s.coefs := by cases u <;> rfl

@[simp] theorem State.unbindAll_chans (u : UnitId) : (s.unbindAll u).chans = s.chans := by cases u <;> rfl

@[simp] theorem State.unbindAll_mem (u : UnitId) : (s.unbindAll u).mem = s.mem := by cases u <;> rfl

@[simp] theorem State.unbindAll_inbox (u : UnitId) : (s.unbindAll u).inbox = s.inbox := by cases u <;> rfl

@[simp] theorem State.unbindAll_reply (u : UnitId) : (s.unbindAll u).reply = s.reply := by cases u <;> rfl

/-! ### State.setRes0 -/

@[simp] theorem State.setRes0_hw (w : Word) : (s.setRes0 w).hw = s.hw := rfl

@[simp] theorem State.setRes0_regs (w : Word) : (s.setRes0 w).regs = s.regs := rfl

@[simp] theorem State.setRes0_valid (w : Word) : (s.setRes0 w).valid = s.valid := rfl

@[simp] theorem State.setRes0_binds (w : Word) : (s.setRes0 w).binds = s.binds := rfl

@[simp] theorem State.setRes0_coefs (w : Word) : (s.setRes0 w).coefs = s.coefs := rfl

@[simp] theorem State.setRes0_chans (w : Word) : (s.setRes0 w).chans = s.chans := rfl

@[simp] theorem State.setRes0_mem (w : Word) : (s.setRes0 w).mem = s.mem := rfl

@[simp] theorem State.setRes0_inbox (w : Word) : (s.setRes0 w).inbox = s.inbox := rfl

@[simp] theorem State.setRes0_reply (w : Word) : (s.setRes0 w).reply = s.reply := rfl

/-! ### State.setResults -/

@[simp] theorem State.setResults_hw (ys : List F32) : (s.setResults ys).hw = s.hw := by rcases ys with _ | ⟨y, _ | ⟨z, r⟩⟩ <;> rfl

@[simp] theorem State.setResults_regs (ys : List F32) : (s.setResults ys).regs = s.regs := by rcases ys with _ | ⟨y, _ | ⟨z, r⟩⟩ <;> rfl

@[simp] theorem State.setResults_valid (ys : List F32) : (s.setResults ys).valid = s.valid := by rcases ys with _ | ⟨y, _ | ⟨z, r⟩⟩ <;> rfl

@[simp] theorem State.setResults_binds (ys : List F32) : (s.setResults ys).binds = s.binds := by rcases ys with _ | ⟨y, _ | ⟨z, r⟩⟩ <;> rfl

@[simp] theorem State.setResults_coefs (ys : List F32) : (s.setResults ys).coefs = s.coefs := by rcases ys with _ | ⟨y, _ | ⟨z, r⟩⟩ <;> rfl

@[simp] theorem State.setResults_chans (ys : List F32) : (s.setResults ys).chans = s.chans := by rcases ys with _ | ⟨y, _ | ⟨z, r⟩⟩ <;> rfl

@[simp] theorem State.setResults_mem (ys : List F32) : (s.setResults ys).mem = s.mem := by rcases ys with _ | ⟨y, _ | ⟨z, r⟩⟩ <;> rfl

@[simp] theorem State.setResults_inbox (ys : List F32) : (s.setResults ys).inbox = s.inbox := by rcases ys with _ | ⟨y, _ | ⟨z, r⟩⟩ <;> rfl

@[simp] theorem State.setResults_reply (ys : List F32) : (s.setResults ys).reply = s.reply := by rcases ys with _ | ⟨y, _ | ⟨z, r⟩⟩ <;> rfl

/-! ### State.setDelayChan -/

@[simp] theorem State.setDelayChan_hw (ch : Nat) (st : DelayState) : (s.setDelayChan ch st).hw = s.hw := rfl

@[simp] theorem State.setDelayChan_win (ch : Nat) (st : DelayState) : (s.setDelayChan ch st).win = s.win := rfl

@[simp] theorem State.setDelayChan_regs (ch : Nat) (st : DelayState) : (s.setDelayChan ch st).regs = s.regs := rfl

@[simp] theorem State.setDelayChan_valid (ch : Nat) (st : DelayState) : (s.setDelayChan ch st).valid = s.valid := rfl

@[simp] theorem State.setDelayChan_binds (ch : Nat) (st : DelayState) : (s.setDelayChan ch st).binds = s.binds := rfl

@[simp] theorem State.setDelayChan_coefs (ch : Nat) (st : DelayState) : (s.setDelayChan ch st).coefs = s.coefs := rfl

@[simp] theorem State.setDelayChan_mem (ch : Nat) (st : DelayState) : (s.setDelayChan ch st).mem = s.mem := rfl

@[simp] theorem State.setDelayChan_inbox (ch : Nat) (st : DelayState) : (s.setDelayChan ch st).inbox = s.inbox := rfl

@[simp] theorem State.setDelayChan_reply (ch : Nat) (st : DelayState) : (s.setDelayChan ch st).reply = s.reply := rfl

/-! ### State.setReverbChan -/

@[simp] theorem State.setReverbChan_hw (ch : Nat) (st : ReverbState) : (s.setReverbChan ch st).hw = s.hw := rfl

@[simp] theorem State.setReverbChan_win (ch : Nat) (st : ReverbState) : (s.setReverbChan ch st).win = s.win := rfl

@[simp] theorem State.setReverbChan_regs (ch : Nat) (st : ReverbState) : (s.setReverbChan ch st).regs = s.regs := rfl

@[simp] theorem State.setReverbChan_valid (ch : Nat) (st : ReverbState) : (s.setReverbChan ch st).valid = s.valid := rfl

@[simp] theorem State.setReverbChan_binds (ch : Nat) (st : ReverbState) : (s.setReverbChan ch st).binds = s.binds := rfl

@[simp] theorem State.setReverbChan_coefs (ch : Nat) (st : ReverbState) : (s.setReverbChan ch st).coefs = s.coefs := rfl

@[simp] theorem State.setReverbChan_mem (ch : Nat) (st : ReverbState) : (s.setReverbChan ch st).mem = s.mem := rfl

@[simp] theorem State.setReverbChan_inbox (ch : Nat) (st : ReverbState) : (s.setReverbChan ch st).inbox = s.inbox := rfl

@[simp] theorem State.setReverbChan_reply (ch : Nat) (st : ReverbState) : (s.setReverbChan ch st).reply = s.reply := rfl

/-! ### State.setOnePoleChan -/

@[simp] theorem State.setOnePoleChan_hw (ch : Nat) (st : OnePoleState) : (s.setOnePoleChan ch st).hw = s.hw := rfl

@[simp] theorem State.setOnePoleChan_win (ch : Nat) (st : OnePoleState) : (s.setOnePoleChan ch st).win = s.win := rfl

@[simp] theorem State.setOnePoleChan_regs (ch : Nat) (st : OnePoleState) : (s.setOnePoleChan ch st).regs = s.regs := rfl

@[simp] theorem State.setOnePoleChan_valid (ch : Nat) (st : OnePoleState) : (s.setOnePoleChan ch st).valid = s.valid := rfl

@[simp] theorem State.setOnePoleChan_binds (ch : Nat) (st : OnePoleState) : (s.setOnePoleChan ch st).binds = s.binds := rfl

@[simp] theorem State.setOnePoleChan_coefs (ch : Nat) (st : OnePoleState) : (s.setOnePoleChan ch st).coefs = s.coefs := rfl

@[simp] theorem State.setOnePoleChan_mem (ch : Nat) (st : OnePoleState) : (s.setOnePoleChan ch st).mem = s.mem := rfl

@[simp] theorem State.setOnePoleChan_inbox (ch : Nat) (st : OnePoleState) : (s.setOnePoleChan ch st).inbox = s.inbox := rfl

@[simp] theorem State.setOnePoleChan_reply (ch : Nat) (st : OnePoleState) : (s.setOnePoleChan ch st).reply = s.reply := rfl

/-! ### State.setMm1Chan -/

@[simp] theorem State.setMm1Chan_hw (u : UnitId) (ch : Nat) (st : Mm1State) : (s.setMm1Chan u ch st).hw = s.hw := by cases u <;> rfl

@[simp] theorem State.setMm1Chan_win (u : UnitId) (ch : Nat) (st : Mm1State) : (s.setMm1Chan u ch st).win = s.win := by cases u <;> rfl

@[simp] theorem State.setMm1Chan_regs (u : UnitId) (ch : Nat) (st : Mm1State) : (s.setMm1Chan u ch st).regs = s.regs := by cases u <;> rfl

@[simp] theorem State.setMm1Chan_valid (u : UnitId) (ch : Nat) (st : Mm1State) : (s.setMm1Chan u ch st).valid = s.valid := by cases u <;> rfl

@[simp] theorem State.setMm1Chan_binds (u : UnitId) (ch : Nat) (st : Mm1State) : (s.setMm1Chan u ch st).binds = s.binds := by cases u <;> rfl

@[simp] theorem State.setMm1Chan_coefs (u : UnitId) (ch : Nat) (st : Mm1State) : (s.setMm1Chan u ch st).coefs = s.coefs := by cases u <;> rfl

@[simp] theorem State.setMm1Chan_mem (u : UnitId) (ch : Nat) (st : Mm1State) : (s.setMm1Chan u ch st).mem = s.mem := by cases u <;> rfl

@[simp] theorem State.setMm1Chan_inbox (u : UnitId) (ch : Nat) (st : Mm1State) : (s.setMm1Chan u ch st).inbox = s.inbox := by cases u <;> rfl

@[simp] theorem State.setMm1Chan_reply (u : UnitId) (ch : Nat) (st : Mm1State) : (s.setMm1Chan u ch st).reply = s.reply := by cases u <;> rfl

/-! ### State.setMm2Chan -/

@[simp] theorem State.setMm2Chan_hw (u : UnitId) (ch : Nat) (st : Mm2State) : (s.setMm2Chan u ch st).hw = s.hw := by cases u <;> rfl

@[simp] theorem State.setMm2Chan_win (u : UnitId) (ch : Nat) (st : Mm2State) : (s.setMm2Chan u ch st).win = s.win := by cases u <;> rfl

@[simp] theorem State.setMm2Chan_regs (u : UnitId) (ch : Nat) (st : Mm2State) : (s.setMm2Chan u ch st).regs = s.regs := by cases u <;> rfl

@[simp] theorem State.setMm2Chan_valid (u : UnitId) (ch : Nat) (st : Mm2State) : (s.setMm2Chan u ch st).valid = s.valid := by cases u <;> rfl

@[simp] theorem State.setMm2Chan_binds (u : UnitId) (ch : Nat) (st : Mm2State) : (s.setMm2Chan u ch st).binds = s.binds := by cases u <;> rfl

@[simp] theorem State.setMm2Chan_coefs (u : UnitId) (ch : Nat) (st : Mm2State) : (s.setMm2Chan u ch st).coefs = s.coefs := by cases u <;> rfl

@[simp] theorem State.setMm2Chan_mem (u : UnitId) (ch : Nat) (st : Mm2State) : (s.setMm2Chan u ch st).mem = s.mem := by cases u <;> rfl

@[simp] theorem State.setMm2Chan_inbox (u : UnitId) (ch : Nat) (st : Mm2State) : (s.setMm2Chan u ch st).inbox = s.inbox := by cases u <;> rfl

@[simp] theorem State.setMm2Chan_reply (u : UnitId) (ch : Nat) (st : Mm2State) : (s.setMm2Chan u ch st).reply = s.reply := by cases u <;> rfl

/-! ### setCursor -/

@[simp] theorem setCursor_hw (l : LineRef) (w : Nat) : (setCursor s l w).hw = s.hw := by cases l <;> rfl

@[simp] theorem setCursor_win (l : LineRef) (w : Nat) : (setCursor s l w).win = s.win := by cases l <;> rfl

@[simp] theorem setCursor_regs (l : LineRef) (w : Nat) : (setCursor s l w).regs = s.regs := by cases l <;> rfl

@[simp] theorem setCursor_valid (l : LineRef) (w : Nat) : (setCursor s l w).valid = s.valid := by cases l <;> rfl

@[simp] theorem setCursor_binds (l : LineRef) (w : Nat) : (setCursor s l w).binds = s.binds := by cases l <;> rfl

@[simp] theorem setCursor_coefs (l : LineRef) (w : Nat) : (setCursor s l w).coefs = s.coefs := by cases l <;> rfl

@[simp] theorem setCursor_mem (l : LineRef) (w : Nat) : (setCursor s l w).mem = s.mem := by cases l <;> rfl

@[simp] theorem setCursor_inbox (l : LineRef) (w : Nat) : (setCursor s l w).inbox = s.inbox := by cases l <;> rfl

@[simp] theorem setCursor_reply (l : LineRef) (w : Nat) : (setCursor s l w).reply = s.reply := by cases l <;> rfl

/-! ### enterFault -/

@[simp] theorem enterFault_hw (c : Word) (k : FaultCode) (a b : Word) : (enterFault c k a b s).hw = s.hw := rfl

@[simp] theorem enterFault_regs (c : Word) (k : FaultCode) (a b : Word) : (enterFault c k a b s).regs = s.regs := rfl

@[simp] theorem enterFault_valid (c : Word) (k : FaultCode) (a b : Word) : (enterFault c k a b s).valid = s.valid := rfl

@[simp] theorem enterFault_binds (c : Word) (k : FaultCode) (a b : Word) : (enterFault c k a b s).binds = s.binds := rfl

@[simp] theorem enterFault_coefs (c : Word) (k : FaultCode) (a b : Word) : (enterFault c k a b s).coefs = s.coefs := rfl

@[simp] theorem enterFault_chans (c : Word) (k : FaultCode) (a b : Word) : (enterFault c k a b s).chans = s.chans := rfl

@[simp] theorem enterFault_mem (c : Word) (k : FaultCode) (a b : Word) : (enterFault c k a b s).mem = s.mem := rfl

@[simp] theorem enterFault_inbox (c : Word) (k : FaultCode) (a b : Word) : (enterFault c k a b s).inbox = s.inbox := rfl

@[simp] theorem enterFault_reply (c : Word) (k : FaultCode) (a b : Word) : (enterFault c k a b s).reply = s.reply := rfl

/-! ### State.answer -/

@[simp] theorem State.answer_hw (r : Reply) : (s.answer r).hw = s.hw := rfl

@[simp] theorem State.answer_win (r : Reply) : (s.answer r).win = s.win := rfl

@[simp] theorem State.answer_regs (r : Reply) : (s.answer r).regs = s.regs := rfl

@[simp] theorem State.answer_valid (r : Reply) : (s.answer r).valid = s.valid := rfl

@[simp] theorem State.answer_binds (r : Reply) : (s.answer r).binds = s.binds := rfl

@[simp] theorem State.answer_coefs (r : Reply) : (s.answer r).coefs = s.coefs := rfl

@[simp] theorem State.answer_chans (r : Reply) : (s.answer r).chans = s.chans := rfl

@[simp] theorem State.answer_mem (r : Reply) : (s.answer r).mem = s.mem := rfl

@[simp] theorem State.answer_inbox (r : Reply) : (s.answer r).inbox = s.inbox := rfl

/-! ### updateAudio -/

@[simp] theorem updateAudio_hw (u : UnitId) : (updateAudio u s).hw = s.hw := rfl

@[simp] theorem updateAudio_win (u : UnitId) : (updateAudio u s).win = s.win := rfl

@[simp] theorem updateAudio_regs (u : UnitId) : (updateAudio u s).regs = s.regs := rfl

@[simp] theorem updateAudio_valid (u : UnitId) : (updateAudio u s).valid = s.valid := rfl

@[simp] theorem updateAudio_binds (u : UnitId) : (updateAudio u s).binds = s.binds := rfl

@[simp] theorem updateAudio_chans (u : UnitId) : (updateAudio u s).chans = s.chans := rfl

@[simp] theorem updateAudio_mem (u : UnitId) : (updateAudio u s).mem = s.mem := rfl

@[simp] theorem updateAudio_inbox (u : UnitId) : (updateAudio u s).inbox = s.inbox := rfl

@[simp] theorem updateAudio_reply (u : UnitId) : (updateAudio u s).reply = s.reply := rfl

/-! ### updateCtrl -/

@[simp] theorem updateCtrl_hw (u : UnitId) : (updateCtrl u s).hw = s.hw := rfl

@[simp] theorem updateCtrl_win (u : UnitId) : (updateCtrl u s).win = s.win := rfl

@[simp] theorem updateCtrl_valid (u : UnitId) : (updateCtrl u s).valid = s.valid := rfl

@[simp] theorem updateCtrl_binds (u : UnitId) : (updateCtrl u s).binds = s.binds := rfl

@[simp] theorem updateCtrl_chans (u : UnitId) : (updateCtrl u s).chans = s.chans := rfl

@[simp] theorem updateCtrl_mem (u : UnitId) : (updateCtrl u s).mem = s.mem := rfl

@[simp] theorem updateCtrl_inbox (u : UnitId) : (updateCtrl u s).inbox = s.inbox := rfl

@[simp] theorem updateCtrl_reply (u : UnitId) : (updateCtrl u s).reply = s.reply := rfl

/-! ### writeParam -/

@[simp] theorem writeParam_hw (u : UnitId) (b : Word) (f : Word → Coefs → Coefs) : (writeParam u b f s).hw = s.hw := rfl

@[simp] theorem writeParam_win (u : UnitId) (b : Word) (f : Word → Coefs → Coefs) : (writeParam u b f s).win = s.win := rfl

@[simp] theorem writeParam_valid (u : UnitId) (b : Word) (f : Word → Coefs → Coefs) : (writeParam u b f s).valid = s.valid := rfl

@[simp] theorem writeParam_binds (u : UnitId) (b : Word) (f : Word → Coefs → Coefs) : (writeParam u b f s).binds = s.binds := rfl

@[simp] theorem writeParam_chans (u : UnitId) (b : Word) (f : Word → Coefs → Coefs) : (writeParam u b f s).chans = s.chans := rfl

@[simp] theorem writeParam_mem (u : UnitId) (b : Word) (f : Word → Coefs → Coefs) : (writeParam u b f s).mem = s.mem := rfl

@[simp] theorem writeParam_inbox (u : UnitId) (b : Word) (f : Word → Coefs → Coefs) : (writeParam u b f s).inbox = s.inbox := rfl

@[simp] theorem writeParam_reply (u : UnitId) (b : Word) (f : Word → Coefs → Coefs) : (writeParam u b f s).reply = s.reply := rfl

/-! ### bindChannel -/

@[simp] theorem bindChannel_hw (u : UnitId) (ch : Nat) : (bindChannel u ch s).hw = s.hw := by cases u <;> rfl

@[simp] theorem bindChannel_win (u : UnitId) (ch : Nat) : (bindChannel u ch s).win = s.win := by cases u <;> rfl

@[simp] theorem bindChannel_regs (u : UnitId) (ch : Nat) : (bindChannel u ch s).regs = s.regs := by cases u <;> rfl

@[simp] theorem bindChannel_coefs (u : UnitId) (ch : Nat) : (bindChannel u ch s).coefs = s.coefs := by cases u <;> rfl

@[simp] theorem bindChannel_chans (u : UnitId) (ch : Nat) : (bindChannel u ch s).chans = s.chans := by cases u <;> rfl

@[simp] theorem bindChannel_mem (u : UnitId) (ch : Nat) : (bindChannel u ch s).mem = s.mem := by cases u <;> rfl

@[simp] theorem bindChannel_inbox (u : UnitId) (ch : Nat) : (bindChannel u ch s).inbox = s.inbox := by cases u <;> rfl

@[simp] theorem bindChannel_reply (u : UnitId) (ch : Nat) : (bindChannel u ch s).reply = s.reply := by cases u <;> rfl

/-! ### initUnit -/

@[simp] theorem initUnit_hw (u : UnitId) : (initUnit u s).hw = s.hw := by cases u <;> rfl

@[simp] theorem initUnit_win (u : UnitId) : (initUnit u s).win = s.win := by cases u <;> rfl

@[simp] theorem initUnit_mem (u : UnitId) : (initUnit u s).mem = s.mem := by cases u <;> rfl

@[simp] theorem initUnit_inbox (u : UnitId) : (initUnit u s).inbox = s.inbox := by cases u <;> rfl

@[simp] theorem initUnit_reply (u : UnitId) : (initUnit u s).reply = s.reply := by cases u <;> rfl

/-! ### setRate -/

@[simp] theorem setRate_hw (u : UnitId) (fs : F32) : (setRate u fs s).hw = s.hw := by cases u <;> rfl

@[simp] theorem setRate_win (u : UnitId) (fs : F32) : (setRate u fs s).win = s.win := by cases u <;> rfl

@[simp] theorem setRate_chans (u : UnitId) (fs : F32) : (setRate u fs s).chans = s.chans := by cases u <;> rfl

@[simp] theorem setRate_mem (u : UnitId) (fs : F32) : (setRate u fs s).mem = s.mem := by cases u <;> rfl

@[simp] theorem setRate_inbox (u : UnitId) (fs : F32) : (setRate u fs s).inbox = s.inbox := by cases u <;> rfl

@[simp] theorem setRate_reply (u : UnitId) (fs : F32) : (setRate u fs s).reply = s.reply := by cases u <;> rfl

/-! ### resetCoeffs -/

@[simp] theorem resetCoeffs_hw (u : UnitId) : (resetCoeffs u s).hw = s.hw := rfl

@[simp] theorem resetCoeffs_win (u : UnitId) : (resetCoeffs u s).win = s.win := rfl

@[simp] theorem resetCoeffs_binds (u : UnitId) : (resetCoeffs u s).binds = s.binds := rfl

@[simp] theorem resetCoeffs_chans (u : UnitId) : (resetCoeffs u s).chans = s.chans := rfl

@[simp] theorem resetCoeffs_mem (u : UnitId) : (resetCoeffs u s).mem = s.mem := rfl

@[simp] theorem resetCoeffs_inbox (u : UnitId) : (resetCoeffs u s).inbox = s.inbox := rfl

@[simp] theorem resetCoeffs_reply (u : UnitId) : (resetCoeffs u s).reply = s.reply := rfl

/-! ### blockReset -/

@[simp] theorem blockReset_hw : (blockReset s).hw = s.hw := rfl

@[simp] theorem blockReset_mem : (blockReset s).mem = s.mem := rfl

@[simp] theorem blockReset_inbox : (blockReset s).inbox = s.inbox := rfl

@[simp] theorem blockReset_reply : (blockReset s).reply = s.reply := rfl

/-! ### queueCommand -/

@[simp] theorem queueCommand_hw (w : Word) : (queueCommand s w).hw = s.hw := rfl

@[simp] theorem queueCommand_win (w : Word) : (queueCommand s w).win = s.win := rfl

@[simp] theorem queueCommand_regs (w : Word) : (queueCommand s w).regs = s.regs := rfl

@[simp] theorem queueCommand_valid (w : Word) : (queueCommand s w).valid = s.valid := rfl

@[simp] theorem queueCommand_binds (w : Word) : (queueCommand s w).binds = s.binds := rfl

@[simp] theorem queueCommand_coefs (w : Word) : (queueCommand s w).coefs = s.coefs := rfl

@[simp] theorem queueCommand_chans (w : Word) : (queueCommand s w).chans = s.chans := rfl

@[simp] theorem queueCommand_mem (w : Word) : (queueCommand s w).mem = s.mem := rfl

@[simp] theorem queueCommand_reply (w : Word) : (queueCommand s w).reply = s.reply := rfl

/-! ### What each update writes -/

@[simp] theorem State.updRegs_regs (u : UnitId) (f : UnitRegs → UnitRegs) :
    (s.updRegs u f).regs = s.regs.set u (f (s.regs.get u)) := rfl

@[simp] theorem State.setStValid_valid (u : UnitId) (ch : Nat) (b : Bool) :
    (s.setStValid u ch b).valid = s.valid.set u ((s.valid.get u).set ch b) := rfl

@[simp] theorem State.clearValid_valid (u : UnitId) :
    (s.clearValid u).valid = s.valid.set u (List.replicate s.hw.nCh false) := rfl

@[simp] theorem State.setRes0_win (w : Word) : (s.setRes0 w).win = { s.win with res0 := w } := rfl

@[simp] theorem enterFault_win (c : Word) (k : FaultCode) (a b : Word) :
    (enterFault c k a b s).win =
      { s.win with status := statusOf k, faultCmd := c, faultInfo0 := a, faultInfo1 := b } := rfl

@[simp] theorem State.answer_reply (r : Reply) : (s.answer r).reply = r := rfl

@[simp] theorem blockReset_win : (blockReset s).win = {} := rfl

@[simp] theorem blockReset_regs : (blockReset s).regs = PerUnit.const {} := rfl

@[simp] theorem blockReset_coefs : (blockReset s).coefs = {} := rfl

/-- Reading ST_VALID after writing it. -/
theorem State.stValid_setStValid_self {u : UnitId} {ch : Nat} (h : ch < (s.valid.get u).length) (b : Bool) :
    (s.setStValid u ch b).stValid u ch = b := by
  simp [State.stValid, List.getD_eq_getElem?_getD, h]

theorem State.stValid_setStValid_other (u w : UnitId) {ch c : Nat} (h : w ≠ u ∨ c ≠ ch) (b : Bool) :
    (s.setStValid u ch b).stValid w c = s.stValid w c := by
  unfold State.stValid
  rw [State.setStValid_valid, PerUnit.get_set]
  split
  · subst_vars
    have hc : ch ≠ c := fun e => h.elim (fun h => h rfl) fun h => h e.symm
    simp [List.getD_eq_getElem?_getD, List.getElem?_set_ne hc]
  · rfl

/-- No channel of a unit is valid once the unit's flags are cleared. -/
@[simp] theorem State.stValid_clearValid_self (u : UnitId) (ch : Nat) : (s.clearValid u).stValid u ch = false := by
  by_cases h : ch < s.hw.nCh <;> simp [State.stValid, List.getD_eq_getElem?_getD, h]

theorem State.stValid_clearValid_other {u w : UnitId} (h : w ≠ u) (ch : Nat) :
    (s.clearValid u).stValid w ch = s.stValid w ch := by
  simp [State.stValid, PerUnit.get_set_other _ _ h]

end Sys2Proof.Machine
end

