-- ==== Sys2Proof/Laws/Memory.lean ====
section
/-! SUPPORT. Data memory: reads after writes, and that every memory operation keeps the canonical form. -/

namespace Sys2Proof.Machine
open Sys2Proof.Config

/-! ### Bytes -/

theorem readByte_writeByte_self (m : List Host.Cell) (a : Nat) (b : Byte) (lo : Nat) (h : Memory.wfFrom lo m = true) :
    readByte (writeByte m a b) a = b := by
  induction m generalizing lo with
  | nil =>
    unfold writeByte
    split
    · simp [readByte, *]
    · simp [readByte]
  | cons c r ih =>
    obtain ⟨k, v⟩ := c
    simp only [Memory.wfFrom, Bool.and_eq_true, decide_eq_true_eq] at h
    obtain ⟨⟨⟨h1, h2⟩, h3⟩, h4⟩ := h
    have hlow : ∀ (l : List Host.Cell) (lo' x : Nat), Memory.wfFrom lo' l = true → x < lo' →
        readByte l x = unlistedByte := by
      intro l
      induction l with
      | nil => intros; rfl
      | cons c' r' ih' =>
        intro lo' x hw hx
        obtain ⟨k', v'⟩ := c'
        simp only [Memory.wfFrom, Bool.and_eq_true, decide_eq_true_eq] at hw
        obtain ⟨⟨⟨g1, g2⟩, g3⟩, g4⟩ := hw
        have : k' ≠ x := by omega
        simp only [readByte, this, if_false]
        exact ih' (k' + 1) x g4 (by omega)
    unfold writeByte
    split
    · have : k ≠ a := by omega
      simp only [readByte, this, if_false]
      exact ih (k + 1) h4
    · split
      · split
        · rename_i hk hb
          rw [hb]
          exact hlow r (k + 1) a h4 (by omega)
        · simp [readByte]
      · split
        · rename_i hk hb
          rw [hb]
          have : k ≠ a := by omega
          simp only [readByte, this, if_false]
          exact hlow r (k + 1) a h4 (by omega)
        · simp [readByte]

theorem readByte_writeByte_other (m : List Host.Cell) (a x : Nat) (b : Byte) (hx : x ≠ a) :
    readByte (writeByte m a b) x = readByte m x := by
  induction m with
  | nil =>
    unfold writeByte
    split
    · rfl
    · have : a ≠ x := fun e => hx e.symm
      simp [readByte, this]
  | cons c r ih =>
    obtain ⟨k, v⟩ := c
    have hax : a ≠ x := fun e => hx e.symm
    unfold writeByte
    split
    · simp only [readByte, ih]
    · split
      · rename_i hk
        have hkx : k ≠ x := by omega
        split
        · simp only [readByte, hkx, if_false]
        · simp only [readByte, hkx, hax, if_false]
      · split
        · rfl
        · simp only [readByte, hax, if_false]

theorem wfFrom_writeByte (m : List Host.Cell) (lo a : Nat) (b : Byte) (hlo : lo ≤ a) (ha : a < 2 ^ 32)
    (h : Memory.wfFrom lo m = true) : Memory.wfFrom lo (writeByte m a b) = true := by
  induction m generalizing lo with
  | nil =>
    unfold writeByte
    split
    · rfl
    · simp only [Memory.wfFrom, Bool.and_eq_true, decide_eq_true_eq, bne_iff_ne]
      exact ⟨⟨⟨hlo, ha⟩, ‹_›⟩, trivial⟩
  | cons c r ih =>
    obtain ⟨k, v⟩ := c
    have h' := h
    simp only [Memory.wfFrom, Bool.and_eq_true, decide_eq_true_eq, bne_iff_ne] at h
    obtain ⟨⟨⟨h1, h2⟩, h3⟩, h4⟩ := h
    have hmono : ∀ (l : List Host.Cell) (x y : Nat), x ≤ y → Memory.wfFrom y l = true → Memory.wfFrom x l = true := by
      intro l x y hxy hl
      cases l with
      | nil => rfl
      | cons c' r' =>
        obtain ⟨k', v'⟩ := c'
        simp only [Memory.wfFrom, Bool.and_eq_true, decide_eq_true_eq] at hl ⊢
        exact ⟨⟨⟨by omega, hl.1.1.2⟩, hl.1.2⟩, hl.2⟩
    unfold writeByte
    split
    · simp only [Memory.wfFrom, Bool.and_eq_true, decide_eq_true_eq, bne_iff_ne]
      exact ⟨⟨⟨h1, h2⟩, h3⟩, ih (k + 1) (by omega) h4⟩
    · split
      · split
        · exact hmono r lo (k + 1) (by omega) h4
        · rename_i hka hb
          subst hka
          simp only [Memory.wfFrom, Bool.and_eq_true, decide_eq_true_eq, bne_iff_ne]
          exact ⟨⟨⟨h1, h2⟩, hb⟩, h4⟩
      · split
        · exact h'
        · simp only [Memory.wfFrom, Bool.and_eq_true, decide_eq_true_eq, bne_iff_ne]
          exact ⟨⟨⟨hlo, ha⟩, ‹_›⟩, ⟨⟨by omega, h2⟩, h3⟩, h4⟩

/-- Writing a byte keeps the canonical form. -/
theorem wf_writeByte (m : List Host.Cell) (a : Nat) (b : Byte) (ha : a < 2 ^ 32) (h : Memory.wf m = true) :
    Memory.wf (writeByte m a b) = true := wfFrom_writeByte m 0 a b (Nat.zero_le a) ha h

/-- The byte just written is the byte read. -/
theorem readByte_writeByte (m : List Host.Cell) (a x : Nat) (b : Byte) (h : Memory.wf m = true) :
    readByte (writeByte m a b) x = if x = a then b else readByte m x := by
  split
  · rename_i hx
    rw [hx]
    exact readByte_writeByte_self m a b 0 h
  · exact readByte_writeByte_other m a x b ‹_›

theorem readByte_below (m : List Host.Cell) (lo x : Nat) (h : Memory.wfFrom lo m = true) (hx : x < lo) :
    readByte m x = unlistedByte := by
  induction m generalizing lo with
  | nil => rfl
  | cons c r ih =>
    obtain ⟨k, v⟩ := c
    simp only [Memory.wfFrom, Bool.and_eq_true, decide_eq_true_eq] at h
    obtain ⟨⟨⟨h1, _⟩, _⟩, h4⟩ := h
    have : k ≠ x := by omega
    simp only [readByte, this, if_false]
    exact ih (k + 1) h4 (by omega)

theorem wfFrom_ext (m m' : List Host.Cell) (lo : Nat) (h : Memory.wfFrom lo m = true) (h' : Memory.wfFrom lo m' = true)
    (e : ∀ a, readByte m a = readByte m' a) : m = m' := by
  induction m generalizing lo m' with
  | nil =>
    cases m' with
    | nil => rfl
    | cons c r =>
      obtain ⟨k, v⟩ := c
      simp only [Memory.wfFrom, Bool.and_eq_true, bne_iff_ne] at h'
      have := e k
      simp only [readByte, if_true] at this
      exact absurd this.symm h'.1.2
  | cons c r ih =>
    obtain ⟨k, v⟩ := c
    simp only [Memory.wfFrom, Bool.and_eq_true, decide_eq_true_eq, bne_iff_ne] at h
    obtain ⟨⟨⟨h1, h2⟩, h3⟩, h4⟩ := h
    cases m' with
    | nil =>
      have := e k
      simp only [readByte, if_true] at this
      exact absurd this h3
    | cons c' r' =>
      obtain ⟨k', v'⟩ := c'
      simp only [Memory.wfFrom, Bool.and_eq_true, decide_eq_true_eq, bne_iff_ne] at h'
      obtain ⟨⟨⟨g1, g2⟩, g3⟩, g4⟩ := h'
      have hk : k = k' := by
        by_contra hne
        rcases Nat.lt_or_gt_of_ne hne with hlt | hgt
        · have h5 := e k
          have : k' ≠ k := by omega
          simp only [readByte, if_true, this, if_false] at h5
          rw [readByte_below r' (k' + 1) k g4 (by omega)] at h5
          exact h3 h5
        · have h5 := e k'
          have : k ≠ k' := by omega
          simp only [readByte, if_true, this, if_false] at h5
          rw [readByte_below r (k + 1) k' h4 (by omega)] at h5
          exact g3 h5.symm
      subst hk
      have hv : v = v' := by
        have h5 := e k
        simpa only [readByte, if_true] using h5
      subst hv
      have hr : r = r' := by
        refine ih r' (k + 1) h4 g4 fun a => ?_
        by_cases ha : k = a
        · subst ha
          rw [readByte_below r (k + 1) k h4 (by omega), readByte_below r' (k + 1) k g4 (by omega)]
        · have h5 := e a
          simpa only [readByte, ha, if_false] using h5
      rw [hr]

/-- Memories in canonical form that read the same at every address are equal. -/
theorem memory_ext {m m' : List Host.Cell} (h : Memory.wf m = true) (h' : Memory.wf m' = true)
    (e : ∀ a, readByte m a = readByte m' a) : m = m' := wfFrom_ext m m' 0 h h' e

/-! ### Words -/

/-- Storing a word keeps the canonical form. -/
theorem wf_writeWord (m : List Host.Cell) (a : Nat) (w : Word) (ha : a + 4 ≤ 2 ^ 32) (h : Memory.wf m = true) :
    Memory.wf (writeWord m a w) = true := by
  unfold writeWord
  refine wf_writeByte _ _ _ (by omega) (wf_writeByte _ _ _ (by omega) (wf_writeByte _ _ _ (by omega) ?_))
  exact wf_writeByte _ _ _ (by omega) h

/-- A byte outside the word stored reads as before. -/
theorem readByte_writeWord_other (m : List Host.Cell) (a x : Nat) (w : Word) (hx : x < a ∨ a + 4 ≤ x) :
    readByte (writeWord m a w) x = readByte m x := by
  unfold writeWord
  rw [readByte_writeByte_other, readByte_writeByte_other, readByte_writeByte_other, readByte_writeByte_other] <;> omega

/-- A word that does not meet the word stored reads as before. -/
theorem readWord_writeWord_other (m : List Host.Cell) (a b : Nat) (w : Word) (hb : b + 4 ≤ a ∨ a + 4 ≤ b) :
    readWord (writeWord m a w) b = readWord m b := by
  unfold readWord
  rw [readByte_writeWord_other, readByte_writeWord_other, readByte_writeWord_other, readByte_writeWord_other] <;> omega

/-- The four bytes of a word, put together again, are the word. -/
theorem bytes_of_word (w : Word) :
    w.extractLsb' 24 8 ++ w.extractLsb' 16 8 ++ w.extractLsb' 8 8 ++ w.extractLsb' 0 8 = w := by
  apply BitVec.eq_of_getElem_eq
  intro i hi
  simp only [BitVec.getElem_append, BitVec.getElem_extractLsb']
  split
  · simp [BitVec.getLsbD_eq_getElem, hi]
  · split
    · rw [show 8 + (i - 8) = i by omega, BitVec.getLsbD_eq_getElem]
    · split
      · rw [show 16 + (i - 8 - 8) = i by omega, BitVec.getLsbD_eq_getElem]
      · rw [show 24 + (i - 8 - 8 - 8) = i by omega, BitVec.getLsbD_eq_getElem]

theorem readByte_writeWord (m : List Host.Cell) (a k : Nat) (w : Word) (h : Memory.wf m = true) (ha : a + 4 ≤ 2 ^ 32)
    (hk : k < 4) : readByte (writeWord m a w) (a + k) = w.extractLsb' (8 * k) 8 := by
  have w0 := wf_writeByte m a (w.extractLsb' 0 8) (by omega) h
  have w1 := wf_writeByte _ (a + 1) (w.extractLsb' 8 8) (by omega) w0
  have w2 := wf_writeByte _ (a + 2) (w.extractLsb' 16 8) (by omega) w1
  unfold writeWord
  rw [readByte_writeByte _ _ _ _ w2, readByte_writeByte _ _ _ _ w1, readByte_writeByte _ _ _ _ w0,
    readByte_writeByte _ _ _ _ h]
  rcases (by omega : k = 0 ∨ k = 1 ∨ k = 2 ∨ k = 3) with rfl | rfl | rfl | rfl <;> simp

/-- The word just stored is the word read (20_memory.md R82, R84, R94). -/
theorem readWord_writeWord_self (m : List Host.Cell) (a : Nat) (w : Word) (h : Memory.wf m = true)
    (ha : a + 4 ≤ 2 ^ 32) : readWord (writeWord m a w) a = w := by
  have h0 := readByte_writeWord m a 0 w h ha (by omega)
  have h1 := readByte_writeWord m a 1 w h ha (by omega)
  have h2 := readByte_writeWord m a 2 w h ha (by omega)
  have h3 := readByte_writeWord m a 3 w h ha (by omega)
  rw [Nat.add_zero] at h0
  unfold readWord
  rw [h0, h1, h2, h3]
  exact bytes_of_word w

/-- A 4-aligned word after a store to a 4-aligned address: the word stored, or what it was. -/
theorem readWord_writeWord (m : List Host.Cell) (a b : Nat) (w : Word) (h : Memory.wf m = true) (ha : a + 4 ≤ 2 ^ 32)
    (ha4 : a % 4 = 0) (hb4 : b % 4 = 0) :
    readWord (writeWord m a w) b = if b = a then w else readWord m b := by
  split
  · rename_i hb
    rw [hb]
    exact readWord_writeWord_self m a w h ha
  · exact readWord_writeWord_other m a b w (by omega)

/-! ### Regions -/

/-- A range answered by ordinary memory throughout is so in every part. -/
theorem regionAt_none_sub (rs : List Region) {lo len a n : Nat} (h : regionAt rs lo len = none) (h1 : lo ≤ a)
    (h2 : a + n ≤ lo + len) : regionAt rs a n = none := by
  induction rs with
  | nil => rfl
  | cons r rs ih =>
    unfold regionAt at h ⊢
    split at h
    · cases h
    · rename_i ho
      have : r.overlaps a n = false := by
        simp only [Region.overlaps, Bool.and_eq_true, decide_eq_true_eq, not_and, Bool.and_eq_false_iff,
          decide_eq_false_iff_not] at ho ⊢
        omega
      rw [this]
      exact ih h

/-! ### The engine's accesses -/

/-- Everything `busCheck` can do: it passes where an aligned word of ordinary memory stands, and leaves the state
alone in every case. -/
theorem busCheck_ok (a : Nat) (s : State) (h4 : a % 4 = 0) (hr : a + 4 ≤ 2 ^ 32)
    (ho : regionAt s.hw.regions a 4 = none) : busCheck a s = .ok () s := by
  have h : ¬(a % 4 ≠ 0 ∨ 2 ^ 32 < a + 4) := by omega
  simp only [busCheck, engine_bind_get, if_neg h, ho]
  rfl

/-- A bus error (20_memory.md R81). -/
theorem busCheck_busError (a : Nat) (s : State) (h4 : a % 4 = 0) (hr : a + 4 ≤ 2 ^ 32)
    (ho : regionAt s.hw.regions a 4 = some .busError) :
    busCheck a s = .error (.trap .busError (BitVec.ofNat 32 a) 0) s := by
  have h : ¬(a % 4 ≠ 0 ∨ 2 ^ 32 < a + 4) := by omega
  simp only [busCheck, engine_bind_get, if_neg h, ho]
  rfl

theorem busCheck_cases (a : Nat) (s : State) :
    (busCheck a s = .ok () s ∧ a % 4 = 0 ∧ a + 4 ≤ 2 ^ 32 ∧ regionAt s.hw.regions a 4 = none) ∨
    (busCheck a s = .error (.fault (.engineAddress a)) s ∧ (a % 4 ≠ 0 ∨ 2 ^ 32 < a + 4)) ∨
    (busCheck a s = .error (.trap .busError (BitVec.ofNat 32 a) 0) s ∧ regionAt s.hw.regions a 4 = some .busError) ∨
    (busCheck a s = .error (.refuse (.sideEffectMemory a)) s ∧ regionAt s.hw.regions a 4 = some .sideEffect) := by
  by_cases h : a % 4 ≠ 0 ∨ 2 ^ 32 < a + 4
  · refine .inr (.inl ⟨?_, h⟩)
    simp only [busCheck, engine_bind_get, if_pos h]
    rfl
  · cases hr : regionAt s.hw.regions a 4 with
    | none =>
      refine .inl ⟨?_, by omega, by omega, rfl⟩
      exact busCheck_ok a s (by omega) (by omega) hr
    | some k =>
      cases k with
      | busError =>
        refine .inr (.inr (.inl ⟨busCheck_busError a s (by omega) (by omega) hr, rfl⟩))
      | sideEffect =>
        refine .inr (.inr (.inr ⟨?_, rfl⟩))
        simp only [busCheck, engine_bind_get, if_neg h, hr]
        rfl

/-- A load from ordinary memory: the word there, the state alone. -/
theorem memRead_ok (a : Nat) (s : State) (h4 : a % 4 = 0) (hr : a + 4 ≤ 2 ^ 32)
    (ho : regionAt s.hw.regions a 4 = none) : memRead a s = .ok (readWord s.mem a) s := by
  unfold memRead
  rw [engine_bind_ok (busCheck_ok a s h4 hr ho)]
  rfl

/-- A store to ordinary memory: that word, and nothing else. -/
theorem memWrite_ok (a : Nat) (w : Word) (s : State) (h4 : a % 4 = 0) (hr : a + 4 ≤ 2 ^ 32)
    (ho : regionAt s.hw.regions a 4 = none) : memWrite a w s = .ok () { s with mem := writeWord s.mem a w } := by
  unfold memWrite
  rw [engine_bind_ok (busCheck_ok a s h4 hr ho)]
  rfl

/-- If a load answers a word, it is the word at the address and the state is the one before. -/
theorem memRead_eq_ok {a : Nat} {s t : State} {w : Word} (h : memRead a s = .ok w t) :
    t = s ∧ w = readWord s.mem a ∧ a % 4 = 0 ∧ a + 4 ≤ 2 ^ 32 ∧ regionAt s.hw.regions a 4 = none := by
  obtain ⟨_, s', h1, h2⟩ := engine_bind_eq_ok h
  rcases busCheck_cases a s with hc | hc | hc | hc
  · rw [hc.1] at h1
    cases h1
    cases h2
    exact ⟨rfl, rfl, hc.2⟩
  all_goals (rw [hc.1] at h1; cases h1)

/-- A load that stops leaves the state alone. -/
theorem memRead_eq_error {a : Nat} {s t : State} {x : Stop} (h : memRead a s = .error x t) : t = s := by
  rcases engine_bind_eq_error h with h1 | ⟨_, s', h1, h2⟩
  · rcases busCheck_cases a s with hc | hc | hc | hc
    · rw [hc.1] at h1; cases h1
    all_goals (rw [hc.1] at h1; cases h1; rfl)
  · cases h2

/-- If a store ends, it stored the word and changed nothing else. -/
theorem memWrite_eq_ok {a : Nat} {w : Word} {s t : State} {r : Unit} (h : memWrite a w s = .ok r t) :
    t = { s with mem := writeWord s.mem a w } ∧ a % 4 = 0 ∧ a + 4 ≤ 2 ^ 32 ∧ regionAt s.hw.regions a 4 = none := by
  obtain ⟨_, s', h1, h2⟩ := engine_bind_eq_ok h
  rcases busCheck_cases a s with hc | hc | hc | hc
  · rw [hc.1] at h1
    cases h1
    cases h2
    exact ⟨rfl, hc.2⟩
  all_goals (rw [hc.1] at h1; cases h1)

/-- A store that stops stored nothing. -/
theorem memWrite_eq_error {a : Nat} {w : Word} {s t : State} {x : Stop} (h : memWrite a w s = .error x t) : t = s := by
  rcases engine_bind_eq_error h with h1 | ⟨_, s', h1, h2⟩
  · rcases busCheck_cases a s with hc | hc | hc | hc
    · rw [hc.1] at h1; cases h1
    all_goals (rw [hc.1] at h1; cases h1; rfl)
  · cases h2

theorem keeps_memRead {R : State → State → Prop} (hr : ∀ s, R s s) (a : Nat) : Engine.Keeps R (memRead a) := by
  intro s
  cases h : memRead a s with
  | ok w t => rw [(memRead_eq_ok h).1]; exact hr s
  | error x t => rw [memRead_eq_error h]; exact hr s

theorem keeps_memWrite {R : State → State → Prop} (hr : ∀ s, R s s) {a : Nat} {w : Word}
    (hw : ∀ s : State, a % 4 = 0 → a + 4 ≤ 2 ^ 32 → regionAt s.hw.regions a 4 = none →
      R s { s with mem := writeWord s.mem a w }) : Engine.Keeps R (memWrite a w) := by
  intro s
  cases h : memWrite a w s with
  | ok r t =>
    obtain ⟨rfl, h1, h2, h3⟩ := memWrite_eq_ok h
    exact hw s h1 h2 h3
  | error x t => rw [memWrite_eq_error h]; exact hr s

end Sys2Proof.Machine
end

