-- ==== Sys2Proof/Laws/Commands.lean ====
section
/-! SUPPORT. What each shared command computation can do, said once: a command either fails a check, in the order of
40_protocol.md R141, or makes its one effect. -/

namespace Sys2Proof.Machine
open Sys2Proof.Config

/-! ### A command of each opcode, by unit -/

variable (u : UnitId) (ch : BitVec 6) (s : State)

theorem exec_initOf : exec (initOf u) s = runCommand (initOf u) (cmdInit u) s := by cases u <;> rfl

theorem exec_setSrOf : exec (setSrOf u) s = runCommand (setSrOf u) (cmdSetSr u) s := by cases u <;> rfl

theorem exec_resetCoeffsOf : exec (resetCoeffsOf u) s = runCommand (resetCoeffsOf u) (cmdResetCoeffs u) s := by
  cases u <;> rfl

theorem exec_resetStateOf : exec (resetStateOf u ch) s = runCommand (resetStateOf u ch) (cmdResetState u ch) s := by
  cases u <;> rfl

theorem exec_updateCtrlOf : exec (updateCtrlOf u) s = runCommand (updateCtrlOf u) (cmdUpdateCtrl u) s := by
  cases u <;> rfl

theorem exec_updateAudioOf : exec (updateAudioOf u) s = runCommand (updateAudioOf u) (cmdUpdateAudio u) s := by
  cases u <;> rfl

theorem exec_process1Of : exec (process1Of u ch) s = runCommand (process1Of u ch) (cmdProcess1 u ch) s := by
  cases u <;> rfl

theorem exec_processOf : exec (processOf u ch) s = runCommand (processOf u ch) (cmdProcess u ch) s := by
  cases u <;> rfl

theorem exec_processMultiOf : exec (processMultiOf u) s = runCommand (processMultiOf u) (cmdProcessMulti u) s := by
  cases u <;> rfl

/-! ### What each computation can do -/

/-- INIT: DELAY's max_delay is refused, or the unit is initialised. -/
theorem cmdInit_run : cmdInit u s =
    if (u != .delay || okNonneg s.win.arg0) = true then .ok () (initUnit u s)
    else .error (.trap .paramRange s.win.arg0 0) s := by
  rw [cmdInit, engine_bind_get, engine_check (require_run _ _ _ s)]
  rfl

/-- SET_SR: the lifecycle, the rate, the unit's own range; or the rate is set. -/
theorem cmdSetSr_run : cmdSetSr u s =
    if lifeInited (s.regs.get u).life = true then
      if (isFinite s.win.arg0 && fLe fsMin s.win.arg0) = true then
        if okUnitRate u s.win.arg0 s.coefs = true then .ok () (setRate u s.win.arg0 s)
        else .error (.trap .paramRange s.win.arg0 0) s
      else .error (.trap .paramRange s.win.arg0 0) s
    else .error (.trap .lifecycle (lifeCode (s.regs.get u).life) 0) s := by
  rw [cmdSetSr, engine_check (requireLife_run u _ s), engine_bind_get, engine_check (require_run _ _ _ s),
    engine_check (require_run _ _ _ s)]
  rfl

/-- RESET_COEFFS: the lifecycle; or every derived register is recomputed. -/
theorem cmdResetCoeffs_run : cmdResetCoeffs u s =
    if lifeSrSet (s.regs.get u).life = true then .ok () (resetCoeffs u s)
    else .error (.trap .lifecycle (lifeCode (s.regs.get u).life) 0) s := by
  rw [cmdResetCoeffs, engine_check (requireLife_run u _ s)]
  rfl

/-- UPDATE_CTRL: the lifecycle; or the dirty derived registers are recomputed. -/
theorem cmdUpdateCtrl_run : cmdUpdateCtrl u s =
    if lifeReady (s.regs.get u).life = true then .ok () (updateCtrl u s)
    else .error (.trap .lifecycle (lifeCode (s.regs.get u).life) 0) s := by
  rw [cmdUpdateCtrl, engine_check (requireLife_run u _ s)]
  rfl

/-- UPDATE_AUDIO: the lifecycle; or one audio-rate step. -/
theorem cmdUpdateAudio_run : cmdUpdateAudio u s =
    if lifeReady (s.regs.get u).life = true then .ok () (updateAudio u s)
    else .error (.trap .lifecycle (lifeCode (s.regs.get u).life) 0) s := by
  rw [cmdUpdateAudio, engine_check (requireLife_run u _ s)]
  rfl

/-- SET_PARAM: the lifecycle, the legal set; or the parameter is written. -/
theorem cmdSetParam_run (ok : Word → Bool) (bits : Word) (write : Word → Coefs → Coefs) :
    cmdSetParam u ok bits write s =
      if lifeInited (s.regs.get u).life = true then
        if ok s.win.arg0 = true then .ok () (writeParam u bits write s)
        else .error (.trap .paramRange s.win.arg0 0) s
      else .error (.trap .lifecycle (lifeCode (s.regs.get u).life) 0) s := by
  rw [cmdSetParam, engine_check (requireLife_run u _ s), engine_bind_get, engine_check (require_run _ _ _ s)]
  rfl

/-- MEM_REQ: the lifecycle; or the arena's size in RES0. -/
theorem cmdMemReq_run : cmdMemReq u s =
    if lifeSrSet (s.regs.get u).life = true then .ok () (s.setRes0 (s.memReq u))
    else .error (.trap .lifecycle (lifeCode (s.regs.get u).life) 0) s := by
  rw [cmdMemReq, engine_check (requireLife_run u _ s)]
  rfl

/-- MEM_SET: the channel, the lifecycle, the base's alignment, its range; or the channel is bound. -/
theorem cmdMemSet_run : cmdMemSet u ch s =
    if ch.toNat < s.hw.nCh then
      if lifeSrSet (s.regs.get u).life = true then
        if aligned4 s.win.arg0 = true then
          if inRange s.win.arg0 (s.memReq u).toNat = true then .ok () (bindChannel u ch.toNat s)
          else .error (.trap .addrRange s.win.arg0 0) s
        else .error (.trap .misaligned s.win.arg0 0) s
      else .error (.trap .lifecycle (lifeCode (s.regs.get u).life) 0) s
    else .error (.trap .badChannel (ch.setWidth 32) 0) s := by
  rw [cmdMemSet, engine_check (requireChannel_run ch s), engine_check (requireLife_run u _ s), engine_bind_get,
    engine_check (require_run _ _ _ s), engine_check (require_run _ _ _ s)]
  rfl

/-- READ_COEF: the register in RES0. -/
theorem cmdReadCoef_run (reg : State → Word) : cmdReadCoef reg s = .ok () (s.setRes0 (reg s)) := rfl

/-- READ_STATE: the channel; or the register in RES0. -/
theorem cmdReadState_run (reg : State → Nat → Word) : cmdReadState ch reg s =
    if ch.toNat < s.hw.nCh then .ok () (s.setRes0 (reg s ch.toNat))
    else .error (.trap .badChannel (ch.setWidth 32) 0) s := by
  rw [cmdReadState, engine_check (requireChannel_run ch s)]
  rfl

/-- The admission of a channel: its checks in order, none of which changes anything. -/
theorem admitChannel_run : admitChannel u ch s =
    if ch.toNat < s.hw.nCh then
      if lifeReady (s.regs.get u).life = true then
        if hasMemory u = true → (s.binding u ch.toNat).bound = true then
          if s.stValid u ch.toNat = true then .ok () s
          else .error (.trap .stateInvalid (BitVec.ofNat 32 ch.toNat) 0) s
        else .error (.trap .memUnbound (BitVec.ofNat 32 ch.toNat) 0) s
      else .error (.trap .lifecycle (lifeCode (s.regs.get u).life) 0) s
    else .error (.trap .badChannel (ch.setWidth 32) 0) s := by
  rw [admitChannel, engine_check (requireChannel_run ch s), engine_check (requireLife_run u _ s),
    engine_check (requireBound_run u ch.toNat s), requireValid_run]

theorem lifeReady_eq (l : Life) : lifeReady l = true ↔ l = .ready := by cases l <;> simp [lifeReady]

theorem lifeSrSet_eq (l : Life) : lifeSrSet l = true ↔ l = .srSet ∨ l = .ready := by cases l <;> simp [lifeSrSet]

theorem lifeInited_eq (l : Life) : lifeInited l = true ↔ isInited l := by cases l <;> simp [lifeInited, isInited]

/-- An admitted channel passes. -/
theorem admitChannel_pass (h : admitted s u ch.toNat) : admitChannel u ch s = .ok () s := by
  obtain ⟨h1, h2, h3, h4⟩ := h
  rw [admitChannel_run, if_pos h2, if_pos ((lifeReady_eq _).2 h1), if_pos h3, if_pos h4]

/-- A channel is admitted, or it stops the command with nothing changed. -/
theorem admitChannel_cases : (admitChannel u ch s = .ok () s ∧ admitted s u ch.toNat) ∨
    ∃ c a, admitChannel u ch s = .error (.trap c a 0) s := by
  rw [admitChannel_run]
  by_cases h2 : ch.toNat < s.hw.nCh
  · by_cases h1 : lifeReady (s.regs.get u).life = true
    · by_cases h3 : hasMemory u = true → (s.binding u ch.toNat).bound = true
      · by_cases h4 : s.stValid u ch.toNat = true
        · exact .inl ⟨by rw [if_pos h2, if_pos h1, if_pos h3, if_pos h4], (lifeReady_eq _).1 h1, h2, h3, h4⟩
        · exact .inr ⟨_, _, by rw [if_pos h2, if_pos h1, if_pos h3, if_neg h4]⟩
      · exact .inr ⟨_, _, by rw [if_pos h2, if_pos h1, if_neg h3]⟩
    · exact .inr ⟨_, _, by rw [if_pos h2, if_neg h1]⟩
  · exact .inr ⟨_, _, by rw [if_neg h2]⟩

/-- Samples that are all finite pass. -/
theorem requireFinite_pass {xs : List F32} (h : ∀ v ∈ xs, isFinite v = true) : requireFinite xs s = .ok () s := by
  rw [requireFinite_run, List.find?_eq_none.2 (fun v hv => by simp [h v hv])]

/-- The finiteness check passes, or reports the first sample that is not finite; it changes nothing. -/
theorem requireFinite_cases (xs : List F32) :
    (requireFinite xs s = .ok () s ∧ ∀ v ∈ xs, isFinite v = true) ∨
    ∃ v ∈ xs, isFinite v = false ∧ requireFinite xs s = .error (.trap .nonfinite v 0) s := by
  rw [requireFinite_run]
  cases h : xs.find? fun v => !isFinite v with
  | none => exact .inl ⟨rfl, fun v hv => by simpa using List.find?_eq_none.1 h v hv⟩
  | some v => exact .inr ⟨v, List.mem_of_find?_eq_some h, by simpa using List.find?_some h, rfl⟩

/-- The samples of PROCESS1 and RESET_STATE are finite when ARG0 is and, for REVERB, ARG1 is. -/
theorem sampleArgs_finite (w : Window) (h0 : isFinite w.arg0 = true) (h1 : u = .reverb → isFinite w.arg1 = true) :
    ∀ v ∈ sampleArgs u w, isFinite v = true := by
  cases u <;> simp_all [sampleArgs]

/-- PROCESS1 of an admitted channel and finite samples: the hook's outcome, its outputs in RES. -/
theorem cmdProcess1_run (h : admitted s u ch.toNat) (hf : ∀ v ∈ sampleArgs u s.win, isFinite v = true) :
    cmdProcess1 u ch s = match process1Hook u ch.toNat (sampleArgs u s.win) s with
      | .ok ys t => .ok () (t.setResults ys)
      | .error x t => .error x t := by
  unfold cmdProcess1
  rw [engine_bind_ok (admitChannel_pass u ch s h)]
  simp only [engine_bind_get]
  rw [engine_bind_ok (requireFinite_pass s hf), engine_bind]
  cases process1Hook u ch.toNat (sampleArgs u s.win) s <;> rfl

/-- The state RESET_STATE's hook starts from: a channel with memory marked invalid (notes/assumptions/8). -/
def State.beforeSeed (s : State) (u : UnitId) (ch : Nat) : State :=
  s.setStValid u ch (s.stValid u ch && !hasMemory u)

/-- RESET_STATE of a channel the block has, of a READY unit, bound where it has memory, with finite samples: the hook's
outcome, the channel valid and the hook's outputs in RES. -/
theorem cmdResetState_run (hc : ch.toNat < s.hw.nCh) (hl : (s.regs.get u).life = .ready)
    (hb : hasMemory u = true → (s.binding u ch.toNat).bound = true)
    (hf : ∀ v ∈ sampleArgs u s.win, isFinite v = true) :
    cmdResetState u ch s = match resetStateHook u ch.toNat (sampleArgs u s.win) (s.beforeSeed u ch.toNat) with
      | .ok ys t => .ok () ((t.setStValid u ch.toNat true).setResults ys)
      | .error x t => .error x t := by
  rw [cmdResetState, engine_check (requireChannel_run ch s), if_pos hc, engine_check (requireLife_run u _ s),
    if_pos ((lifeReady_eq _).2 hl), engine_check (requireBound_run u ch.toNat s), if_pos hb, engine_bind_get,
    engine_bind_ok (requireFinite_pass s hf), engine_bind_modify, engine_bind]
  unfold State.beforeSeed
  cases resetStateHook u ch.toNat (sampleArgs u s.win) (s.setStValid u ch.toNat
    (s.stValid u ch.toNat && !hasMemory u)) <;> rfl

end Sys2Proof.Machine
end

