-- ==== Sys2Proof/Laws/Params.lean ====
section
/-! SUPPORT. The legal sets of the parameter setters: what each check of Machine/Operands.lean says of the value the
operand encodes (Safety.lean's `…Legal`), and the rule of one setter. -/

namespace Sys2Proof.Machine
open Sys2Proof.Config

/-! ### Comparisons as comparisons of encoded values -/

/-- A finite value is not a NaN. -/
theorem isNaN_of_isFinite {w : F32} (h : isFinite w = true) : isNaN w = false := by
  simp only [isFinite, bne_iff_ne] at h
  simp [isNaN, h]

theorem fLe_iff {a b : F32} (ha : isNaN a = false) : fLe a b = true ↔ isNaN b = false ∧ scaled a ≤ scaled b := by
  simp [fLe, ha]

theorem fLt_iff {a b : F32} (ha : isNaN a = false) : fLt a b = true ↔ isNaN b = false ∧ scaled a < scaled b := by
  simp [fLt, ha]

theorem fEq_iff {a b : F32} (ha : isNaN a = false) : fEq a b = true ↔ isNaN b = false ∧ scaled a = scaled b := by
  simp [fEq, ha]

@[simp] theorem scaled_f0 : scaled f0 = 0 := by decide

@[simp] theorem scaled_f1 : scaled f1 = 2 ^ 149 := by decide

@[simp] theorem isNaN_f0 : isNaN f0 = false := by decide

@[simp] theorem isNaN_f1 : isNaN f1 = false := by decide

theorem f0_fLe_iff (w : F32) : fLe f0 w = true ↔ isNaN w = false ∧ 0 ≤ scaled w := by
  rw [fLe_iff isNaN_f0, scaled_f0]

theorem f0_fLt_iff (w : F32) : fLt f0 w = true ↔ isNaN w = false ∧ 0 < scaled w := by
  rw [fLt_iff isNaN_f0, scaled_f0]

/-! ### The legal sets -/

theorem okFinite_iff (w : F32) : okFinite w = true ↔ finiteLegal w := Iff.rfl

theorem okNonneg_iff (w : F32) : okNonneg w = true ↔ nonnegLegal w := by
  rw [okNonneg, Bool.and_eq_true, f0_fLe_iff]
  exact ⟨fun h => ⟨h.1, h.2.2⟩, fun h => ⟨h.1, isNaN_of_isFinite h.1, h.2⟩⟩

theorem okPositive_iff (w : F32) : okPositive w = true ↔ positiveLegal w := by
  rw [okPositive, Bool.and_eq_true, f0_fLt_iff]
  exact ⟨fun h => ⟨h.1, h.2.2⟩, fun h => ⟨h.1, isNaN_of_isFinite h.1, h.2⟩⟩

theorem okFlag_iff (w : Word) : okFlag w = true ↔ flagLegal w := by simp [okFlag, flagLegal]

theorem okCutoff_iff (w : F32) : okCutoff w = true ↔ cutoffLegal w := by
  have hi : isNaN posInf = false := by decide
  have hp : 0 < scaled posInf := by decide
  rw [okCutoff, Bool.or_eq_true, f0_fLe_iff]
  constructor
  · rintro (h | h)
    · exact h
    · simp only [fEq, Bool.and_eq_true, Bool.not_eq_true', decide_eq_true_eq] at h
      exact ⟨h.1.1, by rw [h.2]; exact hp.le⟩
  · exact Or.inl

theorem okDb_iff (w : F32) : okDb w = true ↔ dbLegal w := by
  have h1 : scaled dbMinus600 = -(600 * 2 ^ 149) := by decide
  have h2 : scaled db600 = 600 * 2 ^ 149 := by decide
  have h3 : isNaN dbMinus600 = false := by decide
  have h4 : isNaN db600 = false := by decide
  rw [okDb, Bool.and_eq_true, fLe_iff h3, h1]
  constructor
  · rintro ⟨h, h'⟩
    rw [fLe_iff h.1, h2] at h'
    exact ⟨h.1, h.2, h'.2⟩
  · rintro ⟨h, h', h''⟩
    exact ⟨⟨h, h'⟩, by rw [fLe_iff h, h2]; exact ⟨h4, h''⟩⟩

theorem okPredelay_iff (w : F32) : okPredelay w = true ↔ predelayLegal w := by
  rw [okPredelay, Bool.and_eq_true, f0_fLe_iff]
  constructor
  · rintro ⟨h, h'⟩
    exact ⟨h.1, h.2, ((fLe_iff h.1).1 h').2⟩
  · rintro ⟨h, h', h''⟩
    exact ⟨⟨h, h'⟩, (fLe_iff h).2 ⟨by decide, h''⟩⟩

theorem okDecay_iff (w : F32) : okDecay w = true ↔ decayLegal w := by
  rw [okDecay, Bool.and_eq_true, f0_fLe_iff]
  constructor
  · rintro ⟨h, h'⟩
    have := ((fLt_iff h.1).1 h').2
    rw [scaled_f1] at this
    exact ⟨h.1, h.2, this⟩
  · rintro ⟨h, h', h''⟩
    exact ⟨⟨h, h'⟩, (fLt_iff h).2 ⟨isNaN_f1, by rw [scaled_f1]; exact h''⟩⟩

/-- A sample rate SET_SR accepts. -/
theorem okRate_iff (fs : F32) : (isFinite fs && fLe fsMin fs) = true ↔ rateLegal fs := by
  have h1 : scaled fsMin = 2 ^ 149 := by decide
  have h2 : isNaN fsMin = false := by decide
  rw [Bool.and_eq_true, fLe_iff h2, h1]
  exact ⟨fun h => ⟨h.1, h.2.2⟩, fun h => ⟨h.1, isNaN_of_isFinite h.1, h.2⟩⟩

/-- A sample rate SET_SR of REVERB accepts is one SET_SR accepts. -/
theorem rateLegal_of_reverb {fs : F32} (h : reverbRateLegal fs) : rateLegal fs := by
  obtain ⟨h1, h2, -⟩ := h
  refine ⟨h1, le_trans ?_ h2⟩
  decide

theorem okReverbRate_iff {fs : F32} (hf : isFinite fs = true) (c : Coefs) :
    okUnitRate .reverb fs c = true ↔ reverbRateLegal fs := by
  have h1 : scaled fsMinRev = 1000 * 2 ^ 149 := by decide
  have h2 : isNaN fsMinRev = false := by decide
  have h3 : scaled fsMaxRev = 768000 * 2 ^ 149 := by decide
  have h4 : isNaN fsMaxRev = false := by decide
  have h5 := isNaN_of_isFinite hf
  simp only [okUnitRate]
  rw [Bool.and_eq_true, fLe_iff h2, fLe_iff h5, h1, h3]
  exact ⟨fun h => ⟨hf, h.1.2, h.2.2⟩, fun h => ⟨⟨h5, h.2.1⟩, h4, h.2.2⟩⟩

/-! ### Addresses -/

theorem aligned4_iff (a : Word) : aligned4 a = true ↔ a.toNat % 4 = 0 := by
  rw [aligned4, beq_iff_eq, ← BitVec.toNat_inj]
  simp [BitVec.extractLsb'_toNat]

theorem inRange_iff (a : Word) (n : Nat) : inRange a n = true ↔ a.toNat + n ≤ 2 ^ 32 := by simp only [inRange, decide_eq_true_eq]

/-! ### One setter -/

/-- A command that is SET_PARAM with a decided legal set has the setter's rule. -/
theorem setterRule_of {i : Instr} {word : Word} {u : UnitId} {ok : Word → Prop} {okb : Word → Bool} {bits : Word}
    {put put' : Word → Coefs → Coefs} (he : encode i = word)
    (hx : ∀ s, exec i s = runCommand i (cmdSetParam u okb bits put') s) (hok : ∀ w, okb w = true ↔ ok w)
    (hp : ∀ w c, ok w → put' w c = put w c) : SetterRule i word u ok bits put := by
  refine ⟨he, fun s hl => ⟨fun h => ?_, fun h => ?_⟩⟩
  · rw [hx, runCommand_ok (t := writeParam u bits put' s)]
    · rw [← hp _ _ h]
      rfl
    · rw [cmdSetParam_run, if_pos ((lifeInited_eq _).2 hl), if_pos ((hok _).2 h)]
  · rw [hx, runCommand_trap (c := .paramRange) (a := s.win.arg0) (b := 0) (t := s), he]
    · rfl
    · rw [cmdSetParam_run, if_pos ((lifeInited_eq _).2 hl), if_neg fun h' => h ((hok _).1 h')]

/-- The cutoff of a legal time constant (41_one_pole.md R223). -/
theorem tauCutoff_eq {t : F32} (h : cutoffLegal t) :
    tauCutoff t = if scaled t = 0 then 0x7F800000#32 else fDiv 0x3E22F983#32 t := by
  have : fEq t f0 = decide (scaled t = 0) := by
    simp only [fEq, h.1, isNaN_f0, scaled_f0, Bool.not_false, Bool.true_and]
  unfold tauCutoff
  rw [this]
  by_cases h0 : scaled t = 0 <;> simp [h0, posInf, inv2Pi]

end Sys2Proof.Machine
end

