-- ==== Sys2Proof/Laws/Float.lean ====
section
/-! SUPPORT. Rounding (00_scope.md R8): what an encoding is worth, that a larger encoding is worth more, that a rounded
value is one of the two next to the exact one, and that rounding never passes a value the format holds. -/

namespace Sys2Proof.Machine
open Sys2Proof.Config

/-! ### What an encoding without its sign is worth -/

/-- The value, in units of 2^-149, of the low 31 bits `m` of an encoding. -/
def encodedValue (m : Nat) : Nat :=
  if m / 2 ^ 23 = 0 then m % 2 ^ 23 else (2 ^ 23 + m % 2 ^ 23) * 2 ^ (m / 2 ^ 23 - 1)

/-- An encoding of binade `k` and significand `r`, the next binade's first included. -/
theorem encodedValue_binade (k r : Nat) (h1 : 2 ^ 23 ≤ r) (h2 : r ≤ 2 ^ 24) :
    encodedValue (k * 2 ^ 23 + r) = r * 2 ^ k := by
  unfold encodedValue
  rcases Nat.lt_or_ge r (2 ^ 24) with h | h
  · have hd : (k * 2 ^ 23 + r) / 2 ^ 23 = k + 1 := by omega
    have hm : (k * 2 ^ 23 + r) % 2 ^ 23 = r - 2 ^ 23 := by omega
    rw [hd, hm, if_neg (by omega), Nat.add_sub_cancel, Nat.add_sub_cancel' h1]
  · have hr : r = 2 ^ 24 := by omega
    subst hr
    have hd : (k * 2 ^ 23 + 2 ^ 24) / 2 ^ 23 = k + 2 := by omega
    have hm : (k * 2 ^ 23 + 2 ^ 24) % 2 ^ 23 = 0 := by omega
    rw [hd, hm, if_neg (by omega), show k + 2 - 1 = 1 + k by omega, Nat.pow_add]
    omega

/-- Below 2^24 an encoding is worth itself. -/
theorem encodedValue_small {m : Nat} (h : m ≤ 2 ^ 24) : encodedValue m = m := by
  rcases Nat.lt_or_ge m (2 ^ 23) with h' | h'
  · unfold encodedValue
    rw [if_pos (by omega)]
    omega
  · have := encodedValue_binade 0 m h' h
    simpa using this

/-- The binade and significand of an encoding that is no subnormal. -/
theorem exists_binade {m : Nat} (h : 2 ^ 23 ≤ m) : ∃ k r, m = k * 2 ^ 23 + r ∧ 2 ^ 23 ≤ r ∧ r < 2 ^ 24 :=
  ⟨m / 2 ^ 23 - 1, m % 2 ^ 23 + 2 ^ 23, by omega, by omega, by omega⟩

/-- The next encoding is worth more. -/
theorem encodedValue_lt_succ (m : Nat) : encodedValue m < encodedValue (m + 1) := by
  rcases Nat.lt_or_ge m (2 ^ 23) with h | h
  · rw [encodedValue_small (by omega), encodedValue_small (by omega)]
    omega
  · obtain ⟨k, r, rfl, h1, h2⟩ := exists_binade h
    rw [Nat.add_assoc, encodedValue_binade k r h1 (by omega), encodedValue_binade k (r + 1) (by omega) (by omega)]
    exact Nat.mul_lt_mul_of_pos_right (by omega) (Nat.two_pow_pos k)

/-- A larger encoding is worth more. -/
theorem encodedValue_strictMono : StrictMono encodedValue := strictMono_nat_of_lt_succ encodedValue_lt_succ

/-! ### The nearest integer -/

/-- The nearest integer is within half of the ratio. -/
theorem roundHalfEven_bounds (num : Nat) {den : Nat} (hd : 0 < den) :
    2 * num ≤ 2 * (roundHalfEven num den * den) + den ∧ 2 * (roundHalfEven num den * den) ≤ 2 * num + den := by
  have h := Nat.div_add_mod num den
  have hm := Nat.mod_lt num hd
  have hc : den * (num / den) = num / den * den := Nat.mul_comm _ _
  have hs : (num / den + 1) * den = num / den * den + den := by rw [Nat.add_mul, Nat.one_mul]
  unfold roundHalfEven
  dsimp only
  by_cases h1 : 2 * (num % den) < den
  · rw [if_pos h1]; omega
  · by_cases h2 : den < 2 * (num % den)
    · rw [if_neg h1, if_pos h2]; omega
    · rw [if_neg h1, if_neg h2]
      rcases Nat.mod_two_eq_zero_or_one (num / den) with h3 | h3 <;> rw [h3]
      · rw [Nat.add_zero]; omega
      · omega

/-- Half way between two integers the even one is taken. -/
theorem roundHalfEven_even {num den : Nat} (hd : 0 < den)
    (h : 2 * num = 2 * (roundHalfEven num den * den) + den ∨ 2 * (roundHalfEven num den * den) = 2 * num + den) :
    roundHalfEven num den % 2 = 0 := by
  have h0 := Nat.div_add_mod num den
  have hm := Nat.mod_lt num hd
  have hc : den * (num / den) = num / den * den := Nat.mul_comm _ _
  have hs : (num / den + 1) * den = num / den * den + den := by rw [Nat.add_mul, Nat.one_mul]
  unfold roundHalfEven at h ⊢
  dsimp only at h ⊢
  by_cases h1 : 2 * (num % den) < den
  · rw [if_pos h1] at h; omega
  · by_cases h2 : den < 2 * (num % den)
    · rw [if_neg h1, if_pos h2] at h; omega
    · rw [if_neg h1, if_neg h2]
      omega

/-- The nearest integer is not below an integer the ratio reaches. -/
theorem le_roundHalfEven {num den c : Nat} (hd : 0 < den) (h : c * den ≤ num) : c ≤ roundHalfEven num den := by
  have := (Nat.le_div_iff_mul_le hd).2 h
  unfold roundHalfEven
  dsimp only
  split
  · exact this
  · split <;> omega

/-- The nearest integer is not above an integer the ratio does not pass. -/
theorem roundHalfEven_le {num den c : Nat} (hd : 0 < den) (h : num ≤ c * den) : roundHalfEven num den ≤ c := by
  have hb := (roundHalfEven_bounds num hd).2
  by_contra hc
  have : (c + 1) * den ≤ roundHalfEven num den * den := Nat.mul_le_mul_right _ (by omega)
  rw [Nat.add_mul, Nat.one_mul] at this
  omega

/-! ### Rounding to the format -/

/-- The binade a ratio rounds in. -/
def roundBinade (num den : Nat) : Nat := Nat.log2 (num / den) - 23

theorem roundMagnitude_eq (num den : Nat) : roundMagnitude num den =
    roundBinade num den * 2 ^ 23 + roundHalfEven num (den * 2 ^ roundBinade num den) := rfl

/-- A binade above the first is the one the ratio lies in. -/
theorem roundBinade_bounds (num : Nat) {den : Nat} (hd : 0 < den) :
    (0 < roundBinade num den → 2 ^ (23 + roundBinade num den) * den ≤ num) ∧
    num < 2 ^ (24 + roundBinade num den) * den := by
  have hlt : num < (num / den + 1) * den := by
    rw [Nat.add_mul, Nat.one_mul, Nat.mul_comm]
    exact Nat.lt_mul_div_succ num hd |>.trans_eq (by rw [Nat.mul_add, Nat.mul_one])
  have hup : num / den < 2 ^ (Nat.log2 (num / den) + 1) := Nat.lt_log2_self
  constructor
  · intro hk
    have hne : num / den ≠ 0 := by
      intro h0
      rw [roundBinade, h0] at hk
      simp at hk
    have := Nat.log2_self_le hne
    have hlog : 23 + roundBinade num den = Nat.log2 (num / den) := by unfold roundBinade at hk ⊢; omega
    rw [hlog]
    exact (Nat.mul_le_mul_right _ this).trans (by rw [Nat.mul_comm]; exact Nat.mul_div_le num den)
  · refine hlt.trans_le (Nat.mul_le_mul_right _ ?_)
    have hle : Nat.log2 (num / den) + 1 ≤ 24 + roundBinade num den := by unfold roundBinade; omega
    exact (Nat.succ_le_of_lt hup).trans (Nat.pow_le_pow_right (by decide) hle)

/-- What a rounded ratio is worth: the nearest multiple of its binade's step. -/
theorem encodedValue_roundMagnitude (num : Nat) {den : Nat} (hd : 0 < den) :
    encodedValue (roundMagnitude num den) =
      roundHalfEven num (den * 2 ^ roundBinade num den) * 2 ^ roundBinade num den := by
  obtain ⟨h1, h2⟩ := roundBinade_bounds num hd
  have hD : 0 < den * 2 ^ roundBinade num den := Nat.mul_pos hd (Nat.two_pow_pos _)
  have hup : roundHalfEven num (den * 2 ^ roundBinade num den) ≤ 2 ^ 24 := by
    refine roundHalfEven_le hD (h2.le.trans ?_)
    rw [Nat.pow_add, Nat.mul_assoc, Nat.mul_comm (2 ^ roundBinade num den) den]
  rw [roundMagnitude_eq]
  rcases Nat.eq_zero_or_pos (roundBinade num den) with hk | hk
  · rw [hk] at hup ⊢
    simp only [Nat.zero_mul, Nat.zero_add, Nat.pow_zero, Nat.mul_one] at hup ⊢
    exact encodedValue_small hup
  · refine encodedValue_binade _ _ (le_roundHalfEven hD ?_) hup
    refine le_trans (le_of_eq ?_) (h1 hk)
    rw [Nat.pow_add, Nat.mul_assoc, Nat.mul_comm (2 ^ roundBinade num den) den]

/-- Rounding never passes above a value the format holds. -/
theorem roundMagnitude_le {num den m : Nat} (hd : 0 < den) (h : num ≤ encodedValue m * den) :
    roundMagnitude num den ≤ m := by
  have hD : 0 < den * 2 ^ roundBinade num den := Nat.mul_pos hd (Nat.two_pow_pos _)
  by_contra hc
  have hv : encodedValue m < encodedValue (roundMagnitude num den) := encodedValue_strictMono (by omega)
  rw [encodedValue_roundMagnitude num hd] at hv
  obtain ⟨h1, -⟩ := roundBinade_bounds num hd
  generalize hk : roundBinade num den = k at *
  have mult : (∃ c, encodedValue m = c * 2 ^ k) → False := by
    rintro ⟨c, hcm⟩
    rw [hcm] at hv h
    have hlt : c < roundHalfEven num (den * 2 ^ k) := Nat.lt_of_mul_lt_mul_right hv
    have := roundHalfEven_le hD (h.trans_eq (by rw [Nat.mul_assoc, Nat.mul_comm (2 ^ k) den]))
    omega
  rcases Nat.eq_zero_or_pos k with hk0 | hk0
  · exact mult ⟨encodedValue m, by rw [hk0, Nat.pow_zero, Nat.mul_one]⟩
  · have hlow := h1 hk0
    have hm : 2 ^ (23 + k) ≤ encodedValue m := Nat.le_of_mul_le_mul_right (hlow.trans h) hd
    have hm24 : 2 ^ 23 ≤ m := by
      by_contra hs
      rw [encodedValue_small (by omega)] at hm
      have : 2 ^ 23 ≤ 2 ^ (23 + k) := Nat.pow_le_pow_right (by decide) (by omega)
      omega
    obtain ⟨k', r, rfl, hr1, hr2⟩ := exists_binade hm24
    rw [encodedValue_binade k' r hr1 hr2.le] at hm mult
    have hkk : k ≤ k' := by
      by_contra hlt
      have h3 : r * 2 ^ k' < 2 ^ 24 * 2 ^ k' := Nat.mul_lt_mul_of_pos_right hr2 (Nat.two_pow_pos _)
      rw [← Nat.pow_add] at h3
      have h4 : 2 ^ (24 + k') ≤ 2 ^ (23 + k) := Nat.pow_le_pow_right (by decide) (by omega)
      omega
    refine mult ⟨r * 2 ^ (k' - k), ?_⟩
    rw [Nat.mul_assoc, ← Nat.pow_add, Nat.sub_add_cancel hkk]

/-- Rounding never passes below a value the format holds. -/
theorem le_roundMagnitude {num den m : Nat} (hd : 0 < den) (h : encodedValue m * den ≤ num) :
    m ≤ roundMagnitude num den := by
  have hD : 0 < den * 2 ^ roundBinade num den := Nat.mul_pos hd (Nat.two_pow_pos _)
  by_contra hc
  have hv : encodedValue (roundMagnitude num den) < encodedValue m := encodedValue_strictMono (by omega)
  rw [encodedValue_roundMagnitude num hd] at hv
  obtain ⟨h1, h2⟩ := roundBinade_bounds num hd
  generalize hk : roundBinade num den = k at *
  have mult : (∃ c, encodedValue m = c * 2 ^ k) → False := by
    rintro ⟨c, hcm⟩
    rw [hcm] at hv h
    have hlt : roundHalfEven num (den * 2 ^ k) < c := Nat.lt_of_mul_lt_mul_right hv
    have := le_roundHalfEven (c := c) hD (le_of_eq_of_le (by rw [Nat.mul_assoc, Nat.mul_comm (2 ^ k) den]) h)
    omega
  rcases Nat.eq_zero_or_pos k with hk0 | hk0
  · exact mult ⟨encodedValue m, by rw [hk0, Nat.pow_zero, Nat.mul_one]⟩
  · have hlow := h1 hk0
    have hr : 2 ^ 23 ≤ roundHalfEven num (den * 2 ^ k) := le_roundHalfEven hD (by
      refine le_trans (le_of_eq ?_) hlow
      rw [Nat.pow_add, Nat.mul_assoc, Nat.mul_comm (2 ^ k) den])
    have hbig : 2 ^ (23 + k) < encodedValue m := by
      refine lt_of_le_of_lt ?_ hv
      rw [Nat.pow_add]
      exact Nat.mul_le_mul_right _ hr
    have hm24 : 2 ^ 23 ≤ m := by
      by_contra hs
      rw [encodedValue_small (by omega)] at hbig
      have : 2 ^ 23 ≤ 2 ^ (23 + k) := Nat.pow_le_pow_right (by decide) (by omega)
      omega
    obtain ⟨k', r, rfl, hr1, hr2⟩ := exists_binade hm24
    rw [encodedValue_binade k' r hr1 hr2.le] at hbig mult
    have hkk : k ≤ k' := by
      by_contra hlt
      have h3 : r * 2 ^ k' < 2 ^ 24 * 2 ^ k' := Nat.mul_lt_mul_of_pos_right hr2 (Nat.two_pow_pos _)
      rw [← Nat.pow_add] at h3
      have h4 : 2 ^ (24 + k') ≤ 2 ^ (23 + k) := Nat.pow_le_pow_right (by decide) (by omega)
      omega
    refine mult ⟨r * 2 ^ (k' - k), ?_⟩
    rw [Nat.mul_assoc, ← Nat.pow_add, Nat.sub_add_cancel hkk]

/-! ### Signs and encodings -/

/-- The encoding `withSign neg m` as a number. -/
theorem toNat_withSign (neg : Bool) {m : Nat} (h : m < 2 ^ 31) :
    (withSign neg m).toNat = if neg then 2 ^ 31 + m else m := by
  unfold withSign
  rw [BitVec.toNat_ofNat]
  cases neg
  · simp only [Bool.false_eq_true, if_false]; omega
  · simp only [if_true]; omega

@[simp] theorem signBit_withSign (neg : Bool) {m : Nat} (h : m < 2 ^ 31) : signBit (withSign neg m) = neg := by
  unfold signBit
  rw [BitVec.msb_eq_decide, toNat_withSign neg h]
  cases neg
  · simp only [Bool.false_eq_true, if_false, decide_eq_false_iff_not]; omega
  · simp only [if_true, decide_eq_true_eq]; omega

theorem expField_withSign (neg : Bool) {m : Nat} (h : m < 2 ^ 31) : expField (withSign neg m) = m / 2 ^ 23 := by
  unfold expField
  rw [toNat_withSign neg h]
  cases neg
  · simp only [Bool.false_eq_true, if_false]; omega
  · simp only [if_true]; omega

theorem fracField_withSign (neg : Bool) {m : Nat} (h : m < 2 ^ 31) : fracField (withSign neg m) = m % 2 ^ 23 := by
  unfold fracField
  rw [toNat_withSign neg h]
  cases neg
  · simp only [Bool.false_eq_true, if_false]
  · simp only [if_true]; omega

/-- The magnitude of an encoding is what its low 31 bits are worth. -/
theorem magnitude_withSign (neg : Bool) {m : Nat} (h : m < 2 ^ 31) : magnitude (withSign neg m) = encodedValue m := by
  unfold magnitude encodedValue
  rw [expField_withSign neg h, fracField_withSign neg h]

theorem isFinite_withSign (neg : Bool) {m : Nat} (h : m < 2 ^ 31) :
    isFinite (withSign neg m) = true ↔ m < 255 * 2 ^ 23 := by
  unfold isFinite
  rw [expField_withSign neg h, bne_iff_ne]
  omega

/-- Every encoding is a sign and 31 bits. -/
theorem exists_withSign (x : F32) : ∃ m, m < 2 ^ 31 ∧ x = withSign (signBit x) m := by
  have hx := x.isLt
  refine ⟨x.toNat % 2 ^ 31, Nat.mod_lt _ (by decide), BitVec.eq_of_toNat_eq ?_⟩
  rw [toNat_withSign _ (Nat.mod_lt _ (by decide))]
  unfold signBit
  rw [BitVec.msb_eq_decide]
  by_cases h : 2 ^ (32 - 1) ≤ x.toNat
  · simp only [h, decide_true, if_true]; omega
  · simp only [h, decide_false, Bool.false_eq_true, if_false]; omega

/-- A rounded value is never a NaN. -/
@[simp] theorem isNaN_roundTo (neg : Bool) (num den : Nat) : isNaN (roundTo neg num den) = false := by
  unfold roundTo
  split
  · rename_i h
    exact isNaN_of_isFinite ((isFinite_withSign neg (by omega)).2 h)
  · unfold infOf isNaN
    rw [fracField_withSign neg (by decide)]
    simp

@[simp] theorem signBit_roundTo (neg : Bool) (num den : Nat) : signBit (roundTo neg num den) = neg := by
  unfold roundTo infOf
  split
  · exact signBit_withSign neg (by omega)
  · exact signBit_withSign neg (by decide)

/-- A rounded value is no larger than a value of the format that the exact one does not pass. -/
theorem magnitude_roundTo_le (neg : Bool) {num den m : Nat} (hd : 0 < den) (hm : m < 255 * 2 ^ 23)
    (h : num ≤ encodedValue m * den) : magnitude (roundTo neg num den) ≤ encodedValue m := by
  have hr := roundMagnitude_le hd h
  unfold roundTo
  rw [if_pos (by omega), magnitude_withSign neg (by omega)]
  exact encodedValue_strictMono.monotone hr

/-- A rounded value is no smaller than a value of the format that the exact one reaches. -/
theorem le_magnitude_roundTo (neg : Bool) {num den m : Nat} (hd : 0 < den) (hm : m ≤ 255 * 2 ^ 23)
    (h : encodedValue m * den ≤ num) : encodedValue m ≤ magnitude (roundTo neg num den) := by
  have hr := le_roundMagnitude hd h
  unfold roundTo infOf
  split
  · rw [magnitude_withSign neg (by omega)]
    exact encodedValue_strictMono.monotone hr
  · rw [magnitude_withSign neg (by decide)]
    exact encodedValue_strictMono.monotone hm

/-- An exact value the format holds is not changed by rounding. -/
theorem roundTo_exact (neg : Bool) {den m : Nat} (hd : 0 < den) (hm : m < 255 * 2 ^ 23) :
    roundTo neg (encodedValue m * den) den = withSign neg m := by
  have h1 := roundMagnitude_le (m := m) hd (le_refl (encodedValue m * den))
  have h2 := le_roundMagnitude (m := m) hd (le_refl (encodedValue m * den))
  have h : roundMagnitude (encodedValue m * den) den = m := by omega
  rw [roundTo, h, if_pos hm]

end Sys2Proof.Machine
end

