-- ==== Sys2Proof/Laws/Lines.lean ====
section
/-! SUPPORT. Delay lines (44_delay.md R340 to R343): where a line's words stand, what a read, a write and a fill do, and that
the invariant of Safety.lean puts every line of a usable channel in range. -/

namespace Sys2Proof.Machine
open Sys2Proof.Config

/-! ### Where a line's words stand -/

/-- A line whose words are aligned and in the address space, its cursor inside it. -/
structure LineOk (s : State) (l : LineRef) : Prop where
  /-- The line starts on a word. -/
  base : lineBase s l % 4 = 0
  /-- The line ends inside the address space. -/
  top : lineBase s l + 4 * lineCap s l ≤ 2 ^ 32
  /-- The cursor is inside the line. -/
  cursor : lineCursor s l < lineCap s l

/-- The line's words are ordinary memory. -/
def LinePlain (s : State) (l : LineRef) : Prop := ordinary s (lineBase s l) (4 * lineCap s l)

variable {s t : State} {l : LineRef}

/-- A recency index stays inside the line. -/
theorem lineIndex_lt (h : LineOk s l) (d : Nat) : lineIndex s l d < lineCap s l := by
  have hc : (0 : Int) < lineCap s l := by have := h.cursor; omega
  have h1 := Int.emod_nonneg ((lineCursor s l : Int) - d) hc.ne'
  have h2 := Int.emod_lt_of_pos ((lineCursor s l : Int) - d) hc
  unfold lineIndex
  omega

/-- A recency index not past the line's start counts back from the cursor. -/
theorem lineIndex_of_le (h : LineOk s l) {d : Nat} (hd : d ≤ lineCursor s l) : lineIndex s l d = lineCursor s l - d := by
  have := h.cursor
  unfold lineIndex
  rw [Int.emod_eq_of_lt] <;> omega

/-- A recency index past the line's start wraps to its end. -/
theorem lineIndex_of_gt (h : LineOk s l) {d : Nat} (hd : lineCursor s l < d) (hc : d ≤ lineCursor s l + lineCap s l) :
    lineIndex s l d = lineCursor s l + lineCap s l - d := by
  have := h.cursor
  unfold lineIndex
  rw [← Int.add_emod_right, Int.emod_eq_of_lt] <;> omega

/-- The recency index of one whole line is the cursor's own word. -/
theorem lineIndex_cap (h : LineOk s l) : lineIndex s l (lineCap s l) = lineCursor s l := by
  rw [lineIndex_of_gt h h.cursor (by omega)]
  omega

theorem lineAddr_mod (h : LineOk s l) (k : Nat) : lineAddr s l k % 4 = 0 := by
  have := h.base
  unfold lineAddr
  omega

theorem lineAddr_top (h : LineOk s l) {k : Nat} (hk : k < lineCap s l) : lineAddr s l k + 4 ≤ 2 ^ 32 := by
  have := h.top
  unfold lineAddr
  omega

theorem lineAddr_plain (h : LinePlain s l) {k : Nat} (hk : k < lineCap s l) :
    regionAt s.hw.regions (lineAddr s l k) 4 = none := by
  refine regionAt_none_sub _ h ?_ ?_ <;> unfold lineAddr <;> omega

/-! ### Cursors -/

theorem lineBase_setCursor (l' : LineRef) (w : Nat) : lineBase (setCursor s l' w) l = lineBase s l := by
  cases l <;> cases l' <;> rfl

theorem lineCap_setCursor (l' : LineRef) (w : Nat) : lineCap (setCursor s l' w) l = lineCap s l := by
  cases l <;> cases l' <;> rfl

/-- The channel of a line. -/
def LineRef.chan : LineRef → Nat
  | .delay ch => ch
  | .reverb ch _ => ch

/-- How many channels the unit of a line has. -/
def lineChans (s : State) : LineRef → Nat
  | .delay _ => s.chans.delay.length
  | .reverb _ _ => s.chans.reverb.length

/-- A cursor just written is the one read. -/
theorem lineCursor_setCursor_self {w : Nat} (hch : l.chan < lineChans s l) (hw : w < 2 ^ 32) :
    lineCursor (setCursor s l w) l = w := by
  cases l with
  | delay ch =>
    have hch : ch < s.chans.delay.length := hch
    simp [lineCursor, setCursor, State.setDelayChan, List.getD_eq_getElem?_getD, hch]
    omega
  | reverb ch j =>
    have hch : ch < s.chans.reverb.length := hch
    simp [lineCursor, setCursor, State.setReverbChan, List.getD_eq_getElem?_getD, hch]
    omega

/-- Another line's cursor is as before. -/
theorem lineCursor_setCursor_other {l' : LineRef} {w : Nat} (hne : l' ≠ l) :
    lineCursor (setCursor s l' w) l = lineCursor s l := by
  cases l with
  | delay ch =>
    cases l' with
    | delay ch' =>
      have hne' : ch' ≠ ch := fun h => hne (by rw [h])
      simp [lineCursor, setCursor, State.setDelayChan, List.getD_eq_getElem?_getD, List.getElem?_set_ne hne']
    | reverb ch' j' => rfl
  | reverb ch j =>
    cases l' with
    | delay ch' => rfl
    | reverb ch' j' =>
      by_cases hc : ch' = ch
      · subst hc
        have hj : j ≠ j' := fun h => hne (by rw [h])
        by_cases hlen : ch' < s.chans.reverb.length
        · simp [lineCursor, setCursor, State.setReverbChan, List.getD_eq_getElem?_getD, hlen,
            PerLine.get_set_other _ _ hj]
        · have hlen' : s.chans.reverb.length ≤ ch' := by omega
          simp [lineCursor, setCursor, State.setReverbChan, List.getD_eq_getElem?_getD, hlen']
      · simp [lineCursor, setCursor, State.setReverbChan, List.getD_eq_getElem?_getD, List.getElem?_set_ne hc]

/-! ### Reads and writes -/

/-- What a line reads as at a recency index and fraction (R342). -/
def dlValue (s : State) (l : LineRef) (d : Nat) (f : F32) : F32 :=
  let s0 := readWord s.mem (lineAddr s l (lineIndex s l d))
  if fEq f f0 then s0
  else fAdd s0 (fMul f (fSub (readWord s.mem (lineAddr s l (lineIndex s l (d + 1)))) s0))

/-- A read of a line of ordinary memory answers its value and changes nothing. -/
theorem dlRead_ok (h : LineOk s l) (hp : LinePlain s l) (d : Nat) (f : F32) :
    dlRead l d f s = .ok (dlValue s l d f) s := by
  have read : ∀ d, memRead (lineAddr s l (lineIndex s l d)) s = .ok (readWord s.mem (lineAddr s l (lineIndex s l d))) s :=
    fun d => memRead_ok _ s (lineAddr_mod h _) (lineAddr_top h (lineIndex_lt h d)) (lineAddr_plain hp (lineIndex_lt h d))
  unfold dlRead
  rw [engine_bind_get, engine_bind_ok (read d)]
  unfold dlValue
  by_cases hf : fEq f f0 = true
  · simp [hf]
  · simp only [hf, if_false, Bool.false_eq_true]
    rw [engine_bind_ok (read (d + 1))]
    rfl

/-- A read, whatever it answers, changes nothing. -/
theorem dlRead_keeps (l : LineRef) (d : Nat) (f : F32) : Engine.Keeps Same (dlRead l d f) := by
  have hr : ∀ a, Engine.Keeps Same (memRead a) := keeps_memRead same_refl
  refine keeps_bind same_trans (keeps_get same_refl) fun s => ?_
  refine keeps_bind same_trans (hr _) fun s0 => ?_
  by_cases hf : fEq f f0 = true
  · simp only [hf, if_true]
    exact keeps_pure same_refl s0
  · simp only [hf]
    exact keeps_bind same_trans (hr _) fun s1 => keeps_pure same_refl (fAdd s0 (fMul f (fSub s1 s0)))

/-- The state after a write to a line (R341). -/
def afterWrite (s : State) (l : LineRef) (x : F32) : State :=
  setCursor { s with mem := writeWord s.mem (lineAddr s l (lineCursor s l)) x } l ((lineCursor s l + 1) % lineCap s l)

/-- A write to a line of ordinary memory stores at the cursor and advances it. -/
theorem dlWrite_ok (h : LineOk s l) (hp : LinePlain s l) (x : F32) : dlWrite l x s = .ok () (afterWrite s l x) := by
  unfold dlWrite
  rw [engine_bind_get, engine_bind_ok (memWrite_ok _ x s (lineAddr_mod h _) (lineAddr_top h h.cursor)
    (lineAddr_plain hp h.cursor)), engine_modify]
  cases l <;> rfl

/-- If a write ends, it stored at the cursor and advanced it. -/
theorem dlWrite_eq_ok {x : F32} {r : Unit} (h : dlWrite l x s = .ok r t) :
    t = afterWrite s l x ∧ lineAddr s l (lineCursor s l) % 4 = 0 ∧ lineAddr s l (lineCursor s l) + 4 ≤ 2 ^ 32 := by
  unfold dlWrite at h
  rw [engine_bind_get] at h
  obtain ⟨_, s', h1, h2⟩ := engine_bind_eq_ok h
  obtain ⟨rfl, ha, hb, -⟩ := memWrite_eq_ok h1
  cases h2
  exact ⟨by cases l <;> rfl, ha, hb⟩

/-- A write that stops changed nothing. -/
theorem dlWrite_eq_error {x : F32} {y : Stop} (h : dlWrite l x s = .error y t) : t = s := by
  unfold dlWrite at h
  rw [engine_bind_get] at h
  rcases engine_bind_eq_error h with h1 | ⟨_, s', _, h2⟩
  · exact memWrite_eq_error h1
  · cases h2

/-! ### Fills -/

/-- Memory with `n` words from an address on set to a value. -/
def fillMem (m : List Host.Cell) (a : Nat) (v : F32) : Nat → List Host.Cell
  | 0 => m
  | n + 1 => fillMem (writeWord m a v) (a + 4) v n

/-- A fill of ordinary memory. -/
theorem fillWords_ok (a : Nat) (v : F32) (n : Nat) (s : State) (h4 : a % 4 = 0) (hr : a + 4 * n ≤ 2 ^ 32)
    (ho : ordinary s a (4 * n)) : fillWords a v n s = .ok () { s with mem := fillMem s.mem a v n } := by
  induction n generalizing a s with
  | zero => rfl
  | succ n ih =>
    unfold fillWords
    rw [engine_bind_ok (memWrite_ok a v s h4 (by omega) (regionAt_none_sub _ ho (le_refl a) (by omega)))]
    exact ih (a + 4) _ (by omega) (by omega) (regionAt_none_sub _ ho (by omega) (by omega))

theorem wf_fillMem (v : F32) (n : Nat) (m : List Host.Cell) (a : Nat) (hr : a + 4 * n ≤ 2 ^ 32)
    (h : Memory.wf m = true) : Memory.wf (fillMem m a v n) = true := by
  induction n generalizing m a with
  | zero => exact h
  | succ n ih => exact ih _ _ (by omega) (wf_writeWord m a v (by omega) h)

/-- A byte outside the words filled reads as before. -/
theorem readByte_fillMem_other (v : F32) (n : Nat) (m : List Host.Cell) (a x : Nat) (hx : x < a ∨ a + 4 * n ≤ x) :
    readByte (fillMem m a v n) x = readByte m x := by
  induction n generalizing m a with
  | zero => rfl
  | succ n ih =>
    show readByte (fillMem (writeWord m a v) (a + 4) v n) x = _
    rw [ih _ _ (by omega), readByte_writeWord_other _ _ _ _ (by omega)]

/-- A word outside the words filled reads as before. -/
theorem readWord_fillMem_other (v : F32) (n : Nat) (m : List Host.Cell) (a b : Nat) (hb : b + 4 ≤ a ∨ a + 4 * n ≤ b) :
    readWord (fillMem m a v n) b = readWord m b := by
  unfold readWord
  rw [readByte_fillMem_other, readByte_fillMem_other, readByte_fillMem_other, readByte_fillMem_other] <;> omega

/-- A word filled reads as the value. -/
theorem readWord_fillMem (v : F32) (n : Nat) (m : List Host.Cell) (a k : Nat) (hr : a + 4 * n ≤ 2 ^ 32)
    (h : Memory.wf m = true) (hk : k < n) : readWord (fillMem m a v n) (a + 4 * k) = v := by
  induction n generalizing m a k with
  | zero => omega
  | succ n ih =>
    show readWord (fillMem (writeWord m a v) (a + 4) v n) (a + 4 * k) = v
    cases k with
    | zero =>
      rw [readWord_fillMem_other _ _ _ _ _ (by omega), Nat.mul_zero, Nat.add_zero]
      exact readWord_writeWord_self m a v h (by omega)
    | succ k =>
      rw [show a + 4 * (k + 1) = a + 4 + 4 * k by omega]
      exact ih _ _ k (by omega) (wf_writeWord m a v (by omega) h) (by omega)

/-- A fill of a line of ordinary memory sets its words and its cursor. -/
theorem dlFill_ok (h : LineOk s l) (hp : LinePlain s l) (v : F32) :
    dlFill l v s = .ok () (setCursor { s with mem := fillMem s.mem (lineBase s l) v (lineCap s l) } l 0) := by
  unfold dlFill
  rw [engine_bind_get, engine_bind_ok (fillWords_ok _ v _ s h.base h.top hp)]
  rfl

/-! ### The lines of a usable channel -/

/-- DELAY's line is its whole arena. -/
theorem lineOk_delay (h : Inv s) {ch : Nat} (hb : (s.binding .delay ch).bound = true)
    (hw : lineCursor s (.delay ch) < lineCap s (.delay ch)) : LineOk s (.delay ch) := by
  obtain ⟨-, -, -, -, -, hl, hf⟩ := h
  have hc := (hf .delay ch).2 hb
  have ha := hc.2.1
  rw [aligned4, beq_iff_eq, ← BitVec.toNat_inj] at ha
  simp only [BitVec.extractLsb'_toNat] at ha
  have hlay : delayLayout s.coefs.delay := hl .delay hc.1
  have htop : (s.binding .delay ch).base.toNat + s.coefs.delay.memReq.toNat ≤ 2 ^ 32 := hc.2.2
  refine ⟨?_, ?_, hw⟩
  · show (s.binding .delay ch).base.toNat % 4 = 0
    simpa using ha
  · show (s.binding .delay ch).base.toNat + 4 * s.coefs.delay.len.toNat ≤ 2 ^ 32
    rw [← hlay.2.2]
    exact htop

/-- The capacities of the lines before each line, one line after the other. -/
theorem capSum_chain (c : ReverbCoefs) :
    capSum c (linesBefore .pd) = 0 ∧
    capSum c (linesBefore .id1) = capSum c (linesBefore .pd) + (c.cap.get .pd).toNat ∧
    capSum c (linesBefore .id2) = capSum c (linesBefore .id1) + (c.cap.get .id1).toNat ∧
    capSum c (linesBefore .id3) = capSum c (linesBefore .id2) + (c.cap.get .id2).toNat ∧
    capSum c (linesBefore .id4) = capSum c (linesBefore .id3) + (c.cap.get .id3).toNat ∧
    capSum c (linesBefore .dd1) = capSum c (linesBefore .id4) + (c.cap.get .id4).toNat ∧
    capSum c (linesBefore .dlL1) = capSum c (linesBefore .dd1) + (c.cap.get .dd1).toNat ∧
    capSum c (linesBefore .dd2) = capSum c (linesBefore .dlL1) + (c.cap.get .dlL1).toNat ∧
    capSum c (linesBefore .dlL2) = capSum c (linesBefore .dd2) + (c.cap.get .dd2).toNat ∧
    capSum c (linesBefore .dd3) = capSum c (linesBefore .dlL2) + (c.cap.get .dlL2).toNat ∧
    capSum c (linesBefore .dlR1) = capSum c (linesBefore .dd3) + (c.cap.get .dd3).toNat ∧
    capSum c (linesBefore .dd4) = capSum c (linesBefore .dlR1) + (c.cap.get .dlR1).toNat ∧
    capSum c (linesBefore .dlR2) = capSum c (linesBefore .dd4) + (c.cap.get .dd4).toNat ∧
    capSum c revLines = capSum c (linesBefore .dlR2) + (c.cap.get .dlR2).toNat := by
  have h0 : linesBefore .pd = [] := rfl
  have h1 : linesBefore .id1 = [.pd] := rfl
  have h2 : linesBefore .id2 = [.pd, .id1] := rfl
  have h3 : linesBefore .id3 = [.pd, .id1, .id2] := rfl
  have h4 : linesBefore .id4 = [.pd, .id1, .id2, .id3] := rfl
  have h5 : linesBefore .dd1 = [.pd, .id1, .id2, .id3, .id4] := rfl
  have h6 : linesBefore .dlL1 = [.pd, .id1, .id2, .id3, .id4, .dd1] := rfl
  have h7 : linesBefore .dd2 = [.pd, .id1, .id2, .id3, .id4, .dd1, .dlL1] := rfl
  have h8 : linesBefore .dlL2 = [.pd, .id1, .id2, .id3, .id4, .dd1, .dlL1, .dd2] := rfl
  have h9 : linesBefore .dd3 = [.pd, .id1, .id2, .id3, .id4, .dd1, .dlL1, .dd2, .dlL2] := rfl
  have h10 : linesBefore .dlR1 = [.pd, .id1, .id2, .id3, .id4, .dd1, .dlL1, .dd2, .dlL2, .dd3] := rfl
  have h11 : linesBefore .dd4 = [.pd, .id1, .id2, .id3, .id4, .dd1, .dlL1, .dd2, .dlL2, .dd3, .dlR1] := rfl
  have h12 : linesBefore .dlR2 = [.pd, .id1, .id2, .id3, .id4, .dd1, .dlL1, .dd2, .dlL2, .dd3, .dlR1, .dd4] := rfl
  simp only [h0, h1, h2, h3, h4, h5, h6, h7, h8, h9, h10, h11, h12, capSum, revLines, List.map_cons, List.map_nil,
    List.sum_cons, List.sum_nil, Nat.add_zero, Nat.zero_add, Nat.add_assoc, and_self]

/-- The capacities of the lines before a line, and its own, make at most the whole arena. -/
theorem capSum_before (c : ReverbCoefs) (j : RevLine) :
    capSum c (linesBefore j) + (c.cap.get j).toNat ≤ capSum c revLines := by
  have := capSum_chain c
  cases j <;> omega

/-- Of two lines, one comes before the other. -/
theorem linesBefore_total : ∀ j ∈ revLines, ∀ k ∈ revLines, j ≠ k →
    linesBefore j ++ [j] <+: linesBefore k ∨ linesBefore k ++ [k] <+: linesBefore j := by decide

/-- Of two lines, one stands wholly before the other. -/
theorem capSum_apart (c : ReverbCoefs) {j k : RevLine} (hne : j ≠ k) :
    capSum c (linesBefore j) + (c.cap.get j).toNat ≤ capSum c (linesBefore k) ∨
    capSum c (linesBefore k) + (c.cap.get k).toNat ≤ capSum c (linesBefore j) := by
  have key : ∀ {j k : RevLine}, linesBefore j ++ [j] <+: linesBefore k →
      capSum c (linesBefore j) + (c.cap.get j).toNat ≤ capSum c (linesBefore k) := by
    rintro j k ⟨r, hr⟩
    rw [← hr]
    simp [capSum]
  have mem : ∀ j : RevLine, j ∈ revLines := fun j => by cases j <;> decide
  exact (linesBefore_total j (mem j) k (mem k) hne).imp key key

/-- REVERB's lines stand one after the other in its arena. -/
theorem lineOk_reverb (h : Inv s) {ch : Nat} (hb : (s.binding .reverb ch).bound = true) (j : RevLine)
    (hw : lineCursor s (.reverb ch j) < lineCap s (.reverb ch j)) : LineOk s (.reverb ch j) := by
  obtain ⟨-, -, -, -, -, hl, hf⟩ := h
  have hc := (hf .reverb ch).2 hb
  have ha := hc.2.1
  rw [aligned4, beq_iff_eq, ← BitVec.toNat_inj] at ha
  simp only [BitVec.extractLsb'_toNat] at ha
  have ha' : (s.binding .reverb ch).base.toNat % 4 = 0 := by simpa using ha
  have hlay : reverbLayout s.coefs.reverb := hl .reverb hc.1
  have htop : (s.binding .reverb ch).base.toNat + s.coefs.reverb.memReq.toNat ≤ 2 ^ 32 := hc.2.2
  have hsum := capSum_before s.coefs.reverb j
  refine ⟨?_, ?_, hw⟩
  · show ((s.binding .reverb ch).base.toNat + (s.coefs.reverb.off.get j).toNat) % 4 = 0
    rw [hlay.2.1]
    omega
  · show (s.binding .reverb ch).base.toNat + (s.coefs.reverb.off.get j).toNat + 4 * (s.coefs.reverb.cap.get j).toNat
      ≤ 2 ^ 32
    rw [hlay.2.1]
    rw [hlay.2.2] at htop
    omega

/-- Ordinary memory throughout the arena is ordinary memory throughout DELAY's line. -/
theorem linePlain_delay (h : Inv s) {ch : Nat} (hb : (s.binding .delay ch).bound = true)
    (ho : ordinary s (arenaBase s .delay ch) (arenaSize s .delay)) : LinePlain s (.delay ch) := by
  obtain ⟨-, -, -, -, -, hl, hf⟩ := h
  have hlay : delayLayout s.coefs.delay := hl .delay ((hf .delay ch).2 hb).1
  show regionAt s.hw.regions (s.binding .delay ch).base.toNat (4 * s.coefs.delay.len.toNat) = none
  rw [← hlay.2.2]
  exact ho

/-- Ordinary memory throughout the arena is ordinary memory throughout each of REVERB's lines. -/
theorem linePlain_reverb (h : Inv s) {ch : Nat} (hb : (s.binding .reverb ch).bound = true) (j : RevLine)
    (ho : ordinary s (arenaBase s .reverb ch) (arenaSize s .reverb)) : LinePlain s (.reverb ch j) := by
  obtain ⟨-, -, -, -, -, hl, hf⟩ := h
  have hlay : reverbLayout s.coefs.reverb := hl .reverb ((hf .reverb ch).2 hb).1
  have hsum := capSum_before s.coefs.reverb j
  have hbase : lineBase s (.reverb ch j) = arenaBase s .reverb ch + 4 * capSum s.coefs.reverb (linesBefore j) := by
    show _ + (s.coefs.reverb.off.get j).toNat = _
    rw [hlay.2.1]
    rfl
  have hsize : arenaSize s .reverb = 4 * capSum s.coefs.reverb revLines := hlay.2.2
  have hcap : lineCap s (.reverb ch j) = (s.coefs.reverb.cap.get j).toNat := rfl
  refine regionAt_none_sub _ ho ?_ ?_ <;> rw [hbase] <;> omega

/-- Two lines of a REVERB channel do not meet. -/
theorem reverb_lines_apart (h : reverbLayout s.coefs.reverb) (ch : Nat) {j k : RevLine} (hne : j ≠ k) :
    lineBase s (.reverb ch j) + 4 * lineCap s (.reverb ch j) ≤ lineBase s (.reverb ch k) ∨
    lineBase s (.reverb ch k) + 4 * lineCap s (.reverb ch k) ≤ lineBase s (.reverb ch j) := by
  show _ + (s.coefs.reverb.off.get j).toNat + 4 * (s.coefs.reverb.cap.get j).toNat ≤
      _ + (s.coefs.reverb.off.get k).toNat ∨
    _ + (s.coefs.reverb.off.get k).toNat + 4 * (s.coefs.reverb.cap.get k).toNat ≤
      _ + (s.coefs.reverb.off.get j).toNat
  rw [h.2.1, h.2.1]
  have := capSum_apart s.coefs.reverb hne
  omega

end Sys2Proof.Machine
end

