-- ==== Sys2Proof/Laws/Keeps.lean ====
section
/-! SUPPORT. Relations between the state before and after that whole commands keep: it is enough to show one of each store,
each register write and each control-rate step a command makes, and every command that makes no other keeps it. -/

namespace Sys2Proof.Machine
open Sys2Proof.Config

/-- A relation that every write a channel's hooks make keeps. -/
structure ChannelRel (R : State → State → Prop) : Prop where
  /-- Nothing done. -/
  refl : ∀ s, R s s
  /-- One thing after another. -/
  trans : ∀ s t u, R s t → R t u → R s u
  /-- A ONEPOLE channel written. -/
  onePole : ∀ s ch st, R s (s.setOnePoleChan ch st)
  /-- A first-order channel written. -/
  mm1 : ∀ s u ch st, R s (s.setMm1Chan u ch st)
  /-- A second-order channel written. -/
  mm2 : ∀ s u ch st, R s (s.setMm2Chan u ch st)
  /-- A REVERB channel's filter states written, its cursors left. -/
  reverb : ∀ (s : State) ch (f : ReverbState → ReverbState), (∀ st, (f st).w = st.w) →
    R s (s.setReverbChan ch (f (s.chans.reverb.getD ch {})))
  /-- A line written at its cursor. -/
  line : ∀ s l x, lineAddr s l (lineCursor s l) % 4 = 0 → lineAddr s l (lineCursor s l) + 4 ≤ 2 ^ 32 →
    R s (afterWrite s l x)

variable {R : State → State → Prop}

/-! ### Parts that change nothing -/

theorem keeps_requireFinite (hr : ∀ s, R s s) (xs : List F32) : Engine.Keeps R (requireFinite xs) := by
  intro s
  rcases requireFinite_cases s xs with ⟨h, -⟩ | ⟨v, -, -, h⟩ <;> rw [h] <;> exact hr s

theorem keeps_requireBuffers (hr : ∀ s, R s s) (n : Nat) (bs : List Word) : Engine.Keeps R (requireBuffers n bs) := by
  intro s
  rcases requireBuffers_state n bs s with h | ⟨x, h⟩ <;> rw [h] <;> exact hr s

theorem keeps_check (hr : ∀ s, R s s) {e : Engine Unit}
    (h : ∀ s, e s = .ok () s ∨ ∃ x, e s = .error x s) : Engine.Keeps R e := by
  intro s
  rcases h s with h | ⟨x, h⟩ <;> rw [h] <;> exact hr s

theorem keeps_requireChannel (hr : ∀ s, R s s) (ch : BitVec 6) : Engine.Keeps R (requireChannel ch) :=
  keeps_check hr fun s => by
    rw [requireChannel_run]
    by_cases h : ch.toNat < s.hw.nCh
    · exact .inl (if_pos h)
    · exact .inr ⟨_, if_neg h⟩

theorem keeps_requireLife (hr : ∀ s, R s s) (u : UnitId) (ok : Life → Bool) : Engine.Keeps R (requireLife u ok) :=
  keeps_check hr fun s => by
    rw [requireLife_run]
    by_cases h : ok (s.regs.get u).life = true
    · exact .inl (if_pos h)
    · exact .inr ⟨_, if_neg h⟩

theorem keeps_requireBound (hr : ∀ s, R s s) (u : UnitId) (ch : Nat) : Engine.Keeps R (requireBound u ch) :=
  keeps_check hr fun s => by
    rw [requireBound_run]
    by_cases h : hasMemory u = true → (s.binding u ch).bound = true
    · exact .inl (if_pos h)
    · exact .inr ⟨_, if_neg h⟩

theorem keeps_requireValid (hr : ∀ s, R s s) (u : UnitId) (ch : Nat) : Engine.Keeps R (requireValid u ch) :=
  keeps_check hr fun s => by
    rw [requireValid_run]
    by_cases h : s.stValid u ch = true
    · exact .inl (if_pos h)
    · exact .inr ⟨_, if_neg h⟩

theorem keeps_admitChannel (hr : ∀ s, R s s) (u : UnitId) (ch : BitVec 6) : Engine.Keeps R (admitChannel u ch) :=
  keeps_check hr fun s => by
    rcases admitChannel_cases u ch s with ⟨h, -⟩ | ⟨c, a, h⟩
    · exact .inl h
    · exact .inr ⟨_, h⟩

/-- A computation that leaves the state alone keeps every such relation. -/
theorem keeps_of_same {α : Type} (hr : ∀ s, R s s) {e : Engine α} (h : Engine.Keeps Same e) :
    Engine.Keeps R e := by
  intro s
  have h' := h s
  cases he : e s with
  | ok a t => rw [he] at h'; rw [show t = s from h']; exact hr s
  | error x t => rw [he] at h'; rw [show t = s from h']; exact hr s

theorem loadSamples_same (i : Nat) (bs : List Word) : Engine.Keeps Same (loadSamples i bs) := by
  induction bs with
  | nil => exact keeps_pure same_refl []
  | cons b bs ih =>
    refine keeps_bind same_trans (keeps_memRead same_refl _) fun v => ?_
    exact keeps_bind same_trans ih fun vs => keeps_pure same_refl (v :: vs)

theorem readPointers_same (a k : Nat) : Engine.Keeps Same (readPointers a k) := by
  induction k generalizing a with
  | zero => exact keeps_pure same_refl []
  | succ k ih =>
    refine keeps_bind same_trans (keeps_memRead same_refl _) fun p => ?_
    exact keeps_bind same_trans (ih _) fun ps => keeps_pure same_refl (p :: ps)

theorem readTables_same (m : Nat) (ts : List Word) : Engine.Keeps Same (readTables m ts) := by
  induction ts with
  | nil => exact keeps_pure same_refl []
  | cons t ts ih =>
    refine keeps_bind same_trans (readPointers_same _ _) fun p => ?_
    exact keeps_bind same_trans ih fun ps => keeps_pure same_refl (p :: ps)

theorem loadChannels_same (pin : List (List Word)) (i c k : Nat) :
    Engine.Keeps Same (loadChannels pin i c k) := by
  induction k generalizing c with
  | zero => exact keeps_pure same_refl []
  | succ k ih =>
    refine keeps_bind same_trans (loadSamples_same _ _) fun xs => ?_
    exact keeps_bind same_trans (ih _) fun xss => keeps_pure same_refl (xs :: xss)

theorem requireChannels_same (u : UnitId) (c k : Nat) : Engine.Keeps Same (requireChannels u c k) := by
  induction k generalizing c with
  | zero => exact keeps_pure same_refl ()
  | succ k ih =>
    refine keeps_bind same_trans (keeps_requireBound same_refl _ _) fun _ => ?_
    exact keeps_bind same_trans (keeps_requireValid same_refl _ _) fun _ => ih _

/-! ### Hooks -/

theorem keeps_dlRead (hr : ∀ s, R s s) (l : LineRef) (d : Nat) (f : F32) : Engine.Keeps R (dlRead l d f) :=
  keeps_of_same hr (dlRead_keeps l d f)

theorem keeps_dlWrite (h : ChannelRel R) (l : LineRef) (x : F32) : Engine.Keeps R (dlWrite l x) := by
  intro s
  cases he : dlWrite l x s with
  | ok r t =>
    obtain ⟨rfl, h1, h2⟩ := dlWrite_eq_ok he
    exact h.line s l x h1 h2
  | error y t => rw [dlWrite_eq_error he]; exact h.refl s

theorem keeps_modifyReverbChan (h : ChannelRel R) (ch : Nat) {f : ReverbState → ReverbState}
    (hf : ∀ st, (f st).w = st.w) : Engine.Keeps R (modifyReverbChan ch f) := fun s => h.reverb s ch f hf

theorem keeps_allpassAt (h : ChannelRel R) (l : LineRef) (d : Nat) (f u g : F32) :
    Engine.Keeps R (allpassAt l d f u g) :=
  keeps_bind h.trans (keeps_dlRead h.refl _ _ _) fun z =>
    keeps_bind h.trans (keeps_dlWrite h _ _) fun _ => keeps_pure h.refl (fAdd z (fMul g (fSub u (fMul g z))))

theorem keeps_ap (h : ChannelRel R) (ch : Nat) (j : RevLine) (u g : F32) : Engine.Keeps R (ap ch j u g) :=
  keeps_bind h.trans (keeps_get h.refl) fun _ => keeps_allpassAt h _ _ _ _ _

theorem keeps_apm (h : ChannelRel R) (ch : Nat) (j : RevLine) (u g : F32) (di : Word) (df : F32) :
    Engine.Keeps R (apm ch j u g di df) := keeps_allpassAt h _ _ _ _ _

theorem keeps_dly (h : ChannelRel R) (ch : Nat) (j : RevLine) (u : F32) : Engine.Keeps R (dly ch j u) :=
  keeps_bind h.trans (keeps_get h.refl) fun _ => keeps_bind h.trans (keeps_dlRead h.refl _ _ _) fun z =>
    keeps_bind h.trans (keeps_dlWrite h _ _) fun _ => keeps_pure h.refl z

theorem readTaps_same (ch : Nat) (tap : PerTap RevTap) (k : PerTap Word) (ts : List TapIx) :
    Engine.Keeps Same (readTaps ch tap k ts) := by
  induction ts with
  | nil => exact keeps_pure same_refl []
  | cons t ts ih =>
    refine keeps_bind same_trans (dlRead_keeps _ _ _) fun v => ?_
    exact keeps_bind same_trans ih fun vs => keeps_pure same_refl (((tap.get t).plus, v) :: vs)

theorem taps_same (ch : Nat) : Engine.Keeps Same (taps ch) :=
  keeps_bind same_trans (keeps_get same_refl) fun _ => keeps_bind same_trans (readTaps_same _ _ _ _) fun tl =>
    keeps_bind same_trans (readTaps_same _ _ _ _) fun tr =>
      keeps_pure same_refl (fMul f06 (tapSum tl), fMul f06 (tapSum tr))

theorem keeps_tankHalf (h : ChannelRel R) (ch : Nat) (j1 j2 j3 j4 : RevLine) (u : F32) (di : Word) (df : F32)
    (yp : ReverbState → F32) {put : F32 → ReverbState → ReverbState} (hp : ∀ v st, (put v st).w = st.w) :
    Engine.Keeps R (tankHalf ch j1 j2 j3 j4 u di df yp put) :=
  keeps_bind h.trans (keeps_get h.refl) fun _ => keeps_bind h.trans (keeps_apm h _ _ _ _ _ _) fun _ =>
    keeps_bind h.trans (keeps_dly h _ _ _) fun _ => keeps_bind h.trans (keeps_get h.refl) fun _ =>
      keeps_bind h.trans (keeps_modifyReverbChan h _ (hp _)) fun _ =>
        keeps_bind h.trans (keeps_ap h _ _ _ _) fun _ => keeps_dlWrite h _ _

theorem keeps_reverbStep (h : ChannelRel R) (ch : Nat) (xl xr : F32) : Engine.Keeps R (reverbStep ch xl xr) := by
  refine keeps_bind h.trans (keeps_of_same h.refl (taps_same ch)) fun y => ?_
  refine keeps_bind h.trans (keeps_get h.refl) fun s => ?_
  refine keeps_bind h.trans (keeps_dlRead h.refl _ _ _) fun l4 => ?_
  refine keeps_bind h.trans (keeps_dlRead h.refl _ _ _) fun r4 => ?_
  refine keeps_bind h.trans (keeps_dlWrite h _ _) fun _ => ?_
  refine keeps_bind h.trans (keeps_dlRead h.refl _ _ _) fun p => ?_
  refine keeps_bind h.trans (keeps_get h.refl) fun s' => ?_
  refine keeps_bind h.trans (keeps_modifyReverbChan h _ fun _ => rfl) fun _ => ?_
  refine keeps_bind h.trans (keeps_ap h _ _ _ _) fun _ => ?_
  refine keeps_bind h.trans (keeps_ap h _ _ _ _) fun _ => ?_
  refine keeps_bind h.trans (keeps_ap h _ _ _ _) fun _ => ?_
  refine keeps_bind h.trans (keeps_ap h _ _ _ _) fun _ => ?_
  refine keeps_bind h.trans (keeps_tankHalf h _ _ _ _ _ _ _ _ _ fun _ _ => rfl) fun _ => ?_
  refine keeps_bind h.trans (keeps_tankHalf h _ _ _ _ _ _ _ _ _ fun _ _ => rfl) fun _ => ?_
  exact keeps_pure h.refl [y.1, y.2]

theorem keeps_delayStep (h : ChannelRel R) (ch : Nat) (x : F32) : Engine.Keeps R (delayStep ch x) :=
  keeps_bind h.trans (keeps_dlWrite h _ _) fun _ => keeps_bind h.trans (keeps_get h.refl) fun _ =>
    keeps_bind h.trans (keeps_dlRead h.refl _ _ _) fun y => keeps_pure h.refl [y]

theorem keeps_answerMm1 (h : ChannelRel R) (u : UnitId) (ch : Nat) (r : F32 × Mm1State) :
    Engine.Keeps R (answerMm1 u ch r) :=
  keeps_bind h.trans (keeps_modify fun s => h.mm1 s u ch r.2) fun _ => keeps_pure h.refl [r.1]

theorem keeps_answerMm2 (h : ChannelRel R) (u : UnitId) (ch : Nat) (r : F32 × Mm2State) :
    Engine.Keeps R (answerMm2 u ch r) :=
  keeps_bind h.trans (keeps_modify fun s => h.mm2 s u ch r.2) fun _ => keeps_pure h.refl [r.1]

/-- One sample of any unit. -/
theorem keeps_process1Hook (h : ChannelRel R) (u : UnitId) (ch : Nat) (xs : List F32) :
    Engine.Keeps R (process1Hook u ch xs) := by
  refine keeps_bind h.trans (keeps_get h.refl) fun s => ?_
  cases u with
  | onepole =>
    exact keeps_bind h.trans (keeps_modify fun s' => h.onePole s' ch _) fun _ => keeps_pure h.refl [_]
  | mm1 => exact keeps_answerMm1 h _ _ _
  | mm2 => exact keeps_answerMm2 h _ _ _
  | hp1 => exact keeps_answerMm1 h _ _ _
  | ls1 => exact keeps_answerMm1 h _ _ _
  | ls2 => exact keeps_answerMm2 h _ _ _
  | ap2 => exact keeps_answerMm2 h _ _ _
  | peak => exact keeps_answerMm2 h _ _ _
  | delay => exact keeps_delayStep h _ _
  | reverb => exact keeps_reverbStep h _ _ _

/-! ### Batched commands -/

/-- The stores of one sample, each of which the relation allows. -/
theorem keeps_storeSamples (hr : ∀ s, R s s) (ht : ∀ s t u, R s t → R t u → R s u) {i : Nat} {bs : List Word}
    (hs : ∀ b ∈ bs, ∀ (s : State) y, (b.toNat + 4 * i) % 4 = 0 → b.toNat + 4 * i + 4 ≤ 2 ^ 32 →
      R s { s with mem := writeWord s.mem (b.toNat + 4 * i) y }) (ys : List F32) :
    Engine.Keeps R (storeSamples i bs ys) := by
  induction bs generalizing ys with
  | nil => exact keeps_pure hr ()
  | cons b bs ih =>
    cases ys with
    | nil => exact keeps_pure hr ()
    | cons y ys =>
      refine keeps_bind ht (keeps_memWrite hr fun s h1 h2 _ => hs b (by simp) s y h1 h2) fun _ => ?_
      exact ih (fun c hc => hs c (by simp [hc])) ys

/-- A loop over samples, each of which the relation allows. -/
theorem keeps_forSamples (hr : ∀ s, R s s) (ht : ∀ s t u, R s t → R t u → R s u) {body : Nat → Engine Unit} {i k : Nat}
    (hb : ∀ j, i ≤ j → j < i + k → Engine.Keeps R (body j)) : Engine.Keeps R (forSamples body i k) := by
  induction k generalizing i with
  | zero => exact keeps_pure hr ()
  | succ k ih =>
    refine keeps_bind ht (keeps_atSample (hb i (le_refl i) (by omega))) fun _ => ?_
    exact ih fun j h1 h2 => hb j (by omega) (by omega)

/-- One sample of PROCESS. -/
theorem keeps_processSample (h : ChannelRel R) {u : UnitId} (ha : ∀ s, R s (updateAudio u s)) {ch : Nat}
    {ins outs : List Word} {i : Nat}
    (hs : ∀ b ∈ outs, ∀ (s : State) y, (b.toNat + 4 * i) % 4 = 0 → b.toNat + 4 * i + 4 ≤ 2 ^ 32 →
      R s { s with mem := writeWord s.mem (b.toNat + 4 * i) y }) : Engine.Keeps R (processSample u ch ins outs i) :=
  keeps_bind h.trans (keeps_of_same h.refl (loadSamples_same _ _)) fun xs =>
    keeps_bind h.trans (keeps_requireFinite h.refl xs) fun _ =>
      keeps_bind h.trans (keeps_modify ha) fun _ =>
        keeps_bind h.trans (keeps_process1Hook h u ch xs) fun ys => keeps_storeSamples h.refl h.trans hs ys

theorem keeps_processChannels (h : ChannelRel R) {u : UnitId} {pout : List (List Word)} {i c : Nat}
    {xss : List (List F32)}
    (hs : ∀ k, c ≤ k → k < c + xss.length → ∀ b ∈ channelBuffers pout k, ∀ (s : State) y,
      (b.toNat + 4 * i) % 4 = 0 → b.toNat + 4 * i + 4 ≤ 2 ^ 32 →
      R s { s with mem := writeWord s.mem (b.toNat + 4 * i) y }) :
    Engine.Keeps R (processChannels u pout i c xss) := by
  induction xss generalizing c with
  | nil => exact keeps_pure h.refl ()
  | cons xs xss ih =>
    refine keeps_bind h.trans (keeps_process1Hook h u c xs) fun ys => ?_
    refine keeps_bind h.trans (keeps_storeSamples h.refl h.trans (hs c (le_refl c) (by simp)) ys) fun _ => ?_
    exact ih fun k h1 h2 => hs k (by omega) (by simp at h2 ⊢; omega)

end Sys2Proof.Machine
end

