-- ==== Sys2Proof/Laws/PerInstr.lean ====
section
/-! SUPPORT. The statements made for every command, one lemma for each constructor: the fields of its word keep to
30_encoding.md R111 to R116, whatever its channel. -/

namespace Sys2Proof.Laws.WordShape

/-- The fields of a command: ZERO is 0, OPC and UNIT are assigned numbers, and CH and SEL are 0 where the opcode does not
use them. -/
def Statement (i : Instr) : Prop :=
  i.fields.zero = 0 ∧ i.fields.opc.toNat ≤ 0x10 ∧ i.fields.unit.toNat ≤ 9 ∧
    (usesCh i.fields.opc = false → i.fields.ch = 0) ∧ (usesSel i.fields.opc = false → i.fields.sel = 0) ∧
    (usesCh i.fields.opc = true → i.channel = some i.fields.ch)

/-- A command with no channel. -/
theorem of_none {i : Instr} (h : i.fields.zero = 0 ∧ i.fields.opc.toNat ≤ 0x10 ∧ i.fields.unit.toNat ≤ 9 ∧
    usesCh i.fields.opc = false ∧ i.fields.ch = 0 ∧ (usesSel i.fields.opc = false → i.fields.sel = 0)) : Statement i :=
  ⟨h.1, h.2.1, h.2.2.1, fun _ => h.2.2.2.2.1, h.2.2.2.2.2, fun h' => by rw [h.2.2.2.1] at h'; cases h'⟩

/-- A command with a channel. -/
theorem of_some {i : Instr} {opc : BitVec 6} {unit : BitVec 4} {ch : BitVec 6} {sel : BitVec 8}
    (hf : i.fields = { opc := opc, unit := unit, ch := ch, sel := sel, zero := 0 }) (hc : i.channel = some ch)
    (h : opc.toNat ≤ 0x10 ∧ unit.toNat ≤ 9 ∧ usesCh opc = true ∧ (usesSel opc = false → sel = 0)) : Statement i := by
  unfold Statement
  rw [hf]
  exact ⟨rfl, h.1, h.2.1, fun h' => absurd (h.2.2.1.symm.trans h') (by decide), h.2.2.2, fun _ => hc⟩

theorem nop : Statement .nop := of_none (by decide)

theorem initOnepole : Statement .initOnepole := of_none (by decide)

theorem setSrOnepole : Statement .setSrOnepole := of_none (by decide)

theorem resetCoeffsOnepole : Statement .resetCoeffsOnepole := of_none (by decide)

theorem resetStateOnepole (ch : BitVec 6) : Statement (.resetStateOnepole ch) := of_some rfl rfl (by decide)

theorem updateCtrlOnepole : Statement .updateCtrlOnepole := of_none (by decide)

theorem updateAudioOnepole : Statement .updateAudioOnepole := of_none (by decide)

theorem process1Onepole (ch : BitVec 6) : Statement (.process1Onepole ch) := of_some rfl rfl (by decide)

theorem processOnepole (ch : BitVec 6) : Statement (.processOnepole ch) := of_some rfl rfl (by decide)

theorem processMultiOnepole : Statement .processMultiOnepole := of_none (by decide)

theorem setParamOnepoleCutoff : Statement .setParamOnepoleCutoff := of_none (by decide)

theorem setParamOnepoleCutoffUp : Statement .setParamOnepoleCutoffUp := of_none (by decide)

theorem setParamOnepoleCutoffDown : Statement .setParamOnepoleCutoffDown := of_none (by decide)

theorem setParamOnepoleTau : Statement .setParamOnepoleTau := of_none (by decide)

theorem setParamOnepoleTauUp : Statement .setParamOnepoleTauUp := of_none (by decide)

theorem setParamOnepoleTauDown : Statement .setParamOnepoleTauDown := of_none (by decide)

theorem setParamOnepoleStickyThresh : Statement .setParamOnepoleStickyThresh := of_none (by decide)

theorem setParamOnepoleStickyMode : Statement .setParamOnepoleStickyMode := of_none (by decide)

theorem readCoefOnepoleCutoffUp : Statement .readCoefOnepoleCutoffUp := of_none (by decide)

theorem readCoefOnepoleCutoffDown : Statement .readCoefOnepoleCutoffDown := of_none (by decide)

theorem readCoefOnepoleStickyThresh : Statement .readCoefOnepoleStickyThresh := of_none (by decide)

theorem readCoefOnepoleStickyMode : Statement .readCoefOnepoleStickyMode := of_none (by decide)

theorem readCoefOnepoleKExp : Statement .readCoefOnepoleKExp := of_none (by decide)

theorem readCoefOnepoleAUp : Statement .readCoefOnepoleAUp := of_none (by decide)

theorem readCoefOnepoleADown : Statement .readCoefOnepoleADown := of_none (by decide)

theorem readCoefOnepoleSt2 : Statement .readCoefOnepoleSt2 := of_none (by decide)

theorem readCoefOnepoleModeAct : Statement .readCoefOnepoleModeAct := of_none (by decide)

theorem readCoefOnepoleLife : Statement .readCoefOnepoleLife := of_none (by decide)

theorem readCoefOnepoleGen : Statement .readCoefOnepoleGen := of_none (by decide)

theorem readCoefOnepoleFs : Statement .readCoefOnepoleFs := of_none (by decide)

theorem readCoefOnepoleDirty : Statement .readCoefOnepoleDirty := of_none (by decide)

theorem readCoefOnepoleMemreq : Statement .readCoefOnepoleMemreq := of_none (by decide)

theorem readStateOnepoleYZ1 (ch : BitVec 6) : Statement (.readStateOnepoleYZ1 ch) := of_some rfl rfl (by decide)

theorem readStateOnepoleStValid (ch : BitVec 6) : Statement (.readStateOnepoleStValid ch) := of_some rfl rfl (by decide)

theorem initMm1 : Statement .initMm1 := of_none (by decide)

theorem setSrMm1 : Statement .setSrMm1 := of_none (by decide)

theorem resetCoeffsMm1 : Statement .resetCoeffsMm1 := of_none (by decide)

theorem resetStateMm1 (ch : BitVec 6) : Statement (.resetStateMm1 ch) := of_some rfl rfl (by decide)

theorem updateCtrlMm1 : Statement .updateCtrlMm1 := of_none (by decide)

theorem updateAudioMm1 : Statement .updateAudioMm1 := of_none (by decide)

theorem process1Mm1 (ch : BitVec 6) : Statement (.process1Mm1 ch) := of_some rfl rfl (by decide)

theorem processMm1 (ch : BitVec 6) : Statement (.processMm1 ch) := of_some rfl rfl (by decide)

theorem processMultiMm1 : Statement .processMultiMm1 := of_none (by decide)

theorem setParamMm1Cutoff : Statement .setParamMm1Cutoff := of_none (by decide)

theorem setParamMm1PrewarpAtCutoff : Statement .setParamMm1PrewarpAtCutoff := of_none (by decide)

theorem setParamMm1PrewarpFreq : Statement .setParamMm1PrewarpFreq := of_none (by decide)

theorem setParamMm1CoeffX : Statement .setParamMm1CoeffX := of_none (by decide)

theorem setParamMm1CoeffLp : Statement .setParamMm1CoeffLp := of_none (by decide)

theorem readCoefMm1Cutoff : Statement .readCoefMm1Cutoff := of_none (by decide)

theorem readCoefMm1PrewarpAtCutoff : Statement .readCoefMm1PrewarpAtCutoff := of_none (by decide)

theorem readCoefMm1PrewarpFreq : Statement .readCoefMm1PrewarpFreq := of_none (by decide)

theorem readCoefMm1CoeffX : Statement .readCoefMm1CoeffX := of_none (by decide)

theorem readCoefMm1CoeffLp : Statement .readCoefMm1CoeffLp := of_none (by decide)

theorem readCoefMm1KPi : Statement .readCoefMm1KPi := of_none (by decide)

theorem readCoefMm1G : Statement .readCoefMm1G := of_none (by decide)

theorem readCoefMm1G1 : Statement .readCoefMm1G1 := of_none (by decide)

theorem readCoefMm1CxAct : Statement .readCoefMm1CxAct := of_none (by decide)

theorem readCoefMm1ClpAct : Statement .readCoefMm1ClpAct := of_none (by decide)

theorem readCoefMm1Life : Statement .readCoefMm1Life := of_none (by decide)

theorem readCoefMm1Gen : Statement .readCoefMm1Gen := of_none (by decide)

theorem readCoefMm1Fs : Statement .readCoefMm1Fs := of_none (by decide)

theorem readCoefMm1Dirty : Statement .readCoefMm1Dirty := of_none (by decide)

theorem readCoefMm1Memreq : Statement .readCoefMm1Memreq := of_none (by decide)

theorem readStateMm1S (ch : BitVec 6) : Statement (.readStateMm1S ch) := of_some rfl rfl (by decide)

theorem readStateMm1StValid (ch : BitVec 6) : Statement (.readStateMm1StValid ch) := of_some rfl rfl (by decide)

theorem initMm2 : Statement .initMm2 := of_none (by decide)

theorem setSrMm2 : Statement .setSrMm2 := of_none (by decide)

theorem resetCoeffsMm2 : Statement .resetCoeffsMm2 := of_none (by decide)

theorem resetStateMm2 (ch : BitVec 6) : Statement (.resetStateMm2 ch) := of_some rfl rfl (by decide)

theorem updateCtrlMm2 : Statement .updateCtrlMm2 := of_none (by decide)

theorem updateAudioMm2 : Statement .updateAudioMm2 := of_none (by decide)

theorem process1Mm2 (ch : BitVec 6) : Statement (.process1Mm2 ch) := of_some rfl rfl (by decide)

theorem processMm2 (ch : BitVec 6) : Statement (.processMm2 ch) := of_some rfl rfl (by decide)

theorem processMultiMm2 : Statement .processMultiMm2 := of_none (by decide)

theorem setParamMm2Cutoff : Statement .setParamMm2Cutoff := of_none (by decide)

theorem setParamMm2Q : Statement .setParamMm2Q := of_none (by decide)

theorem setParamMm2PrewarpAtCutoff : Statement .setParamMm2PrewarpAtCutoff := of_none (by decide)

theorem setParamMm2PrewarpFreq : Statement .setParamMm2PrewarpFreq := of_none (by decide)

theorem setParamMm2CoeffX : Statement .setParamMm2CoeffX := of_none (by decide)

theorem setParamMm2CoeffLp : Statement .setParamMm2CoeffLp := of_none (by decide)

theorem setParamMm2CoeffBp : Statement .setParamMm2CoeffBp := of_none (by decide)

theorem setParamMm2CoeffHp : Statement .setParamMm2CoeffHp := of_none (by decide)

theorem readCoefMm2Cutoff : Statement .readCoefMm2Cutoff := of_none (by decide)

theorem readCoefMm2Q : Statement .readCoefMm2Q := of_none (by decide)

theorem readCoefMm2PrewarpAtCutoff : Statement .readCoefMm2PrewarpAtCutoff := of_none (by decide)

theorem readCoefMm2PrewarpFreq : Statement .readCoefMm2PrewarpFreq := of_none (by decide)

theorem readCoefMm2CoeffX : Statement .readCoefMm2CoeffX := of_none (by decide)

theorem readCoefMm2CoeffLp : Statement .readCoefMm2CoeffLp := of_none (by decide)

theorem readCoefMm2CoeffBp : Statement .readCoefMm2CoeffBp := of_none (by decide)

theorem readCoefMm2CoeffHp : Statement .readCoefMm2CoeffHp := of_none (by decide)

theorem readCoefMm2KPi : Statement .readCoefMm2KPi := of_none (by decide)

theorem readCoefMm2G : Statement .readCoefMm2G := of_none (by decide)

theorem readCoefMm2K : Statement .readCoefMm2K := of_none (by decide)

theorem readCoefMm2Gk : Statement .readCoefMm2Gk := of_none (by decide)

theorem readCoefMm2HpD : Statement .readCoefMm2HpD := of_none (by decide)

theorem readCoefMm2CxAct : Statement .readCoefMm2CxAct := of_none (by decide)

theorem readCoefMm2ClpAct : Statement .readCoefMm2ClpAct := of_none (by decide)

theorem readCoefMm2CbpAct : Statement .readCoefMm2CbpAct := of_none (by decide)

theorem readCoefMm2ChpAct : Statement .readCoefMm2ChpAct := of_none (by decide)

theorem readCoefMm2Life : Statement .readCoefMm2Life := of_none (by decide)

theorem readCoefMm2Gen : Statement .readCoefMm2Gen := of_none (by decide)

theorem readCoefMm2Fs : Statement .readCoefMm2Fs := of_none (by decide)

theorem readCoefMm2Dirty : Statement .readCoefMm2Dirty := of_none (by decide)

theorem readCoefMm2Memreq : Statement .readCoefMm2Memreq := of_none (by decide)

theorem readStateMm2S1 (ch : BitVec 6) : Statement (.readStateMm2S1 ch) := of_some rfl rfl (by decide)

theorem readStateMm2S2 (ch : BitVec 6) : Statement (.readStateMm2S2 ch) := of_some rfl rfl (by decide)

theorem readStateMm2StValid (ch : BitVec 6) : Statement (.readStateMm2StValid ch) := of_some rfl rfl (by decide)

theorem initHp1 : Statement .initHp1 := of_none (by decide)

theorem setSrHp1 : Statement .setSrHp1 := of_none (by decide)

theorem resetCoeffsHp1 : Statement .resetCoeffsHp1 := of_none (by decide)

theorem resetStateHp1 (ch : BitVec 6) : Statement (.resetStateHp1 ch) := of_some rfl rfl (by decide)

theorem updateCtrlHp1 : Statement .updateCtrlHp1 := of_none (by decide)

theorem updateAudioHp1 : Statement .updateAudioHp1 := of_none (by decide)

theorem process1Hp1 (ch : BitVec 6) : Statement (.process1Hp1 ch) := of_some rfl rfl (by decide)

theorem processHp1 (ch : BitVec 6) : Statement (.processHp1 ch) := of_some rfl rfl (by decide)

theorem processMultiHp1 : Statement .processMultiHp1 := of_none (by decide)

theorem setParamHp1Cutoff : Statement .setParamHp1Cutoff := of_none (by decide)

theorem setParamHp1PrewarpAtCutoff : Statement .setParamHp1PrewarpAtCutoff := of_none (by decide)

theorem setParamHp1PrewarpFreq : Statement .setParamHp1PrewarpFreq := of_none (by decide)

theorem readCoefHp1Cutoff : Statement .readCoefHp1Cutoff := of_none (by decide)

theorem readCoefHp1PrewarpAtCutoff : Statement .readCoefHp1PrewarpAtCutoff := of_none (by decide)

theorem readCoefHp1PrewarpFreq : Statement .readCoefHp1PrewarpFreq := of_none (by decide)

theorem readCoefHp1InnerCutoff : Statement .readCoefHp1InnerCutoff := of_none (by decide)

theorem readCoefHp1InnerPrewarpAtCutoff : Statement .readCoefHp1InnerPrewarpAtCutoff := of_none (by decide)

theorem readCoefHp1InnerPrewarpFreq : Statement .readCoefHp1InnerPrewarpFreq := of_none (by decide)

theorem readCoefHp1InnerCoeffX : Statement .readCoefHp1InnerCoeffX := of_none (by decide)

theorem readCoefHp1InnerCoeffLp : Statement .readCoefHp1InnerCoeffLp := of_none (by decide)

theorem readCoefHp1InnerKPi : Statement .readCoefHp1InnerKPi := of_none (by decide)

theorem readCoefHp1InnerG : Statement .readCoefHp1InnerG := of_none (by decide)

theorem readCoefHp1InnerG1 : Statement .readCoefHp1InnerG1 := of_none (by decide)

theorem readCoefHp1InnerCxAct : Statement .readCoefHp1InnerCxAct := of_none (by decide)

theorem readCoefHp1InnerClpAct : Statement .readCoefHp1InnerClpAct := of_none (by decide)

theorem readCoefHp1InnerDirty : Statement .readCoefHp1InnerDirty := of_none (by decide)

theorem readCoefHp1Life : Statement .readCoefHp1Life := of_none (by decide)

theorem readCoefHp1Gen : Statement .readCoefHp1Gen := of_none (by decide)

theorem readCoefHp1Fs : Statement .readCoefHp1Fs := of_none (by decide)

theorem readCoefHp1Dirty : Statement .readCoefHp1Dirty := of_none (by decide)

theorem readCoefHp1Memreq : Statement .readCoefHp1Memreq := of_none (by decide)

theorem readStateHp1S (ch : BitVec 6) : Statement (.readStateHp1S ch) := of_some rfl rfl (by decide)

theorem readStateHp1StValid (ch : BitVec 6) : Statement (.readStateHp1StValid ch) := of_some rfl rfl (by decide)

theorem initLs1 : Statement .initLs1 := of_none (by decide)

theorem setSrLs1 : Statement .setSrLs1 := of_none (by decide)

theorem resetCoeffsLs1 : Statement .resetCoeffsLs1 := of_none (by decide)

theorem resetStateLs1 (ch : BitVec 6) : Statement (.resetStateLs1 ch) := of_some rfl rfl (by decide)

theorem updateCtrlLs1 : Statement .updateCtrlLs1 := of_none (by decide)

theorem updateAudioLs1 : Statement .updateAudioLs1 := of_none (by decide)

theorem process1Ls1 (ch : BitVec 6) : Statement (.process1Ls1 ch) := of_some rfl rfl (by decide)

theorem processLs1 (ch : BitVec 6) : Statement (.processLs1 ch) := of_some rfl rfl (by decide)

theorem processMultiLs1 : Statement .processMultiLs1 := of_none (by decide)

theorem setParamLs1Cutoff : Statement .setParamLs1Cutoff := of_none (by decide)

theorem setParamLs1DcGainLin : Statement .setParamLs1DcGainLin := of_none (by decide)

theorem setParamLs1DcGainDb : Statement .setParamLs1DcGainDb := of_none (by decide)

theorem setParamLs1PrewarpAtCutoff : Statement .setParamLs1PrewarpAtCutoff := of_none (by decide)

theorem setParamLs1PrewarpFreq : Statement .setParamLs1PrewarpFreq := of_none (by decide)

theorem readCoefLs1Cutoff : Statement .readCoefLs1Cutoff := of_none (by decide)

theorem readCoefLs1DcGainLin : Statement .readCoefLs1DcGainLin := of_none (by decide)

theorem readCoefLs1DcGainDb : Statement .readCoefLs1DcGainDb := of_none (by decide)

theorem readCoefLs1PrewarpAtCutoff : Statement .readCoefLs1PrewarpAtCutoff := of_none (by decide)

theorem readCoefLs1PrewarpFreq : Statement .readCoefLs1PrewarpFreq := of_none (by decide)

theorem readCoefLs1GainIsDb : Statement .readCoefLs1GainIsDb := of_none (by decide)

theorem readCoefLs1G : Statement .readCoefLs1G := of_none (by decide)

theorem readCoefLs1InnerCutoff : Statement .readCoefLs1InnerCutoff := of_none (by decide)

theorem readCoefLs1InnerPrewarpAtCutoff : Statement .readCoefLs1InnerPrewarpAtCutoff := of_none (by decide)

theorem readCoefLs1InnerPrewarpFreq : Statement .readCoefLs1InnerPrewarpFreq := of_none (by decide)

theorem readCoefLs1InnerCoeffX : Statement .readCoefLs1InnerCoeffX := of_none (by decide)

theorem readCoefLs1InnerCoeffLp : Statement .readCoefLs1InnerCoeffLp := of_none (by decide)

theorem readCoefLs1InnerKPi : Statement .readCoefLs1InnerKPi := of_none (by decide)

theorem readCoefLs1InnerG : Statement .readCoefLs1InnerG := of_none (by decide)

theorem readCoefLs1InnerG1 : Statement .readCoefLs1InnerG1 := of_none (by decide)

theorem readCoefLs1InnerCxAct : Statement .readCoefLs1InnerCxAct := of_none (by decide)

theorem readCoefLs1InnerClpAct : Statement .readCoefLs1InnerClpAct := of_none (by decide)

theorem readCoefLs1InnerDirty : Statement .readCoefLs1InnerDirty := of_none (by decide)

theorem readCoefLs1Life : Statement .readCoefLs1Life := of_none (by decide)

theorem readCoefLs1Gen : Statement .readCoefLs1Gen := of_none (by decide)

theorem readCoefLs1Fs : Statement .readCoefLs1Fs := of_none (by decide)

theorem readCoefLs1Dirty : Statement .readCoefLs1Dirty := of_none (by decide)

theorem readCoefLs1Memreq : Statement .readCoefLs1Memreq := of_none (by decide)

theorem readStateLs1S (ch : BitVec 6) : Statement (.readStateLs1S ch) := of_some rfl rfl (by decide)

theorem readStateLs1StValid (ch : BitVec 6) : Statement (.readStateLs1StValid ch) := of_some rfl rfl (by decide)

theorem initLs2 : Statement .initLs2 := of_none (by decide)

theorem setSrLs2 : Statement .setSrLs2 := of_none (by decide)

theorem resetCoeffsLs2 : Statement .resetCoeffsLs2 := of_none (by decide)

theorem resetStateLs2 (ch : BitVec 6) : Statement (.resetStateLs2 ch) := of_some rfl rfl (by decide)

theorem updateCtrlLs2 : Statement .updateCtrlLs2 := of_none (by decide)

theorem updateAudioLs2 : Statement .updateAudioLs2 := of_none (by decide)

theorem process1Ls2 (ch : BitVec 6) : Statement (.process1Ls2 ch) := of_some rfl rfl (by decide)

theorem processLs2 (ch : BitVec 6) : Statement (.processLs2 ch) := of_some rfl rfl (by decide)

theorem processMultiLs2 : Statement .processMultiLs2 := of_none (by decide)

theorem setParamLs2Cutoff : Statement .setParamLs2Cutoff := of_none (by decide)

theorem setParamLs2Q : Statement .setParamLs2Q := of_none (by decide)

theorem setParamLs2DcGainLin : Statement .setParamLs2DcGainLin := of_none (by decide)

theorem setParamLs2DcGainDb : Statement .setParamLs2DcGainDb := of_none (by decide)

theorem setParamLs2PrewarpAtCutoff : Statement .setParamLs2PrewarpAtCutoff := of_none (by decide)

theorem setParamLs2PrewarpFreq : Statement .setParamLs2PrewarpFreq := of_none (by decide)

theorem readCoefLs2Cutoff : Statement .readCoefLs2Cutoff := of_none (by decide)

theorem readCoefLs2Q : Statement .readCoefLs2Q := of_none (by decide)

theorem readCoefLs2DcGainLin : Statement .readCoefLs2DcGainLin := of_none (by decide)

theorem readCoefLs2DcGainDb : Statement .readCoefLs2DcGainDb := of_none (by decide)

theorem readCoefLs2PrewarpAtCutoff : Statement .readCoefLs2PrewarpAtCutoff := of_none (by decide)

theorem readCoefLs2PrewarpFreq : Statement .readCoefLs2PrewarpFreq := of_none (by decide)

theorem readCoefLs2GainIsDb : Statement .readCoefLs2GainIsDb := of_none (by decide)

theorem readCoefLs2G : Statement .readCoefLs2G := of_none (by decide)

theorem readCoefLs2Ki : Statement .readCoefLs2Ki := of_none (by decide)

theorem readCoefLs2InnerCutoff : Statement .readCoefLs2InnerCutoff := of_none (by decide)

theorem readCoefLs2InnerQ : Statement .readCoefLs2InnerQ := of_none (by decide)

theorem readCoefLs2InnerPrewarpAtCutoff : Statement .readCoefLs2InnerPrewarpAtCutoff := of_none (by decide)

theorem readCoefLs2InnerPrewarpFreq : Statement .readCoefLs2InnerPrewarpFreq := of_none (by decide)

theorem readCoefLs2InnerCoeffX : Statement .readCoefLs2InnerCoeffX := of_none (by decide)

theorem readCoefLs2InnerCoeffLp : Statement .readCoefLs2InnerCoeffLp := of_none (by decide)

theorem readCoefLs2InnerCoeffBp : Statement .readCoefLs2InnerCoeffBp := of_none (by decide)

theorem readCoefLs2InnerCoeffHp : Statement .readCoefLs2InnerCoeffHp := of_none (by decide)

theorem readCoefLs2InnerKPi : Statement .readCoefLs2InnerKPi := of_none (by decide)

theorem readCoefLs2InnerG : Statement .readCoefLs2InnerG := of_none (by decide)

theorem readCoefLs2InnerK : Statement .readCoefLs2InnerK := of_none (by decide)

theorem readCoefLs2InnerGk : Statement .readCoefLs2InnerGk := of_none (by decide)

theorem readCoefLs2InnerHpD : Statement .readCoefLs2InnerHpD := of_none (by decide)

theorem readCoefLs2InnerCxAct : Statement .readCoefLs2InnerCxAct := of_none (by decide)

theorem readCoefLs2InnerClpAct : Statement .readCoefLs2InnerClpAct := of_none (by decide)

theorem readCoefLs2InnerCbpAct : Statement .readCoefLs2InnerCbpAct := of_none (by decide)

theorem readCoefLs2InnerChpAct : Statement .readCoefLs2InnerChpAct := of_none (by decide)

theorem readCoefLs2InnerDirty : Statement .readCoefLs2InnerDirty := of_none (by decide)

theorem readCoefLs2Life : Statement .readCoefLs2Life := of_none (by decide)

theorem readCoefLs2Gen : Statement .readCoefLs2Gen := of_none (by decide)

theorem readCoefLs2Fs : Statement .readCoefLs2Fs := of_none (by decide)

theorem readCoefLs2Dirty : Statement .readCoefLs2Dirty := of_none (by decide)

theorem readCoefLs2Memreq : Statement .readCoefLs2Memreq := of_none (by decide)

theorem readStateLs2S1 (ch : BitVec 6) : Statement (.readStateLs2S1 ch) := of_some rfl rfl (by decide)

theorem readStateLs2S2 (ch : BitVec 6) : Statement (.readStateLs2S2 ch) := of_some rfl rfl (by decide)

theorem readStateLs2StValid (ch : BitVec 6) : Statement (.readStateLs2StValid ch) := of_some rfl rfl (by decide)

theorem initAp2 : Statement .initAp2 := of_none (by decide)

theorem setSrAp2 : Statement .setSrAp2 := of_none (by decide)

theorem resetCoeffsAp2 : Statement .resetCoeffsAp2 := of_none (by decide)

theorem resetStateAp2 (ch : BitVec 6) : Statement (.resetStateAp2 ch) := of_some rfl rfl (by decide)

theorem updateCtrlAp2 : Statement .updateCtrlAp2 := of_none (by decide)

theorem updateAudioAp2 : Statement .updateAudioAp2 := of_none (by decide)

theorem process1Ap2 (ch : BitVec 6) : Statement (.process1Ap2 ch) := of_some rfl rfl (by decide)

theorem processAp2 (ch : BitVec 6) : Statement (.processAp2 ch) := of_some rfl rfl (by decide)

theorem processMultiAp2 : Statement .processMultiAp2 := of_none (by decide)

theorem setParamAp2Cutoff : Statement .setParamAp2Cutoff := of_none (by decide)

theorem setParamAp2Q : Statement .setParamAp2Q := of_none (by decide)

theorem setParamAp2PrewarpAtCutoff : Statement .setParamAp2PrewarpAtCutoff := of_none (by decide)

theorem setParamAp2PrewarpFreq : Statement .setParamAp2PrewarpFreq := of_none (by decide)

theorem readCoefAp2Cutoff : Statement .readCoefAp2Cutoff := of_none (by decide)

theorem readCoefAp2Q : Statement .readCoefAp2Q := of_none (by decide)

theorem readCoefAp2PrewarpAtCutoff : Statement .readCoefAp2PrewarpAtCutoff := of_none (by decide)

theorem readCoefAp2PrewarpFreq : Statement .readCoefAp2PrewarpFreq := of_none (by decide)

theorem readCoefAp2Ki : Statement .readCoefAp2Ki := of_none (by decide)

theorem readCoefAp2InnerCutoff : Statement .readCoefAp2InnerCutoff := of_none (by decide)

theorem readCoefAp2InnerQ : Statement .readCoefAp2InnerQ := of_none (by decide)

theorem readCoefAp2InnerPrewarpAtCutoff : Statement .readCoefAp2InnerPrewarpAtCutoff := of_none (by decide)

theorem readCoefAp2InnerPrewarpFreq : Statement .readCoefAp2InnerPrewarpFreq := of_none (by decide)

theorem readCoefAp2InnerCoeffX : Statement .readCoefAp2InnerCoeffX := of_none (by decide)

theorem readCoefAp2InnerCoeffLp : Statement .readCoefAp2InnerCoeffLp := of_none (by decide)

theorem readCoefAp2InnerCoeffBp : Statement .readCoefAp2InnerCoeffBp := of_none (by decide)

theorem readCoefAp2InnerCoeffHp : Statement .readCoefAp2InnerCoeffHp := of_none (by decide)

theorem readCoefAp2InnerKPi : Statement .readCoefAp2InnerKPi := of_none (by decide)

theorem readCoefAp2InnerG : Statement .readCoefAp2InnerG := of_none (by decide)

theorem readCoefAp2InnerK : Statement .readCoefAp2InnerK := of_none (by decide)

theorem readCoefAp2InnerGk : Statement .readCoefAp2InnerGk := of_none (by decide)

theorem readCoefAp2InnerHpD : Statement .readCoefAp2InnerHpD := of_none (by decide)

theorem readCoefAp2InnerCxAct : Statement .readCoefAp2InnerCxAct := of_none (by decide)

theorem readCoefAp2InnerClpAct : Statement .readCoefAp2InnerClpAct := of_none (by decide)

theorem readCoefAp2InnerCbpAct : Statement .readCoefAp2InnerCbpAct := of_none (by decide)

theorem readCoefAp2InnerChpAct : Statement .readCoefAp2InnerChpAct := of_none (by decide)

theorem readCoefAp2InnerDirty : Statement .readCoefAp2InnerDirty := of_none (by decide)

theorem readCoefAp2Life : Statement .readCoefAp2Life := of_none (by decide)

theorem readCoefAp2Gen : Statement .readCoefAp2Gen := of_none (by decide)

theorem readCoefAp2Fs : Statement .readCoefAp2Fs := of_none (by decide)

theorem readCoefAp2Dirty : Statement .readCoefAp2Dirty := of_none (by decide)

theorem readCoefAp2Memreq : Statement .readCoefAp2Memreq := of_none (by decide)

theorem readStateAp2S1 (ch : BitVec 6) : Statement (.readStateAp2S1 ch) := of_some rfl rfl (by decide)

theorem readStateAp2S2 (ch : BitVec 6) : Statement (.readStateAp2S2 ch) := of_some rfl rfl (by decide)

theorem readStateAp2StValid (ch : BitVec 6) : Statement (.readStateAp2StValid ch) := of_some rfl rfl (by decide)

theorem initPeak : Statement .initPeak := of_none (by decide)

theorem setSrPeak : Statement .setSrPeak := of_none (by decide)

theorem resetCoeffsPeak : Statement .resetCoeffsPeak := of_none (by decide)

theorem resetStatePeak (ch : BitVec 6) : Statement (.resetStatePeak ch) := of_some rfl rfl (by decide)

theorem updateCtrlPeak : Statement .updateCtrlPeak := of_none (by decide)

theorem updateAudioPeak : Statement .updateAudioPeak := of_none (by decide)

theorem process1Peak (ch : BitVec 6) : Statement (.process1Peak ch) := of_some rfl rfl (by decide)

theorem processPeak (ch : BitVec 6) : Statement (.processPeak ch) := of_some rfl rfl (by decide)

theorem processMultiPeak : Statement .processMultiPeak := of_none (by decide)

theorem setParamPeakCutoff : Statement .setParamPeakCutoff := of_none (by decide)

theorem setParamPeakQ : Statement .setParamPeakQ := of_none (by decide)

theorem setParamPeakPeakGainLin : Statement .setParamPeakPeakGainLin := of_none (by decide)

theorem setParamPeakPeakGainDb : Statement .setParamPeakPeakGainDb := of_none (by decide)

theorem setParamPeakBandwidth : Statement .setParamPeakBandwidth := of_none (by decide)

theorem setParamPeakUseBandwidth : Statement .setParamPeakUseBandwidth := of_none (by decide)

theorem setParamPeakPrewarpAtCutoff : Statement .setParamPeakPrewarpAtCutoff := of_none (by decide)

theorem setParamPeakPrewarpFreq : Statement .setParamPeakPrewarpFreq := of_none (by decide)

theorem readCoefPeakCutoff : Statement .readCoefPeakCutoff := of_none (by decide)

theorem readCoefPeakQ : Statement .readCoefPeakQ := of_none (by decide)

theorem readCoefPeakPeakGainLin : Statement .readCoefPeakPeakGainLin := of_none (by decide)

theorem readCoefPeakPeakGainDb : Statement .readCoefPeakPeakGainDb := of_none (by decide)

theorem readCoefPeakBandwidth : Statement .readCoefPeakBandwidth := of_none (by decide)

theorem readCoefPeakUseBandwidth : Statement .readCoefPeakUseBandwidth := of_none (by decide)

theorem readCoefPeakPrewarpAtCutoff : Statement .readCoefPeakPrewarpAtCutoff := of_none (by decide)

theorem readCoefPeakPrewarpFreq : Statement .readCoefPeakPrewarpFreq := of_none (by decide)

theorem readCoefPeakGainIsDb : Statement .readCoefPeakGainIsDb := of_none (by decide)

theorem readCoefPeakG : Statement .readCoefPeakG := of_none (by decide)

theorem readCoefPeakQu : Statement .readCoefPeakQu := of_none (by decide)

theorem readCoefPeakQi : Statement .readCoefPeakQi := of_none (by decide)

theorem readCoefPeakKi : Statement .readCoefPeakKi := of_none (by decide)

theorem readCoefPeakInnerCutoff : Statement .readCoefPeakInnerCutoff := of_none (by decide)

theorem readCoefPeakInnerQ : Statement .readCoefPeakInnerQ := of_none (by decide)

theorem readCoefPeakInnerPrewarpAtCutoff : Statement .readCoefPeakInnerPrewarpAtCutoff := of_none (by decide)

theorem readCoefPeakInnerPrewarpFreq : Statement .readCoefPeakInnerPrewarpFreq := of_none (by decide)

theorem readCoefPeakInnerCoeffX : Statement .readCoefPeakInnerCoeffX := of_none (by decide)

theorem readCoefPeakInnerCoeffLp : Statement .readCoefPeakInnerCoeffLp := of_none (by decide)

theorem readCoefPeakInnerCoeffBp : Statement .readCoefPeakInnerCoeffBp := of_none (by decide)

theorem readCoefPeakInnerCoeffHp : Statement .readCoefPeakInnerCoeffHp := of_none (by decide)

theorem readCoefPeakInnerKPi : Statement .readCoefPeakInnerKPi := of_none (by decide)

theorem readCoefPeakInnerG : Statement .readCoefPeakInnerG := of_none (by decide)

theorem readCoefPeakInnerK : Statement .readCoefPeakInnerK := of_none (by decide)

theorem readCoefPeakInnerGk : Statement .readCoefPeakInnerGk := of_none (by decide)

theorem readCoefPeakInnerHpD : Statement .readCoefPeakInnerHpD := of_none (by decide)

theorem readCoefPeakInnerCxAct : Statement .readCoefPeakInnerCxAct := of_none (by decide)

theorem readCoefPeakInnerClpAct : Statement .readCoefPeakInnerClpAct := of_none (by decide)

theorem readCoefPeakInnerCbpAct : Statement .readCoefPeakInnerCbpAct := of_none (by decide)

theorem readCoefPeakInnerChpAct : Statement .readCoefPeakInnerChpAct := of_none (by decide)

theorem readCoefPeakInnerDirty : Statement .readCoefPeakInnerDirty := of_none (by decide)

theorem readCoefPeakLife : Statement .readCoefPeakLife := of_none (by decide)

theorem readCoefPeakGen : Statement .readCoefPeakGen := of_none (by decide)

theorem readCoefPeakFs : Statement .readCoefPeakFs := of_none (by decide)

theorem readCoefPeakDirty : Statement .readCoefPeakDirty := of_none (by decide)

theorem readCoefPeakMemreq : Statement .readCoefPeakMemreq := of_none (by decide)

theorem readStatePeakS1 (ch : BitVec 6) : Statement (.readStatePeakS1 ch) := of_some rfl rfl (by decide)

theorem readStatePeakS2 (ch : BitVec 6) : Statement (.readStatePeakS2 ch) := of_some rfl rfl (by decide)

theorem readStatePeakStValid (ch : BitVec 6) : Statement (.readStatePeakStValid ch) := of_some rfl rfl (by decide)

theorem initDelay : Statement .initDelay := of_none (by decide)

theorem setSrDelay : Statement .setSrDelay := of_none (by decide)

theorem resetCoeffsDelay : Statement .resetCoeffsDelay := of_none (by decide)

theorem resetStateDelay (ch : BitVec 6) : Statement (.resetStateDelay ch) := of_some rfl rfl (by decide)

theorem updateCtrlDelay : Statement .updateCtrlDelay := of_none (by decide)

theorem updateAudioDelay : Statement .updateAudioDelay := of_none (by decide)

theorem process1Delay (ch : BitVec 6) : Statement (.process1Delay ch) := of_some rfl rfl (by decide)

theorem processDelay (ch : BitVec 6) : Statement (.processDelay ch) := of_some rfl rfl (by decide)

theorem processMultiDelay : Statement .processMultiDelay := of_none (by decide)

theorem memReqDelay : Statement .memReqDelay := of_none (by decide)

theorem memSetDelay (ch : BitVec 6) : Statement (.memSetDelay ch) := of_some rfl rfl (by decide)

theorem delayReadDelay (ch : BitVec 6) : Statement (.delayReadDelay ch) := of_some rfl rfl (by decide)

theorem delayWriteDelay (ch : BitVec 6) : Statement (.delayWriteDelay ch) := of_some rfl rfl (by decide)

theorem setParamDelayDelay : Statement .setParamDelayDelay := of_none (by decide)

theorem readCoefDelayDelay : Statement .readCoefDelayDelay := of_none (by decide)

theorem readCoefDelayMaxDelay : Statement .readCoefDelayMaxDelay := of_none (by decide)

theorem readCoefDelayLen : Statement .readCoefDelayLen := of_none (by decide)

theorem readCoefDelayDi : Statement .readCoefDelayDi := of_none (by decide)

theorem readCoefDelayDf : Statement .readCoefDelayDf := of_none (by decide)

theorem readCoefDelayLife : Statement .readCoefDelayLife := of_none (by decide)

theorem readCoefDelayGen : Statement .readCoefDelayGen := of_none (by decide)

theorem readCoefDelayFs : Statement .readCoefDelayFs := of_none (by decide)

theorem readCoefDelayDirty : Statement .readCoefDelayDirty := of_none (by decide)

theorem readCoefDelayMemreq : Statement .readCoefDelayMemreq := of_none (by decide)

theorem readStateDelayW (ch : BitVec 6) : Statement (.readStateDelayW ch) := of_some rfl rfl (by decide)

theorem readStateDelayStValid (ch : BitVec 6) : Statement (.readStateDelayStValid ch) := of_some rfl rfl (by decide)

theorem readStateDelayMemBound (ch : BitVec 6) : Statement (.readStateDelayMemBound ch) := of_some rfl rfl (by decide)

theorem readStateDelayMemBase (ch : BitVec 6) : Statement (.readStateDelayMemBase ch) := of_some rfl rfl (by decide)

theorem initReverb : Statement .initReverb := of_none (by decide)

theorem setSrReverb : Statement .setSrReverb := of_none (by decide)

theorem resetCoeffsReverb : Statement .resetCoeffsReverb := of_none (by decide)

theorem resetStateReverb (ch : BitVec 6) : Statement (.resetStateReverb ch) := of_some rfl rfl (by decide)

theorem updateCtrlReverb : Statement .updateCtrlReverb := of_none (by decide)

theorem updateAudioReverb : Statement .updateAudioReverb := of_none (by decide)

theorem process1Reverb (ch : BitVec 6) : Statement (.process1Reverb ch) := of_some rfl rfl (by decide)

theorem processReverb (ch : BitVec 6) : Statement (.processReverb ch) := of_some rfl rfl (by decide)

theorem processMultiReverb : Statement .processMultiReverb := of_none (by decide)

theorem memReqReverb : Statement .memReqReverb := of_none (by decide)

theorem memSetReverb (ch : BitVec 6) : Statement (.memSetReverb ch) := of_some rfl rfl (by decide)

theorem setParamReverbPredelay : Statement .setParamReverbPredelay := of_none (by decide)

theorem setParamReverbBandwidth : Statement .setParamReverbBandwidth := of_none (by decide)

theorem setParamReverbDamping : Statement .setParamReverbDamping := of_none (by decide)

theorem setParamReverbDecay : Statement .setParamReverbDecay := of_none (by decide)

theorem readCoefReverbPredelay : Statement .readCoefReverbPredelay := of_none (by decide)

theorem readCoefReverbBandwidth : Statement .readCoefReverbBandwidth := of_none (by decide)

theorem readCoefReverbDamping : Statement .readCoefReverbDamping := of_none (by decide)

theorem readCoefReverbDecay : Statement .readCoefReverbDecay := of_none (by decide)

theorem readCoefReverbKExp : Statement .readCoefReverbKExp := of_none (by decide)

theorem readCoefReverbABw : Statement .readCoefReverbABw := of_none (by decide)

theorem readCoefReverbADamp : Statement .readCoefReverbADamp := of_none (by decide)

theorem readCoefReverbDecayG : Statement .readCoefReverbDecayG := of_none (by decide)

theorem readCoefReverbDd2g : Statement .readCoefReverbDd2g := of_none (by decide)

theorem readCoefReverbAPds : Statement .readCoefReverbAPds := of_none (by decide)

theorem readCoefReverbSt2Pd : Statement .readCoefReverbSt2Pd := of_none (by decide)

theorem readCoefReverbPdTarget : Statement .readCoefReverbPdTarget := of_none (by decide)

theorem readCoefReverbPdS : Statement .readCoefReverbPdS := of_none (by decide)

theorem readCoefReverbPdN : Statement .readCoefReverbPdN := of_none (by decide)

theorem readCoefReverbLfoPhase : Statement .readCoefReverbLfoPhase := of_none (by decide)

theorem readCoefReverbLfoInc : Statement .readCoefReverbLfoInc := of_none (by decide)

theorem readCoefReverbLfoM : Statement .readCoefReverbLfoM := of_none (by decide)

theorem readCoefReverbExc : Statement .readCoefReverbExc := of_none (by decide)

theorem readCoefReverbRatio : Statement .readCoefReverbRatio := of_none (by decide)

theorem readCoefReverbDi1 : Statement .readCoefReverbDi1 := of_none (by decide)

theorem readCoefReverbDf1 : Statement .readCoefReverbDf1 := of_none (by decide)

theorem readCoefReverbDi3 : Statement .readCoefReverbDi3 := of_none (by decide)

theorem readCoefReverbDf3 : Statement .readCoefReverbDf3 := of_none (by decide)

theorem readCoefReverbN1 : Statement .readCoefReverbN1 := of_none (by decide)

theorem readCoefReverbN2 : Statement .readCoefReverbN2 := of_none (by decide)

theorem readCoefReverbN3 : Statement .readCoefReverbN3 := of_none (by decide)

theorem readCoefReverbN4 : Statement .readCoefReverbN4 := of_none (by decide)

theorem readCoefReverbN5 : Statement .readCoefReverbN5 := of_none (by decide)

theorem readCoefReverbN6 : Statement .readCoefReverbN6 := of_none (by decide)

theorem readCoefReverbN7 : Statement .readCoefReverbN7 := of_none (by decide)

theorem readCoefReverbN8 : Statement .readCoefReverbN8 := of_none (by decide)

theorem readCoefReverbN9 : Statement .readCoefReverbN9 := of_none (by decide)

theorem readCoefReverbN10 : Statement .readCoefReverbN10 := of_none (by decide)

theorem readCoefReverbN11 : Statement .readCoefReverbN11 := of_none (by decide)

theorem readCoefReverbN12 : Statement .readCoefReverbN12 := of_none (by decide)

theorem readCoefReverbCap0 : Statement .readCoefReverbCap0 := of_none (by decide)

theorem readCoefReverbCap1 : Statement .readCoefReverbCap1 := of_none (by decide)

theorem readCoefReverbCap2 : Statement .readCoefReverbCap2 := of_none (by decide)

theorem readCoefReverbCap3 : Statement .readCoefReverbCap3 := of_none (by decide)

theorem readCoefReverbCap4 : Statement .readCoefReverbCap4 := of_none (by decide)

theorem readCoefReverbCap5 : Statement .readCoefReverbCap5 := of_none (by decide)

theorem readCoefReverbCap6 : Statement .readCoefReverbCap6 := of_none (by decide)

theorem readCoefReverbCap7 : Statement .readCoefReverbCap7 := of_none (by decide)

theorem readCoefReverbCap8 : Statement .readCoefReverbCap8 := of_none (by decide)

theorem readCoefReverbCap9 : Statement .readCoefReverbCap9 := of_none (by decide)

theorem readCoefReverbCap10 : Statement .readCoefReverbCap10 := of_none (by decide)

theorem readCoefReverbCap11 : Statement .readCoefReverbCap11 := of_none (by decide)

theorem readCoefReverbCap12 : Statement .readCoefReverbCap12 := of_none (by decide)

theorem readCoefReverbOff0 : Statement .readCoefReverbOff0 := of_none (by decide)

theorem readCoefReverbOff1 : Statement .readCoefReverbOff1 := of_none (by decide)

theorem readCoefReverbOff2 : Statement .readCoefReverbOff2 := of_none (by decide)

theorem readCoefReverbOff3 : Statement .readCoefReverbOff3 := of_none (by decide)

theorem readCoefReverbOff4 : Statement .readCoefReverbOff4 := of_none (by decide)

theorem readCoefReverbOff5 : Statement .readCoefReverbOff5 := of_none (by decide)

theorem readCoefReverbOff6 : Statement .readCoefReverbOff6 := of_none (by decide)

theorem readCoefReverbOff7 : Statement .readCoefReverbOff7 := of_none (by decide)

theorem readCoefReverbOff8 : Statement .readCoefReverbOff8 := of_none (by decide)

theorem readCoefReverbOff9 : Statement .readCoefReverbOff9 := of_none (by decide)

theorem readCoefReverbOff10 : Statement .readCoefReverbOff10 := of_none (by decide)

theorem readCoefReverbOff11 : Statement .readCoefReverbOff11 := of_none (by decide)

theorem readCoefReverbOff12 : Statement .readCoefReverbOff12 := of_none (by decide)

theorem readCoefReverbTaplK0 : Statement .readCoefReverbTaplK0 := of_none (by decide)

theorem readCoefReverbTaplK1 : Statement .readCoefReverbTaplK1 := of_none (by decide)

theorem readCoefReverbTaplK2 : Statement .readCoefReverbTaplK2 := of_none (by decide)

theorem readCoefReverbTaplK3 : Statement .readCoefReverbTaplK3 := of_none (by decide)

theorem readCoefReverbTaplK4 : Statement .readCoefReverbTaplK4 := of_none (by decide)

theorem readCoefReverbTaplK5 : Statement .readCoefReverbTaplK5 := of_none (by decide)

theorem readCoefReverbTaplK6 : Statement .readCoefReverbTaplK6 := of_none (by decide)

theorem readCoefReverbTaprK0 : Statement .readCoefReverbTaprK0 := of_none (by decide)

theorem readCoefReverbTaprK1 : Statement .readCoefReverbTaprK1 := of_none (by decide)

theorem readCoefReverbTaprK2 : Statement .readCoefReverbTaprK2 := of_none (by decide)

theorem readCoefReverbTaprK3 : Statement .readCoefReverbTaprK3 := of_none (by decide)

theorem readCoefReverbTaprK4 : Statement .readCoefReverbTaprK4 := of_none (by decide)

theorem readCoefReverbTaprK5 : Statement .readCoefReverbTaprK5 := of_none (by decide)

theorem readCoefReverbTaprK6 : Statement .readCoefReverbTaprK6 := of_none (by decide)

theorem readCoefReverbLife : Statement .readCoefReverbLife := of_none (by decide)

theorem readCoefReverbGen : Statement .readCoefReverbGen := of_none (by decide)

theorem readCoefReverbFs : Statement .readCoefReverbFs := of_none (by decide)

theorem readCoefReverbDirty : Statement .readCoefReverbDirty := of_none (by decide)

theorem readCoefReverbMemreq : Statement .readCoefReverbMemreq := of_none (by decide)

theorem readStateReverbBwZ1 (ch : BitVec 6) : Statement (.readStateReverbBwZ1 ch) := of_some rfl rfl (by decide)

theorem readStateReverbDlZ1 (ch : BitVec 6) : Statement (.readStateReverbDlZ1 ch) := of_some rfl rfl (by decide)

theorem readStateReverbDrZ1 (ch : BitVec 6) : Statement (.readStateReverbDrZ1 ch) := of_some rfl rfl (by decide)

theorem readStateReverbW0 (ch : BitVec 6) : Statement (.readStateReverbW0 ch) := of_some rfl rfl (by decide)

theorem readStateReverbW1 (ch : BitVec 6) : Statement (.readStateReverbW1 ch) := of_some rfl rfl (by decide)

theorem readStateReverbW2 (ch : BitVec 6) : Statement (.readStateReverbW2 ch) := of_some rfl rfl (by decide)

theorem readStateReverbW3 (ch : BitVec 6) : Statement (.readStateReverbW3 ch) := of_some rfl rfl (by decide)

theorem readStateReverbW4 (ch : BitVec 6) : Statement (.readStateReverbW4 ch) := of_some rfl rfl (by decide)

theorem readStateReverbW5 (ch : BitVec 6) : Statement (.readStateReverbW5 ch) := of_some rfl rfl (by decide)

theorem readStateReverbW6 (ch : BitVec 6) : Statement (.readStateReverbW6 ch) := of_some rfl rfl (by decide)

theorem readStateReverbW7 (ch : BitVec 6) : Statement (.readStateReverbW7 ch) := of_some rfl rfl (by decide)

theorem readStateReverbW8 (ch : BitVec 6) : Statement (.readStateReverbW8 ch) := of_some rfl rfl (by decide)

theorem readStateReverbW9 (ch : BitVec 6) : Statement (.readStateReverbW9 ch) := of_some rfl rfl (by decide)

theorem readStateReverbW10 (ch : BitVec 6) : Statement (.readStateReverbW10 ch) := of_some rfl rfl (by decide)

theorem readStateReverbW11 (ch : BitVec 6) : Statement (.readStateReverbW11 ch) := of_some rfl rfl (by decide)

theorem readStateReverbW12 (ch : BitVec 6) : Statement (.readStateReverbW12 ch) := of_some rfl rfl (by decide)

theorem readStateReverbStValid (ch : BitVec 6) : Statement (.readStateReverbStValid ch) := of_some rfl rfl (by decide)

theorem readStateReverbMemBound (ch : BitVec 6) : Statement (.readStateReverbMemBound ch) := of_some rfl rfl (by decide)

theorem readStateReverbMemBase (ch : BitVec 6) : Statement (.readStateReverbMemBase ch) := of_some rfl rfl (by decide)

end Sys2Proof.Laws.WordShape
end

