-- ==== Sys2Proof/Laws/Reverb.lean ====
section
/-! SUPPORT. The reverb's output taps (45_reverb.md R391) for any REV_TABLE: what reading them answers, that their sum is the
one Safety.lean states, and what that sum is for the default table. -/

namespace Sys2Proof.Machine
open Sys2Proof.Config

@[simp] theorem RevTable.default_length (j : RevLine) : RevTable.default.length.get j = revLength j := by cases j <;> rfl

@[simp] theorem RevTable.default_tapL (x : TapIx) : RevTable.default.tapL.get x = Config.tapL x := by cases x <;> rfl

@[simp] theorem RevTable.default_tapR (x : TapIx) : RevTable.default.tapR.get x = Config.tapR x := by cases x <;> rfl

/-- Reading taps whose lines are ordinary memory answers each tap's sign and word, and changes nothing. -/
theorem readTaps_ok {s : State} {ch : Nat} {tap : PerTap RevTap} (k : PerTap Word) (ts : List TapIx)
    (h : ∀ x ∈ ts, LineOk s (.reverb ch (tap.get x).line) ∧ LinePlain s (.reverb ch (tap.get x).line)) :
    readTaps ch tap k ts s =
      .ok (ts.map fun x => ((tap.get x).plus, dlValue s (.reverb ch (tap.get x).line) (k.get x).toNat f0)) s := by
  induction ts with
  | nil => rfl
  | cons x ts ih =>
    obtain ⟨h1, h2⟩ := h x (by simp)
    unfold readTaps
    rw [engine_bind_ok (dlRead_ok h1 h2 _ _), engine_bind_ok (ih fun y hy => h y (by simp [hy]))]
    rfl

/-- The scaled sum of the taps, in their order, is `tapMix`. -/
theorem tapSum_mix (v : RevLine → Nat → F32) (tap : PerTap RevTap) (k : PerTap Word) :
    fMul f06 (tapSum (tapOrder.map fun x => ((tap.get x).plus, v (tap.get x).line (k.get x).toNat))) = tapMix v tap k := rfl

/-- The left output of the default table, as R391 writes it. -/
theorem tapMix_default_left (v : RevLine → Nat → F32) (k : PerTap Word) :
    tapMix v RevTable.default.tapL k =
      fMul 0x3F19999A#32 (fSub (fSub (fSub (fAdd (fSub (fAdd
        (v .dlR1 k.t0.toNat) (v .dlR1 k.t1.toNat)) (v .dd4 k.t2.toNat)) (v .dlR2 k.t3.toNat)) (v .dlL1 k.t4.toNat))
        (v .dd2 k.t5.toNat)) (v .dlL2 k.t6.toNat)) := by
  simp [tapMix, RevTable.default, PerTap.of, PerTap.get, Config.tapL]

/-- The right output of the default table, as R391 writes it. -/
theorem tapMix_default_right (v : RevLine → Nat → F32) (k : PerTap Word) :
    tapMix v RevTable.default.tapR k =
      fMul 0x3F19999A#32 (fSub (fSub (fSub (fAdd (fSub (fAdd
        (v .dlL1 k.t0.toNat) (v .dlL1 k.t1.toNat)) (v .dd2 k.t2.toNat)) (v .dlL2 k.t3.toNat)) (v .dlR1 k.t4.toNat))
        (v .dd4 k.t5.toNat)) (v .dlR2 k.t6.toNat)) := by
  simp [tapMix, RevTable.default, PerTap.of, PerTap.get, Config.tapR]

end Sys2Proof.Machine
end

