-- ==== Sys2Proof/Laws/Shape.lean ====
section
/-! SUPPORT. Every command is one of a few shapes: which shared computation it runs, and for the register reads and the
setters what they read and mark. A statement about every command is proved by these shapes. -/

namespace Sys2Proof.Machine
open Sys2Proof.Config

/-! ### The fields of a command of each opcode -/

@[simp] theorem opc_initOf (u : UnitId) : (initOf u).fields.opc = 0x01#6 := by cases u <;> rfl

@[simp] theorem unit_initOf (u : UnitId) : unitOfInstr (initOf u) = some u := by cases u <;> rfl

@[simp] theorem channel_initOf (u : UnitId) : (initOf u).channel = none := by cases u <;> rfl

@[simp] theorem opc_setSrOf (u : UnitId) : (setSrOf u).fields.opc = 0x02#6 := by cases u <;> rfl

@[simp] theorem unit_setSrOf (u : UnitId) : unitOfInstr (setSrOf u) = some u := by cases u <;> rfl

@[simp] theorem channel_setSrOf (u : UnitId) : (setSrOf u).channel = none := by cases u <;> rfl

@[simp] theorem opc_resetCoeffsOf (u : UnitId) : (resetCoeffsOf u).fields.opc = 0x03#6 := by cases u <;> rfl

@[simp] theorem unit_resetCoeffsOf (u : UnitId) : unitOfInstr (resetCoeffsOf u) = some u := by cases u <;> rfl

@[simp] theorem channel_resetCoeffsOf (u : UnitId) : (resetCoeffsOf u).channel = none := by cases u <;> rfl

@[simp] theorem opc_resetStateOf (u : UnitId) (ch : BitVec 6) : (resetStateOf u ch).fields.opc = 0x04#6 := by cases u <;> rfl

@[simp] theorem unit_resetStateOf (u : UnitId) (ch : BitVec 6) : unitOfInstr (resetStateOf u ch) = some u := by cases u <;> rfl

@[simp] theorem channel_resetStateOf (u : UnitId) (ch : BitVec 6) : (resetStateOf u ch).channel = some ch := by cases u <;> rfl

@[simp] theorem opc_updateCtrlOf (u : UnitId) : (updateCtrlOf u).fields.opc = 0x05#6 := by cases u <;> rfl

@[simp] theorem unit_updateCtrlOf (u : UnitId) : unitOfInstr (updateCtrlOf u) = some u := by cases u <;> rfl

@[simp] theorem channel_updateCtrlOf (u : UnitId) : (updateCtrlOf u).channel = none := by cases u <;> rfl

@[simp] theorem opc_updateAudioOf (u : UnitId) : (updateAudioOf u).fields.opc = 0x06#6 := by cases u <;> rfl

@[simp] theorem unit_updateAudioOf (u : UnitId) : unitOfInstr (updateAudioOf u) = some u := by cases u <;> rfl

@[simp] theorem channel_updateAudioOf (u : UnitId) : (updateAudioOf u).channel = none := by cases u <;> rfl

@[simp] theorem opc_process1Of (u : UnitId) (ch : BitVec 6) : (process1Of u ch).fields.opc = 0x07#6 := by cases u <;> rfl

@[simp] theorem unit_process1Of (u : UnitId) (ch : BitVec 6) : unitOfInstr (process1Of u ch) = some u := by cases u <;> rfl

@[simp] theorem channel_process1Of (u : UnitId) (ch : BitVec 6) : (process1Of u ch).channel = some ch := by cases u <;> rfl

@[simp] theorem opc_processOf (u : UnitId) (ch : BitVec 6) : (processOf u ch).fields.opc = 0x08#6 := by cases u <;> rfl

@[simp] theorem unit_processOf (u : UnitId) (ch : BitVec 6) : unitOfInstr (processOf u ch) = some u := by cases u <;> rfl

@[simp] theorem channel_processOf (u : UnitId) (ch : BitVec 6) : (processOf u ch).channel = some ch := by cases u <;> rfl

@[simp] theorem opc_processMultiOf (u : UnitId) : (processMultiOf u).fields.opc = 0x09#6 := by cases u <;> rfl

@[simp] theorem unit_processMultiOf (u : UnitId) : unitOfInstr (processMultiOf u) = some u := by cases u <;> rfl

@[simp] theorem channel_processMultiOf (u : UnitId) : (processMultiOf u).channel = none := by cases u <;> rfl

@[simp] theorem opc_memReqDelay : Instr.memReqDelay.fields.opc = 0x0B#6 := rfl

@[simp] theorem unit_memReqDelay : unitOfInstr .memReqDelay = some .delay := rfl

@[simp] theorem opc_memReqReverb : Instr.memReqReverb.fields.opc = 0x0B#6 := rfl

@[simp] theorem unit_memReqReverb : unitOfInstr .memReqReverb = some .reverb := rfl

@[simp] theorem opc_memSetDelay (ch : BitVec 6) : (Instr.memSetDelay ch).fields.opc = 0x0C#6 := rfl

@[simp] theorem unit_memSetDelay (ch : BitVec 6) : unitOfInstr (.memSetDelay ch) = some .delay := rfl

@[simp] theorem channel_memSetDelay (ch : BitVec 6) : (Instr.memSetDelay ch).channel = some ch := rfl

@[simp] theorem opc_memSetReverb (ch : BitVec 6) : (Instr.memSetReverb ch).fields.opc = 0x0C#6 := rfl

@[simp] theorem unit_memSetReverb (ch : BitVec 6) : unitOfInstr (.memSetReverb ch) = some .reverb := rfl

@[simp] theorem channel_memSetReverb (ch : BitVec 6) : (Instr.memSetReverb ch).channel = some ch := rfl

@[simp] theorem opc_delayReadDelay (ch : BitVec 6) : (Instr.delayReadDelay ch).fields.opc = 0x0D#6 := rfl

@[simp] theorem unit_delayReadDelay (ch : BitVec 6) : unitOfInstr (.delayReadDelay ch) = some .delay := rfl

@[simp] theorem channel_delayReadDelay (ch : BitVec 6) : (Instr.delayReadDelay ch).channel = some ch := rfl

@[simp] theorem opc_delayWriteDelay (ch : BitVec 6) : (Instr.delayWriteDelay ch).fields.opc = 0x0E#6 := rfl

@[simp] theorem unit_delayWriteDelay (ch : BitVec 6) : unitOfInstr (.delayWriteDelay ch) = some .delay := rfl

@[simp] theorem channel_delayWriteDelay (ch : BitVec 6) : (Instr.delayWriteDelay ch).channel = some ch := rfl

/-- The registers outside a parameter's own unit, and the layout of the arenas, do not depend on it. -/
structure WritesOnly (u : UnitId) (write : Word → Coefs → Coefs) : Prop where
  /-- No register of another unit is written. -/
  others : ∀ (s : State) (v : Word) (w : UnitId), w ≠ u → coefReg { s with coefs := write v s.coefs } w = coefReg s w
  /-- DELAY's derived registers are not written. -/
  delay : ∀ v c, (write v c).delay.len = c.delay.len ∧ (write v c).delay.memReq = c.delay.memReq
  /-- REVERB's derived registers are not written. -/
  reverb : ∀ v c, (write v c).reverb.cap = c.reverb.cap ∧ (write v c).reverb.off = c.reverb.off ∧
    (write v c).reverb.memReq = c.reverb.memReq ∧ (write v c).reverb.n = c.reverb.n

/-- A command and the computation it runs. -/
inductive CommandShape : Instr → Engine Unit → Prop where
  | nop : CommandShape .nop cmdNop
  | init (u : UnitId) : CommandShape (initOf u) (cmdInit u)
  | setSr (u : UnitId) : CommandShape (setSrOf u) (cmdSetSr u)
  | resetCoeffs (u : UnitId) : CommandShape (resetCoeffsOf u) (cmdResetCoeffs u)
  | resetState (u : UnitId) (ch : BitVec 6) : CommandShape (resetStateOf u ch) (cmdResetState u ch)
  | updateCtrl (u : UnitId) : CommandShape (updateCtrlOf u) (cmdUpdateCtrl u)
  | updateAudio (u : UnitId) : CommandShape (updateAudioOf u) (cmdUpdateAudio u)
  | process1 (u : UnitId) (ch : BitVec 6) : CommandShape (process1Of u ch) (cmdProcess1 u ch)
  | process (u : UnitId) (ch : BitVec 6) : CommandShape (processOf u ch) (cmdProcess u ch)
  | processMulti (u : UnitId) : CommandShape (processMultiOf u) (cmdProcessMulti u)
  | setParam (i : Instr) (u : UnitId) (ok : Word → Bool) (bits : Word) (write : Word → Coefs → Coefs)
      (opc : i.fields.opc = 0x0A#6) (unit : unitOfInstr i = some u) (mask : bits &&& ~~~allDirty u = 0)
      (only : WritesOnly u write) : CommandShape i (cmdSetParam u ok bits write)
  | memReqDelay : CommandShape .memReqDelay (cmdMemReq .delay)
  | memReqReverb : CommandShape .memReqReverb (cmdMemReq .reverb)
  | memSetDelay (ch : BitVec 6) : CommandShape (.memSetDelay ch) (cmdMemSet .delay ch)
  | memSetReverb (ch : BitVec 6) : CommandShape (.memSetReverb ch) (cmdMemSet .reverb ch)
  | delayRead (ch : BitVec 6) : CommandShape (.delayReadDelay ch) (cmdDelayRead ch)
  | delayWrite (ch : BitVec 6) : CommandShape (.delayWriteDelay ch) (cmdDelayWrite ch)
  | readCoef (i : Instr) (u : UnitId) (reg : State → Word) (opc : i.fields.opc = 0x0F#6) (unit : unitOfInstr i = some u)
      (reads : ∀ s, coefReg s u i.fields.sel = some (reg s)) : CommandShape i (cmdReadCoef reg)
  | readState (i : Instr) (u : UnitId) (ch : BitVec 6) (reg : State → Nat → Word) (opc : i.fields.opc = 0x10#6)
      (unit : unitOfInstr i = some u) (channel : i.channel = some ch)
      (reads : ∀ s ch, stateReg s u ch i.fields.sel = some (reg s ch)) : CommandShape i (cmdReadState ch reg)

/-- A command has a shape, and its meaning is that computation. -/
def HasShape (i : Instr) : Prop := ∃ e, CommandShape i e ∧ ∀ s, exec i s = runCommand i e s

theorem hasShape_setter {i : Instr} {u : UnitId} {ok : Word → Bool} {bits : Word} {write : Word → Coefs → Coefs}
    (hx : ∀ s, exec i s = runCommand i (cmdSetParam u ok bits write) s) (opc : i.fields.opc = 0x0A#6)
    (unit : unitOfInstr i = some u) (mask : bits &&& ~~~allDirty u = 0)
    (others : ∀ (s : State) (v : Word) (w : UnitId), w ≠ u →
      coefReg { s with coefs := write v s.coefs } w = coefReg s w)
    (delay : ∀ v c, (write v c).delay.len = c.delay.len ∧ (write v c).delay.memReq = c.delay.memReq)
    (reverb : ∀ v c, (write v c).reverb.cap = c.reverb.cap ∧ (write v c).reverb.off = c.reverb.off ∧
      (write v c).reverb.memReq = c.reverb.memReq ∧ (write v c).reverb.n = c.reverb.n) : HasShape i :=
  ⟨_, .setParam i u ok bits write opc unit mask ⟨others, delay, reverb⟩, hx⟩

/-! ### The setters -/

theorem shape_setParamOnepoleCutoff : HasShape .setParamOnepoleCutoff :=
  hasShape_setter (u := .onepole) (fun s => (rfl : exec .setParamOnepoleCutoff s = runCommand .setParamOnepoleCutoff (cmdSetParam .onepole okCutoff 0b0011 fun v c =>
    { c with onepole := { c.onepole with cutoffUp := v, cutoffDown := v } }) s)) rfl rfl (by decide)
    (fun _ _ w h => by cases w <;> first | rfl | exact absurd rfl h) (fun _ _ => ⟨rfl, rfl⟩)
    fun _ _ => ⟨rfl, rfl, rfl, rfl⟩

theorem shape_setParamOnepoleCutoffUp : HasShape .setParamOnepoleCutoffUp :=
  hasShape_setter (u := .onepole) (fun s => (rfl : exec .setParamOnepoleCutoffUp s = runCommand .setParamOnepoleCutoffUp (cmdSetParam .onepole okCutoff 0b0001 fun v c =>
    { c with onepole := { c.onepole with cutoffUp := v } }) s)) rfl rfl (by decide)
    (fun _ _ w h => by cases w <;> first | rfl | exact absurd rfl h) (fun _ _ => ⟨rfl, rfl⟩)
    fun _ _ => ⟨rfl, rfl, rfl, rfl⟩

theorem shape_setParamOnepoleCutoffDown : HasShape .setParamOnepoleCutoffDown :=
  hasShape_setter (u := .onepole) (fun s => (rfl : exec .setParamOnepoleCutoffDown s = runCommand .setParamOnepoleCutoffDown (cmdSetParam .onepole okCutoff 0b0010 fun v c =>
    { c with onepole := { c.onepole with cutoffDown := v } }) s)) rfl rfl (by decide)
    (fun _ _ w h => by cases w <;> first | rfl | exact absurd rfl h) (fun _ _ => ⟨rfl, rfl⟩)
    fun _ _ => ⟨rfl, rfl, rfl, rfl⟩

theorem shape_setParamOnepoleTau : HasShape .setParamOnepoleTau :=
  hasShape_setter (u := .onepole) (fun s => (rfl : exec .setParamOnepoleTau s = runCommand .setParamOnepoleTau (cmdSetParam .onepole okCutoff 0b0011 fun v c =>
    { c with onepole := { c.onepole with cutoffUp := tauCutoff v, cutoffDown := tauCutoff v } }) s)) rfl rfl (by decide)
    (fun _ _ w h => by cases w <;> first | rfl | exact absurd rfl h) (fun _ _ => ⟨rfl, rfl⟩)
    fun _ _ => ⟨rfl, rfl, rfl, rfl⟩

theorem shape_setParamOnepoleTauUp : HasShape .setParamOnepoleTauUp :=
  hasShape_setter (u := .onepole) (fun s => (rfl : exec .setParamOnepoleTauUp s = runCommand .setParamOnepoleTauUp (cmdSetParam .onepole okCutoff 0b0001 fun v c =>
    { c with onepole := { c.onepole with cutoffUp := tauCutoff v } }) s)) rfl rfl (by decide)
    (fun _ _ w h => by cases w <;> first | rfl | exact absurd rfl h) (fun _ _ => ⟨rfl, rfl⟩)
    fun _ _ => ⟨rfl, rfl, rfl, rfl⟩

theorem shape_setParamOnepoleTauDown : HasShape .setParamOnepoleTauDown :=
  hasShape_setter (u := .onepole) (fun s => (rfl : exec .setParamOnepoleTauDown s = runCommand .setParamOnepoleTauDown (cmdSetParam .onepole okCutoff 0b0010 fun v c =>
    { c with onepole := { c.onepole with cutoffDown := tauCutoff v } }) s)) rfl rfl (by decide)
    (fun _ _ w h => by cases w <;> first | rfl | exact absurd rfl h) (fun _ _ => ⟨rfl, rfl⟩)
    fun _ _ => ⟨rfl, rfl, rfl, rfl⟩

theorem shape_setParamOnepoleStickyThresh : HasShape .setParamOnepoleStickyThresh :=
  hasShape_setter (u := .onepole) (fun s => (rfl : exec .setParamOnepoleStickyThresh s = runCommand .setParamOnepoleStickyThresh (cmdSetParam .onepole okNonneg 0b0100 fun v c =>
    { c with onepole := { c.onepole with stickyThresh := v } }) s)) rfl rfl (by decide)
    (fun _ _ w h => by cases w <;> first | rfl | exact absurd rfl h) (fun _ _ => ⟨rfl, rfl⟩)
    fun _ _ => ⟨rfl, rfl, rfl, rfl⟩

theorem shape_setParamOnepoleStickyMode : HasShape .setParamOnepoleStickyMode :=
  hasShape_setter (u := .onepole) (fun s => (rfl : exec .setParamOnepoleStickyMode s = runCommand .setParamOnepoleStickyMode (cmdSetParam .onepole okFlag 0b1000 fun v c =>
    { c with onepole := { c.onepole with stickyMode := v } }) s)) rfl rfl (by decide)
    (fun _ _ w h => by cases w <;> first | rfl | exact absurd rfl h) (fun _ _ => ⟨rfl, rfl⟩)
    fun _ _ => ⟨rfl, rfl, rfl, rfl⟩

theorem shape_setParamMm1Cutoff : HasShape .setParamMm1Cutoff :=
  hasShape_setter (u := .mm1) (fun s => (rfl : exec .setParamMm1Cutoff s = runCommand .setParamMm1Cutoff (cmdSetParam .mm1 okNonneg 0b001 fun v c =>
    { c with mm1 := { c.mm1 with cutoff := v } }) s)) rfl rfl (by decide)
    (fun _ _ w h => by cases w <;> first | rfl | exact absurd rfl h) (fun _ _ => ⟨rfl, rfl⟩)
    fun _ _ => ⟨rfl, rfl, rfl, rfl⟩

theorem shape_setParamMm1PrewarpAtCutoff : HasShape .setParamMm1PrewarpAtCutoff :=
  hasShape_setter (u := .mm1) (fun s => (rfl : exec .setParamMm1PrewarpAtCutoff s = runCommand .setParamMm1PrewarpAtCutoff (cmdSetParam .mm1 okFlag 0b010 fun v c =>
    { c with mm1 := { c.mm1 with prewarpAtCutoff := v } }) s)) rfl rfl (by decide)
    (fun _ _ w h => by cases w <;> first | rfl | exact absurd rfl h) (fun _ _ => ⟨rfl, rfl⟩)
    fun _ _ => ⟨rfl, rfl, rfl, rfl⟩

theorem shape_setParamMm1PrewarpFreq : HasShape .setParamMm1PrewarpFreq :=
  hasShape_setter (u := .mm1) (fun s => (rfl : exec .setParamMm1PrewarpFreq s = runCommand .setParamMm1PrewarpFreq (cmdSetParam .mm1 okPositive 0b010 fun v c =>
    { c with mm1 := { c.mm1 with prewarpFreq := v } }) s)) rfl rfl (by decide)
    (fun _ _ w h => by cases w <;> first | rfl | exact absurd rfl h) (fun _ _ => ⟨rfl, rfl⟩)
    fun _ _ => ⟨rfl, rfl, rfl, rfl⟩

theorem shape_setParamMm1CoeffX : HasShape .setParamMm1CoeffX :=
  hasShape_setter (u := .mm1) (fun s => (rfl : exec .setParamMm1CoeffX s = runCommand .setParamMm1CoeffX (cmdSetParam .mm1 okFinite 0b100 fun v c =>
    { c with mm1 := { c.mm1 with coeffX := v } }) s)) rfl rfl (by decide)
    (fun _ _ w h => by cases w <;> first | rfl | exact absurd rfl h) (fun _ _ => ⟨rfl, rfl⟩)
    fun _ _ => ⟨rfl, rfl, rfl, rfl⟩

theorem shape_setParamMm1CoeffLp : HasShape .setParamMm1CoeffLp :=
  hasShape_setter (u := .mm1) (fun s => (rfl : exec .setParamMm1CoeffLp s = runCommand .setParamMm1CoeffLp (cmdSetParam .mm1 okFinite 0b100 fun v c =>
    { c with mm1 := { c.mm1 with coeffLp := v } }) s)) rfl rfl (by decide)
    (fun _ _ w h => by cases w <;> first | rfl | exact absurd rfl h) (fun _ _ => ⟨rfl, rfl⟩)
    fun _ _ => ⟨rfl, rfl, rfl, rfl⟩

theorem shape_setParamMm2Cutoff : HasShape .setParamMm2Cutoff :=
  hasShape_setter (u := .mm2) (fun s => (rfl : exec .setParamMm2Cutoff s = runCommand .setParamMm2Cutoff (cmdSetParam .mm2 okNonneg 0b0001 fun v c =>
    { c with mm2 := { c.mm2 with cutoff := v } }) s)) rfl rfl (by decide)
    (fun _ _ w h => by cases w <;> first | rfl | exact absurd rfl h) (fun _ _ => ⟨rfl, rfl⟩)
    fun _ _ => ⟨rfl, rfl, rfl, rfl⟩

theorem shape_setParamMm2Q : HasShape .setParamMm2Q :=
  hasShape_setter (u := .mm2) (fun s => (rfl : exec .setParamMm2Q s = runCommand .setParamMm2Q (cmdSetParam .mm2 okFinite 0b0010 fun v c =>
    { c with mm2 := { c.mm2 with q := v } }) s)) rfl rfl (by decide)
    (fun _ _ w h => by cases w <;> first | rfl | exact absurd rfl h) (fun _ _ => ⟨rfl, rfl⟩)
    fun _ _ => ⟨rfl, rfl, rfl, rfl⟩

theorem shape_setParamMm2PrewarpAtCutoff : HasShape .setParamMm2PrewarpAtCutoff :=
  hasShape_setter (u := .mm2) (fun s => (rfl : exec .setParamMm2PrewarpAtCutoff s = runCommand .setParamMm2PrewarpAtCutoff (cmdSetParam .mm2 okFlag 0b0100 fun v c =>
    { c with mm2 := { c.mm2 with prewarpAtCutoff := v } }) s)) rfl rfl (by decide)
    (fun _ _ w h => by cases w <;> first | rfl | exact absurd rfl h) (fun _ _ => ⟨rfl, rfl⟩)
    fun _ _ => ⟨rfl, rfl, rfl, rfl⟩

theorem shape_setParamMm2PrewarpFreq : HasShape .setParamMm2PrewarpFreq :=
  hasShape_setter (u := .mm2) (fun s => (rfl : exec .setParamMm2PrewarpFreq s = runCommand .setParamMm2PrewarpFreq (cmdSetParam .mm2 okPositive 0b0100 fun v c =>
    { c with mm2 := { c.mm2 with prewarpFreq := v } }) s)) rfl rfl (by decide)
    (fun _ _ w h => by cases w <;> first | rfl | exact absurd rfl h) (fun _ _ => ⟨rfl, rfl⟩)
    fun _ _ => ⟨rfl, rfl, rfl, rfl⟩

theorem shape_setParamMm2CoeffX : HasShape .setParamMm2CoeffX :=
  hasShape_setter (u := .mm2) (fun s => (rfl : exec .setParamMm2CoeffX s = runCommand .setParamMm2CoeffX (cmdSetParam .mm2 okFinite 0b1000 fun v c =>
    { c with mm2 := { c.mm2 with coeffX := v } }) s)) rfl rfl (by decide)
    (fun _ _ w h => by cases w <;> first | rfl | exact absurd rfl h) (fun _ _ => ⟨rfl, rfl⟩)
    fun _ _ => ⟨rfl, rfl, rfl, rfl⟩

theorem shape_setParamMm2CoeffLp : HasShape .setParamMm2CoeffLp :=
  hasShape_setter (u := .mm2) (fun s => (rfl : exec .setParamMm2CoeffLp s = runCommand .setParamMm2CoeffLp (cmdSetParam .mm2 okFinite 0b1000 fun v c =>
    { c with mm2 := { c.mm2 with coeffLp := v } }) s)) rfl rfl (by decide)
    (fun _ _ w h => by cases w <;> first | rfl | exact absurd rfl h) (fun _ _ => ⟨rfl, rfl⟩)
    fun _ _ => ⟨rfl, rfl, rfl, rfl⟩

theorem shape_setParamMm2CoeffBp : HasShape .setParamMm2CoeffBp :=
  hasShape_setter (u := .mm2) (fun s => (rfl : exec .setParamMm2CoeffBp s = runCommand .setParamMm2CoeffBp (cmdSetParam .mm2 okFinite 0b1000 fun v c =>
    { c with mm2 := { c.mm2 with coeffBp := v } }) s)) rfl rfl (by decide)
    (fun _ _ w h => by cases w <;> first | rfl | exact absurd rfl h) (fun _ _ => ⟨rfl, rfl⟩)
    fun _ _ => ⟨rfl, rfl, rfl, rfl⟩

theorem shape_setParamMm2CoeffHp : HasShape .setParamMm2CoeffHp :=
  hasShape_setter (u := .mm2) (fun s => (rfl : exec .setParamMm2CoeffHp s = runCommand .setParamMm2CoeffHp (cmdSetParam .mm2 okFinite 0b1000 fun v c =>
    { c with mm2 := { c.mm2 with coeffHp := v } }) s)) rfl rfl (by decide)
    (fun _ _ w h => by cases w <;> first | rfl | exact absurd rfl h) (fun _ _ => ⟨rfl, rfl⟩)
    fun _ _ => ⟨rfl, rfl, rfl, rfl⟩

theorem shape_setParamHp1Cutoff : HasShape .setParamHp1Cutoff :=
  hasShape_setter (u := .hp1) (fun s => (rfl : exec .setParamHp1Cutoff s = runCommand .setParamHp1Cutoff (cmdSetParam .hp1 okNonneg 0b01 fun v c =>
    { c with hp1 := { c.hp1 with cutoff := v } }) s)) rfl rfl (by decide)
    (fun _ _ w h => by cases w <;> first | rfl | exact absurd rfl h) (fun _ _ => ⟨rfl, rfl⟩)
    fun _ _ => ⟨rfl, rfl, rfl, rfl⟩

theorem shape_setParamHp1PrewarpAtCutoff : HasShape .setParamHp1PrewarpAtCutoff :=
  hasShape_setter (u := .hp1) (fun s => (rfl : exec .setParamHp1PrewarpAtCutoff s = runCommand .setParamHp1PrewarpAtCutoff (cmdSetParam .hp1 okFlag 0b10 fun v c =>
    { c with hp1 := { c.hp1 with prewarpAtCutoff := v } }) s)) rfl rfl (by decide)
    (fun _ _ w h => by cases w <;> first | rfl | exact absurd rfl h) (fun _ _ => ⟨rfl, rfl⟩)
    fun _ _ => ⟨rfl, rfl, rfl, rfl⟩

theorem shape_setParamHp1PrewarpFreq : HasShape .setParamHp1PrewarpFreq :=
  hasShape_setter (u := .hp1) (fun s => (rfl : exec .setParamHp1PrewarpFreq s = runCommand .setParamHp1PrewarpFreq (cmdSetParam .hp1 okPositive 0b10 fun v c =>
    { c with hp1 := { c.hp1 with prewarpFreq := v } }) s)) rfl rfl (by decide)
    (fun _ _ w h => by cases w <;> first | rfl | exact absurd rfl h) (fun _ _ => ⟨rfl, rfl⟩)
    fun _ _ => ⟨rfl, rfl, rfl, rfl⟩

theorem shape_setParamLs1Cutoff : HasShape .setParamLs1Cutoff :=
  hasShape_setter (u := .ls1) (fun s => (rfl : exec .setParamLs1Cutoff s = runCommand .setParamLs1Cutoff (cmdSetParam .ls1 okPositive 0b001 fun v c =>
    { c with ls1 := { c.ls1 with cutoff := v } }) s)) rfl rfl (by decide)
    (fun _ _ w h => by cases w <;> first | rfl | exact absurd rfl h) (fun _ _ => ⟨rfl, rfl⟩)
    fun _ _ => ⟨rfl, rfl, rfl, rfl⟩

theorem shape_setParamLs1DcGainLin : HasShape .setParamLs1DcGainLin :=
  hasShape_setter (u := .ls1) (fun s => (rfl : exec .setParamLs1DcGainLin s = runCommand .setParamLs1DcGainLin (cmdSetParam .ls1 okPositive 0b010 fun v c =>
    { c with ls1 := { c.ls1 with dcGainLin := v, gainIsDb := 0 } }) s)) rfl rfl (by decide)
    (fun _ _ w h => by cases w <;> first | rfl | exact absurd rfl h) (fun _ _ => ⟨rfl, rfl⟩)
    fun _ _ => ⟨rfl, rfl, rfl, rfl⟩

theorem shape_setParamLs1DcGainDb : HasShape .setParamLs1DcGainDb :=
  hasShape_setter (u := .ls1) (fun s => (rfl : exec .setParamLs1DcGainDb s = runCommand .setParamLs1DcGainDb (cmdSetParam .ls1 okDb 0b010 fun v c =>
    { c with ls1 := { c.ls1 with dcGainDb := v, gainIsDb := 1 } }) s)) rfl rfl (by decide)
    (fun _ _ w h => by cases w <;> first | rfl | exact absurd rfl h) (fun _ _ => ⟨rfl, rfl⟩)
    fun _ _ => ⟨rfl, rfl, rfl, rfl⟩

theorem shape_setParamLs1PrewarpAtCutoff : HasShape .setParamLs1PrewarpAtCutoff :=
  hasShape_setter (u := .ls1) (fun s => (rfl : exec .setParamLs1PrewarpAtCutoff s = runCommand .setParamLs1PrewarpAtCutoff (cmdSetParam .ls1 okFlag 0b100 fun v c =>
    { c with ls1 := { c.ls1 with prewarpAtCutoff := v } }) s)) rfl rfl (by decide)
    (fun _ _ w h => by cases w <;> first | rfl | exact absurd rfl h) (fun _ _ => ⟨rfl, rfl⟩)
    fun _ _ => ⟨rfl, rfl, rfl, rfl⟩

theorem shape_setParamLs1PrewarpFreq : HasShape .setParamLs1PrewarpFreq :=
  hasShape_setter (u := .ls1) (fun s => (rfl : exec .setParamLs1PrewarpFreq s = runCommand .setParamLs1PrewarpFreq (cmdSetParam .ls1 okPositive 0b100 fun v c =>
    { c with ls1 := { c.ls1 with prewarpFreq := v } }) s)) rfl rfl (by decide)
    (fun _ _ w h => by cases w <;> first | rfl | exact absurd rfl h) (fun _ _ => ⟨rfl, rfl⟩)
    fun _ _ => ⟨rfl, rfl, rfl, rfl⟩

theorem shape_setParamLs2Cutoff : HasShape .setParamLs2Cutoff :=
  hasShape_setter (u := .ls2) (fun s => (rfl : exec .setParamLs2Cutoff s = runCommand .setParamLs2Cutoff (cmdSetParam .ls2 okPositive 0b0001 fun v c =>
    { c with ls2 := { c.ls2 with cutoff := v } }) s)) rfl rfl (by decide)
    (fun _ _ w h => by cases w <;> first | rfl | exact absurd rfl h) (fun _ _ => ⟨rfl, rfl⟩)
    fun _ _ => ⟨rfl, rfl, rfl, rfl⟩

theorem shape_setParamLs2Q : HasShape .setParamLs2Q :=
  hasShape_setter (u := .ls2) (fun s => (rfl : exec .setParamLs2Q s = runCommand .setParamLs2Q (cmdSetParam .ls2 okFinite 0b0010 fun v c =>
    { c with ls2 := { c.ls2 with q := v } }) s)) rfl rfl (by decide)
    (fun _ _ w h => by cases w <;> first | rfl | exact absurd rfl h) (fun _ _ => ⟨rfl, rfl⟩)
    fun _ _ => ⟨rfl, rfl, rfl, rfl⟩

theorem shape_setParamLs2DcGainLin : HasShape .setParamLs2DcGainLin :=
  hasShape_setter (u := .ls2) (fun s => (rfl : exec .setParamLs2DcGainLin s = runCommand .setParamLs2DcGainLin (cmdSetParam .ls2 okPositive 0b0100 fun v c =>
    { c with ls2 := { c.ls2 with dcGainLin := v, gainIsDb := 0 } }) s)) rfl rfl (by decide)
    (fun _ _ w h => by cases w <;> first | rfl | exact absurd rfl h) (fun _ _ => ⟨rfl, rfl⟩)
    fun _ _ => ⟨rfl, rfl, rfl, rfl⟩

theorem shape_setParamLs2DcGainDb : HasShape .setParamLs2DcGainDb :=
  hasShape_setter (u := .ls2) (fun s => (rfl : exec .setParamLs2DcGainDb s = runCommand .setParamLs2DcGainDb (cmdSetParam .ls2 okDb 0b0100 fun v c =>
    { c with ls2 := { c.ls2 with dcGainDb := v, gainIsDb := 1 } }) s)) rfl rfl (by decide)
    (fun _ _ w h => by cases w <;> first | rfl | exact absurd rfl h) (fun _ _ => ⟨rfl, rfl⟩)
    fun _ _ => ⟨rfl, rfl, rfl, rfl⟩

theorem shape_setParamLs2PrewarpAtCutoff : HasShape .setParamLs2PrewarpAtCutoff :=
  hasShape_setter (u := .ls2) (fun s => (rfl : exec .setParamLs2PrewarpAtCutoff s = runCommand .setParamLs2PrewarpAtCutoff (cmdSetParam .ls2 okFlag 0b1000 fun v c =>
    { c with ls2 := { c.ls2 with prewarpAtCutoff := v } }) s)) rfl rfl (by decide)
    (fun _ _ w h => by cases w <;> first | rfl | exact absurd rfl h) (fun _ _ => ⟨rfl, rfl⟩)
    fun _ _ => ⟨rfl, rfl, rfl, rfl⟩

theorem shape_setParamLs2PrewarpFreq : HasShape .setParamLs2PrewarpFreq :=
  hasShape_setter (u := .ls2) (fun s => (rfl : exec .setParamLs2PrewarpFreq s = runCommand .setParamLs2PrewarpFreq (cmdSetParam .ls2 okPositive 0b1000 fun v c =>
    { c with ls2 := { c.ls2 with prewarpFreq := v } }) s)) rfl rfl (by decide)
    (fun _ _ w h => by cases w <;> first | rfl | exact absurd rfl h) (fun _ _ => ⟨rfl, rfl⟩)
    fun _ _ => ⟨rfl, rfl, rfl, rfl⟩

theorem shape_setParamAp2Cutoff : HasShape .setParamAp2Cutoff :=
  hasShape_setter (u := .ap2) (fun s => (rfl : exec .setParamAp2Cutoff s = runCommand .setParamAp2Cutoff (cmdSetParam .ap2 okNonneg 0b001 fun v c =>
    { c with ap2 := { c.ap2 with cutoff := v } }) s)) rfl rfl (by decide)
    (fun _ _ w h => by cases w <;> first | rfl | exact absurd rfl h) (fun _ _ => ⟨rfl, rfl⟩)
    fun _ _ => ⟨rfl, rfl, rfl, rfl⟩

theorem shape_setParamAp2Q : HasShape .setParamAp2Q :=
  hasShape_setter (u := .ap2) (fun s => (rfl : exec .setParamAp2Q s = runCommand .setParamAp2Q (cmdSetParam .ap2 okFinite 0b010 fun v c =>
    { c with ap2 := { c.ap2 with q := v } }) s)) rfl rfl (by decide)
    (fun _ _ w h => by cases w <;> first | rfl | exact absurd rfl h) (fun _ _ => ⟨rfl, rfl⟩)
    fun _ _ => ⟨rfl, rfl, rfl, rfl⟩

theorem shape_setParamAp2PrewarpAtCutoff : HasShape .setParamAp2PrewarpAtCutoff :=
  hasShape_setter (u := .ap2) (fun s => (rfl : exec .setParamAp2PrewarpAtCutoff s = runCommand .setParamAp2PrewarpAtCutoff (cmdSetParam .ap2 okFlag 0b100 fun v c =>
    { c with ap2 := { c.ap2 with prewarpAtCutoff := v } }) s)) rfl rfl (by decide)
    (fun _ _ w h => by cases w <;> first | rfl | exact absurd rfl h) (fun _ _ => ⟨rfl, rfl⟩)
    fun _ _ => ⟨rfl, rfl, rfl, rfl⟩

theorem shape_setParamAp2PrewarpFreq : HasShape .setParamAp2PrewarpFreq :=
  hasShape_setter (u := .ap2) (fun s => (rfl : exec .setParamAp2PrewarpFreq s = runCommand .setParamAp2PrewarpFreq (cmdSetParam .ap2 okPositive 0b100 fun v c =>
    { c with ap2 := { c.ap2 with prewarpFreq := v } }) s)) rfl rfl (by decide)
    (fun _ _ w h => by cases w <;> first | rfl | exact absurd rfl h) (fun _ _ => ⟨rfl, rfl⟩)
    fun _ _ => ⟨rfl, rfl, rfl, rfl⟩

theorem shape_setParamPeakCutoff : HasShape .setParamPeakCutoff :=
  hasShape_setter (u := .peak) (fun s => (rfl : exec .setParamPeakCutoff s = runCommand .setParamPeakCutoff (cmdSetParam .peak okNonneg 0b0001 fun v c =>
    { c with peak := { c.peak with cutoff := v } }) s)) rfl rfl (by decide)
    (fun _ _ w h => by cases w <;> first | rfl | exact absurd rfl h) (fun _ _ => ⟨rfl, rfl⟩)
    fun _ _ => ⟨rfl, rfl, rfl, rfl⟩

theorem shape_setParamPeakQ : HasShape .setParamPeakQ :=
  hasShape_setter (u := .peak) (fun s => (rfl : exec .setParamPeakQ s = runCommand .setParamPeakQ (cmdSetParam .peak okFinite 0b0010 fun v c =>
    { c with peak := { c.peak with q := v } }) s)) rfl rfl (by decide)
    (fun _ _ w h => by cases w <;> first | rfl | exact absurd rfl h) (fun _ _ => ⟨rfl, rfl⟩)
    fun _ _ => ⟨rfl, rfl, rfl, rfl⟩

theorem shape_setParamPeakPeakGainLin : HasShape .setParamPeakPeakGainLin :=
  hasShape_setter (u := .peak) (fun s => (rfl : exec .setParamPeakPeakGainLin s = runCommand .setParamPeakPeakGainLin (cmdSetParam .peak okPositive 0b0100 fun v c =>
    { c with peak := { c.peak with peakGainLin := v, gainIsDb := 0 } }) s)) rfl rfl (by decide)
    (fun _ _ w h => by cases w <;> first | rfl | exact absurd rfl h) (fun _ _ => ⟨rfl, rfl⟩)
    fun _ _ => ⟨rfl, rfl, rfl, rfl⟩

theorem shape_setParamPeakPeakGainDb : HasShape .setParamPeakPeakGainDb :=
  hasShape_setter (u := .peak) (fun s => (rfl : exec .setParamPeakPeakGainDb s = runCommand .setParamPeakPeakGainDb (cmdSetParam .peak okDb 0b0100 fun v c =>
    { c with peak := { c.peak with peakGainDb := v, gainIsDb := 1 } }) s)) rfl rfl (by decide)
    (fun _ _ w h => by cases w <;> first | rfl | exact absurd rfl h) (fun _ _ => ⟨rfl, rfl⟩)
    fun _ _ => ⟨rfl, rfl, rfl, rfl⟩

theorem shape_setParamPeakBandwidth : HasShape .setParamPeakBandwidth :=
  hasShape_setter (u := .peak) (fun s => (rfl : exec .setParamPeakBandwidth s = runCommand .setParamPeakBandwidth (cmdSetParam .peak okPositive 0b0010 fun v c =>
    { c with peak := { c.peak with bandwidth := v } }) s)) rfl rfl (by decide)
    (fun _ _ w h => by cases w <;> first | rfl | exact absurd rfl h) (fun _ _ => ⟨rfl, rfl⟩)
    fun _ _ => ⟨rfl, rfl, rfl, rfl⟩

theorem shape_setParamPeakUseBandwidth : HasShape .setParamPeakUseBandwidth :=
  hasShape_setter (u := .peak) (fun s => (rfl : exec .setParamPeakUseBandwidth s = runCommand .setParamPeakUseBandwidth (cmdSetParam .peak okFlag 0b0010 fun v c =>
    { c with peak := { c.peak with useBandwidth := v } }) s)) rfl rfl (by decide)
    (fun _ _ w h => by cases w <;> first | rfl | exact absurd rfl h) (fun _ _ => ⟨rfl, rfl⟩)
    fun _ _ => ⟨rfl, rfl, rfl, rfl⟩

theorem shape_setParamPeakPrewarpAtCutoff : HasShape .setParamPeakPrewarpAtCutoff :=
  hasShape_setter (u := .peak) (fun s => (rfl : exec .setParamPeakPrewarpAtCutoff s = runCommand .setParamPeakPrewarpAtCutoff (cmdSetParam .peak okFlag 0b1000 fun v c =>
    { c with peak := { c.peak with prewarpAtCutoff := v } }) s)) rfl rfl (by decide)
    (fun _ _ w h => by cases w <;> first | rfl | exact absurd rfl h) (fun _ _ => ⟨rfl, rfl⟩)
    fun _ _ => ⟨rfl, rfl, rfl, rfl⟩

theorem shape_setParamPeakPrewarpFreq : HasShape .setParamPeakPrewarpFreq :=
  hasShape_setter (u := .peak) (fun s => (rfl : exec .setParamPeakPrewarpFreq s = runCommand .setParamPeakPrewarpFreq (cmdSetParam .peak okPositive 0b1000 fun v c =>
    { c with peak := { c.peak with prewarpFreq := v } }) s)) rfl rfl (by decide)
    (fun _ _ w h => by cases w <;> first | rfl | exact absurd rfl h) (fun _ _ => ⟨rfl, rfl⟩)
    fun _ _ => ⟨rfl, rfl, rfl, rfl⟩

theorem shape_setParamDelayDelay : HasShape .setParamDelayDelay :=
  hasShape_setter (u := .delay) (fun s => (rfl : exec .setParamDelayDelay s = runCommand .setParamDelayDelay (cmdSetParam .delay okNonneg 0b1 fun v c =>
    { c with delay := { c.delay with delay := v } }) s)) rfl rfl (by decide)
    (fun _ _ w h => by cases w <;> first | rfl | exact absurd rfl h) (fun _ _ => ⟨rfl, rfl⟩)
    fun _ _ => ⟨rfl, rfl, rfl, rfl⟩

theorem shape_setParamReverbPredelay : HasShape .setParamReverbPredelay :=
  hasShape_setter (u := .reverb) (fun s => (rfl : exec .setParamReverbPredelay s = runCommand .setParamReverbPredelay (cmdSetParam .reverb okPredelay 0b0001 fun v c =>
    { c with reverb := { c.reverb with predelay := v } }) s)) rfl rfl (by decide)
    (fun _ _ w h => by cases w <;> first | rfl | exact absurd rfl h) (fun _ _ => ⟨rfl, rfl⟩)
    fun _ _ => ⟨rfl, rfl, rfl, rfl⟩

theorem shape_setParamReverbBandwidth : HasShape .setParamReverbBandwidth :=
  hasShape_setter (u := .reverb) (fun s => (rfl : exec .setParamReverbBandwidth s = runCommand .setParamReverbBandwidth (cmdSetParam .reverb okCutoff 0b0010 fun v c =>
    { c with reverb := { c.reverb with bandwidth := v } }) s)) rfl rfl (by decide)
    (fun _ _ w h => by cases w <;> first | rfl | exact absurd rfl h) (fun _ _ => ⟨rfl, rfl⟩)
    fun _ _ => ⟨rfl, rfl, rfl, rfl⟩

theorem shape_setParamReverbDamping : HasShape .setParamReverbDamping :=
  hasShape_setter (u := .reverb) (fun s => (rfl : exec .setParamReverbDamping s = runCommand .setParamReverbDamping (cmdSetParam .reverb okCutoff 0b0100 fun v c =>
    { c with reverb := { c.reverb with damping := v } }) s)) rfl rfl (by decide)
    (fun _ _ w h => by cases w <;> first | rfl | exact absurd rfl h) (fun _ _ => ⟨rfl, rfl⟩)
    fun _ _ => ⟨rfl, rfl, rfl, rfl⟩

theorem shape_setParamReverbDecay : HasShape .setParamReverbDecay :=
  hasShape_setter (u := .reverb) (fun s => (rfl : exec .setParamReverbDecay s = runCommand .setParamReverbDecay (cmdSetParam .reverb okDecay 0b1000 fun v c =>
    { c with reverb := { c.reverb with decay := v } }) s)) rfl rfl (by decide)
    (fun _ _ w h => by cases w <;> first | rfl | exact absurd rfl h) (fun _ _ => ⟨rfl, rfl⟩)
    fun _ _ => ⟨rfl, rfl, rfl, rfl⟩

/-! ### All commands -/

set_option maxRecDepth 8000 in
/-- Every command has a shape. -/
theorem exec_shape (i : Instr) : HasShape i := by
  match i with
  | .nop => exact ⟨_, .nop, fun _ => rfl⟩
  | .initOnepole => exact ⟨_, .init .onepole, exec_initOf .onepole⟩
  | .setSrOnepole => exact ⟨_, .setSr .onepole, exec_setSrOf .onepole⟩
  | .resetCoeffsOnepole => exact ⟨_, .resetCoeffs .onepole, exec_resetCoeffsOf .onepole⟩
  | .resetStateOnepole ch => exact ⟨_, .resetState .onepole ch, exec_resetStateOf .onepole ch⟩
  | .updateCtrlOnepole => exact ⟨_, .updateCtrl .onepole, exec_updateCtrlOf .onepole⟩
  | .updateAudioOnepole => exact ⟨_, .updateAudio .onepole, exec_updateAudioOf .onepole⟩
  | .process1Onepole ch => exact ⟨_, .process1 .onepole ch, exec_process1Of .onepole ch⟩
  | .processOnepole ch => exact ⟨_, .process .onepole ch, exec_processOf .onepole ch⟩
  | .processMultiOnepole => exact ⟨_, .processMulti .onepole, exec_processMultiOf .onepole⟩
  | .setParamOnepoleCutoff => exact shape_setParamOnepoleCutoff
  | .setParamOnepoleCutoffUp => exact shape_setParamOnepoleCutoffUp
  | .setParamOnepoleCutoffDown => exact shape_setParamOnepoleCutoffDown
  | .setParamOnepoleTau => exact shape_setParamOnepoleTau
  | .setParamOnepoleTauUp => exact shape_setParamOnepoleTauUp
  | .setParamOnepoleTauDown => exact shape_setParamOnepoleTauDown
  | .setParamOnepoleStickyThresh => exact shape_setParamOnepoleStickyThresh
  | .setParamOnepoleStickyMode => exact shape_setParamOnepoleStickyMode
  | .readCoefOnepoleCutoffUp => exact ⟨_, .readCoef _ .onepole _ rfl rfl fun _ => rfl, fun _ => rfl⟩
  | .readCoefOnepoleCutoffDown => exact ⟨_, .readCoef _ .onepole _ rfl rfl fun _ => rfl, fun _ => rfl⟩
  | .readCoefOnepoleStickyThresh => exact ⟨_, .readCoef _ .onepole _ rfl rfl fun _ => rfl, fun _ => rfl⟩
  | .readCoefOnepoleStickyMode => exact ⟨_, .readCoef _ .onepole _ rfl rfl fun _ => rfl, fun _ => rfl⟩
  | .readCoefOnepoleKExp => exact ⟨_, .readCoef _ .onepole _ rfl rfl fun _ => rfl, fun _ => rfl⟩
  | .readCoefOnepoleAUp => exact ⟨_, .readCoef _ .onepole _ rfl rfl fun _ => rfl, fun _ => rfl⟩
  | .readCoefOnepoleADown => exact ⟨_, .readCoef _ .onepole _ rfl rfl fun _ => rfl, fun _ => rfl⟩
  | .readCoefOnepoleSt2 => exact ⟨_, .readCoef _ .onepole _ rfl rfl fun _ => rfl, fun _ => rfl⟩
  | .readCoefOnepoleModeAct => exact ⟨_, .readCoef _ .onepole _ rfl rfl fun _ => rfl, fun _ => rfl⟩
  | .readCoefOnepoleLife => exact ⟨_, .readCoef _ .onepole _ rfl rfl fun _ => rfl, fun _ => rfl⟩
  | .readCoefOnepoleGen => exact ⟨_, .readCoef _ .onepole _ rfl rfl fun _ => rfl, fun _ => rfl⟩
  | .readCoefOnepoleFs => exact ⟨_, .readCoef _ .onepole _ rfl rfl fun _ => rfl, fun _ => rfl⟩
  | .readCoefOnepoleDirty => exact ⟨_, .readCoef _ .onepole _ rfl rfl fun _ => rfl, fun _ => rfl⟩
  | .readCoefOnepoleMemreq => exact ⟨_, .readCoef _ .onepole _ rfl rfl fun _ => rfl, fun _ => rfl⟩
  | .readStateOnepoleYZ1 ch => exact ⟨_, .readState _ .onepole ch _ rfl rfl rfl fun _ _ => rfl, fun _ => rfl⟩
  | .readStateOnepoleStValid ch => exact ⟨_, .readState _ .onepole ch _ rfl rfl rfl fun _ _ => rfl, fun _ => rfl⟩
  | .initMm1 => exact ⟨_, .init .mm1, exec_initOf .mm1⟩
  | .setSrMm1 => exact ⟨_, .setSr .mm1, exec_setSrOf .mm1⟩
  | .resetCoeffsMm1 => exact ⟨_, .resetCoeffs .mm1, exec_resetCoeffsOf .mm1⟩
  | .resetStateMm1 ch => exact ⟨_, .resetState .mm1 ch, exec_resetStateOf .mm1 ch⟩
  | .updateCtrlMm1 => exact ⟨_, .updateCtrl .mm1, exec_updateCtrlOf .mm1⟩
  | .updateAudioMm1 => exact ⟨_, .updateAudio .mm1, exec_updateAudioOf .mm1⟩
  | .process1Mm1 ch => exact ⟨_, .process1 .mm1 ch, exec_process1Of .mm1 ch⟩
  | .processMm1 ch => exact ⟨_, .process .mm1 ch, exec_processOf .mm1 ch⟩
  | .processMultiMm1 => exact ⟨_, .processMulti .mm1, exec_processMultiOf .mm1⟩
  | .setParamMm1Cutoff => exact shape_setParamMm1Cutoff
  | .setParamMm1PrewarpAtCutoff => exact shape_setParamMm1PrewarpAtCutoff
  | .setParamMm1PrewarpFreq => exact shape_setParamMm1PrewarpFreq
  | .setParamMm1CoeffX => exact shape_setParamMm1CoeffX
  | .setParamMm1CoeffLp => exact shape_setParamMm1CoeffLp
  | .readCoefMm1Cutoff => exact ⟨_, .readCoef _ .mm1 _ rfl rfl fun _ => rfl, fun _ => rfl⟩
  | .readCoefMm1PrewarpAtCutoff => exact ⟨_, .readCoef _ .mm1 _ rfl rfl fun _ => rfl, fun _ => rfl⟩
  | .readCoefMm1PrewarpFreq => exact ⟨_, .readCoef _ .mm1 _ rfl rfl fun _ => rfl, fun _ => rfl⟩
  | .readCoefMm1CoeffX => exact ⟨_, .readCoef _ .mm1 _ rfl rfl fun _ => rfl, fun _ => rfl⟩
  | .readCoefMm1CoeffLp => exact ⟨_, .readCoef _ .mm1 _ rfl rfl fun _ => rfl, fun _ => rfl⟩
  | .readCoefMm1KPi => exact ⟨_, .readCoef _ .mm1 _ rfl rfl fun _ => rfl, fun _ => rfl⟩
  | .readCoefMm1G => exact ⟨_, .readCoef _ .mm1 _ rfl rfl fun _ => rfl, fun _ => rfl⟩
  | .readCoefMm1G1 => exact ⟨_, .readCoef _ .mm1 _ rfl rfl fun _ => rfl, fun _ => rfl⟩
  | .readCoefMm1CxAct => exact ⟨_, .readCoef _ .mm1 _ rfl rfl fun _ => rfl, fun _ => rfl⟩
  | .readCoefMm1ClpAct => exact ⟨_, .readCoef _ .mm1 _ rfl rfl fun _ => rfl, fun _ => rfl⟩
  | .readCoefMm1Life => exact ⟨_, .readCoef _ .mm1 _ rfl rfl fun _ => rfl, fun _ => rfl⟩
  | .readCoefMm1Gen => exact ⟨_, .readCoef _ .mm1 _ rfl rfl fun _ => rfl, fun _ => rfl⟩
  | .readCoefMm1Fs => exact ⟨_, .readCoef _ .mm1 _ rfl rfl fun _ => rfl, fun _ => rfl⟩
  | .readCoefMm1Dirty => exact ⟨_, .readCoef _ .mm1 _ rfl rfl fun _ => rfl, fun _ => rfl⟩
  | .readCoefMm1Memreq => exact ⟨_, .readCoef _ .mm1 _ rfl rfl fun _ => rfl, fun _ => rfl⟩
  | .readStateMm1S ch => exact ⟨_, .readState _ .mm1 ch _ rfl rfl rfl fun _ _ => rfl, fun _ => rfl⟩
  | .readStateMm1StValid ch => exact ⟨_, .readState _ .mm1 ch _ rfl rfl rfl fun _ _ => rfl, fun _ => rfl⟩
  | .initMm2 => exact ⟨_, .init .mm2, exec_initOf .mm2⟩
  | .setSrMm2 => exact ⟨_, .setSr .mm2, exec_setSrOf .mm2⟩
  | .resetCoeffsMm2 => exact ⟨_, .resetCoeffs .mm2, exec_resetCoeffsOf .mm2⟩
  | .resetStateMm2 ch => exact ⟨_, .resetState .mm2 ch, exec_resetStateOf .mm2 ch⟩
  | .updateCtrlMm2 => exact ⟨_, .updateCtrl .mm2, exec_updateCtrlOf .mm2⟩
  | .updateAudioMm2 => exact ⟨_, .updateAudio .mm2, exec_updateAudioOf .mm2⟩
  | .process1Mm2 ch => exact ⟨_, .process1 .mm2 ch, exec_process1Of .mm2 ch⟩
  | .processMm2 ch => exact ⟨_, .process .mm2 ch, exec_processOf .mm2 ch⟩
  | .processMultiMm2 => exact ⟨_, .processMulti .mm2, exec_processMultiOf .mm2⟩
  | .setParamMm2Cutoff => exact shape_setParamMm2Cutoff
  | .setParamMm2Q => exact shape_setParamMm2Q
  | .setParamMm2PrewarpAtCutoff => exact shape_setParamMm2PrewarpAtCutoff
  | .setParamMm2PrewarpFreq => exact shape_setParamMm2PrewarpFreq
  | .setParamMm2CoeffX => exact shape_setParamMm2CoeffX
  | .setParamMm2CoeffLp => exact shape_setParamMm2CoeffLp
  | .setParamMm2CoeffBp => exact shape_setParamMm2CoeffBp
  | .setParamMm2CoeffHp => exact shape_setParamMm2CoeffHp
  | .readCoefMm2Cutoff => exact ⟨_, .readCoef _ .mm2 _ rfl rfl fun _ => rfl, fun _ => rfl⟩
  | .readCoefMm2Q => exact ⟨_, .readCoef _ .mm2 _ rfl rfl fun _ => rfl, fun _ => rfl⟩
  | .readCoefMm2PrewarpAtCutoff => exact ⟨_, .readCoef _ .mm2 _ rfl rfl fun _ => rfl, fun _ => rfl⟩
  | .readCoefMm2PrewarpFreq => exact ⟨_, .readCoef _ .mm2 _ rfl rfl fun _ => rfl, fun _ => rfl⟩
  | .readCoefMm2CoeffX => exact ⟨_, .readCoef _ .mm2 _ rfl rfl fun _ => rfl, fun _ => rfl⟩
  | .readCoefMm2CoeffLp => exact ⟨_, .readCoef _ .mm2 _ rfl rfl fun _ => rfl, fun _ => rfl⟩
  | .readCoefMm2CoeffBp => exact ⟨_, .readCoef _ .mm2 _ rfl rfl fun _ => rfl, fun _ => rfl⟩
  | .readCoefMm2CoeffHp => exact ⟨_, .readCoef _ .mm2 _ rfl rfl fun _ => rfl, fun _ => rfl⟩
  | .readCoefMm2KPi => exact ⟨_, .readCoef _ .mm2 _ rfl rfl fun _ => rfl, fun _ => rfl⟩
  | .readCoefMm2G => exact ⟨_, .readCoef _ .mm2 _ rfl rfl fun _ => rfl, fun _ => rfl⟩
  | .readCoefMm2K => exact ⟨_, .readCoef _ .mm2 _ rfl rfl fun _ => rfl, fun _ => rfl⟩
  | .readCoefMm2Gk => exact ⟨_, .readCoef _ .mm2 _ rfl rfl fun _ => rfl, fun _ => rfl⟩
  | .readCoefMm2HpD => exact ⟨_, .readCoef _ .mm2 _ rfl rfl fun _ => rfl, fun _ => rfl⟩
  | .readCoefMm2CxAct => exact ⟨_, .readCoef _ .mm2 _ rfl rfl fun _ => rfl, fun _ => rfl⟩
  | .readCoefMm2ClpAct => exact ⟨_, .readCoef _ .mm2 _ rfl rfl fun _ => rfl, fun _ => rfl⟩
  | .readCoefMm2CbpAct => exact ⟨_, .readCoef _ .mm2 _ rfl rfl fun _ => rfl, fun _ => rfl⟩
  | .readCoefMm2ChpAct => exact ⟨_, .readCoef _ .mm2 _ rfl rfl fun _ => rfl, fun _ => rfl⟩
  | .readCoefMm2Life => exact ⟨_, .readCoef _ .mm2 _ rfl rfl fun _ => rfl, fun _ => rfl⟩
  | .readCoefMm2Gen => exact ⟨_, .readCoef _ .mm2 _ rfl rfl fun _ => rfl, fun _ => rfl⟩
  | .readCoefMm2Fs => exact ⟨_, .readCoef _ .mm2 _ rfl rfl fun _ => rfl, fun _ => rfl⟩
  | .readCoefMm2Dirty => exact ⟨_, .readCoef _ .mm2 _ rfl rfl fun _ => rfl, fun _ => rfl⟩
  | .readCoefMm2Memreq => exact ⟨_, .readCoef _ .mm2 _ rfl rfl fun _ => rfl, fun _ => rfl⟩
  | .readStateMm2S1 ch => exact ⟨_, .readState _ .mm2 ch _ rfl rfl rfl fun _ _ => rfl, fun _ => rfl⟩
  | .readStateMm2S2 ch => exact ⟨_, .readState _ .mm2 ch _ rfl rfl rfl fun _ _ => rfl, fun _ => rfl⟩
  | .readStateMm2StValid ch => exact ⟨_, .readState _ .mm2 ch _ rfl rfl rfl fun _ _ => rfl, fun _ => rfl⟩
  | .initHp1 => exact ⟨_, .init .hp1, exec_initOf .hp1⟩
  | .setSrHp1 => exact ⟨_, .setSr .hp1, exec_setSrOf .hp1⟩
  | .resetCoeffsHp1 => exact ⟨_, .resetCoeffs .hp1, exec_resetCoeffsOf .hp1⟩
  | .resetStateHp1 ch => exact ⟨_, .resetState .hp1 ch, exec_resetStateOf .hp1 ch⟩
  | .updateCtrlHp1 => exact ⟨_, .updateCtrl .hp1, exec_updateCtrlOf .hp1⟩
  | .updateAudioHp1 => exact ⟨_, .updateAudio .hp1, exec_updateAudioOf .hp1⟩
  | .process1Hp1 ch => exact ⟨_, .process1 .hp1 ch, exec_process1Of .hp1 ch⟩
  | .processHp1 ch => exact ⟨_, .process .hp1 ch, exec_processOf .hp1 ch⟩
  | .processMultiHp1 => exact ⟨_, .processMulti .hp1, exec_processMultiOf .hp1⟩
  | .setParamHp1Cutoff => exact shape_setParamHp1Cutoff
  | .setParamHp1PrewarpAtCutoff => exact shape_setParamHp1PrewarpAtCutoff
  | .setParamHp1PrewarpFreq => exact shape_setParamHp1PrewarpFreq
  | .readCoefHp1Cutoff => exact ⟨_, .readCoef _ .hp1 _ rfl rfl fun _ => rfl, fun _ => rfl⟩
  | .readCoefHp1PrewarpAtCutoff => exact ⟨_, .readCoef _ .hp1 _ rfl rfl fun _ => rfl, fun _ => rfl⟩
  | .readCoefHp1PrewarpFreq => exact ⟨_, .readCoef _ .hp1 _ rfl rfl fun _ => rfl, fun _ => rfl⟩
  | .readCoefHp1InnerCutoff => exact ⟨_, .readCoef _ .hp1 _ rfl rfl fun _ => rfl, fun _ => rfl⟩
  | .readCoefHp1InnerPrewarpAtCutoff => exact ⟨_, .readCoef _ .hp1 _ rfl rfl fun _ => rfl, fun _ => rfl⟩
  | .readCoefHp1InnerPrewarpFreq => exact ⟨_, .readCoef _ .hp1 _ rfl rfl fun _ => rfl, fun _ => rfl⟩
  | .readCoefHp1InnerCoeffX => exact ⟨_, .readCoef _ .hp1 _ rfl rfl fun _ => rfl, fun _ => rfl⟩
  | .readCoefHp1InnerCoeffLp => exact ⟨_, .readCoef _ .hp1 _ rfl rfl fun _ => rfl, fun _ => rfl⟩
  | .readCoefHp1InnerKPi => exact ⟨_, .readCoef _ .hp1 _ rfl rfl fun _ => rfl, fun _ => rfl⟩
  | .readCoefHp1InnerG => exact ⟨_, .readCoef _ .hp1 _ rfl rfl fun _ => rfl, fun _ => rfl⟩
  | .readCoefHp1InnerG1 => exact ⟨_, .readCoef _ .hp1 _ rfl rfl fun _ => rfl, fun _ => rfl⟩
  | .readCoefHp1InnerCxAct => exact ⟨_, .readCoef _ .hp1 _ rfl rfl fun _ => rfl, fun _ => rfl⟩
  | .readCoefHp1InnerClpAct => exact ⟨_, .readCoef _ .hp1 _ rfl rfl fun _ => rfl, fun _ => rfl⟩
  | .readCoefHp1InnerDirty => exact ⟨_, .readCoef _ .hp1 _ rfl rfl fun _ => rfl, fun _ => rfl⟩
  | .readCoefHp1Life => exact ⟨_, .readCoef _ .hp1 _ rfl rfl fun _ => rfl, fun _ => rfl⟩
  | .readCoefHp1Gen => exact ⟨_, .readCoef _ .hp1 _ rfl rfl fun _ => rfl, fun _ => rfl⟩
  | .readCoefHp1Fs => exact ⟨_, .readCoef _ .hp1 _ rfl rfl fun _ => rfl, fun _ => rfl⟩
  | .readCoefHp1Dirty => exact ⟨_, .readCoef _ .hp1 _ rfl rfl fun _ => rfl, fun _ => rfl⟩
  | .readCoefHp1Memreq => exact ⟨_, .readCoef _ .hp1 _ rfl rfl fun _ => rfl, fun _ => rfl⟩
  | .readStateHp1S ch => exact ⟨_, .readState _ .hp1 ch _ rfl rfl rfl fun _ _ => rfl, fun _ => rfl⟩
  | .readStateHp1StValid ch => exact ⟨_, .readState _ .hp1 ch _ rfl rfl rfl fun _ _ => rfl, fun _ => rfl⟩
  | .initLs1 => exact ⟨_, .init .ls1, exec_initOf .ls1⟩
  | .setSrLs1 => exact ⟨_, .setSr .ls1, exec_setSrOf .ls1⟩
  | .resetCoeffsLs1 => exact ⟨_, .resetCoeffs .ls1, exec_resetCoeffsOf .ls1⟩
  | .resetStateLs1 ch => exact ⟨_, .resetState .ls1 ch, exec_resetStateOf .ls1 ch⟩
  | .updateCtrlLs1 => exact ⟨_, .updateCtrl .ls1, exec_updateCtrlOf .ls1⟩
  | .updateAudioLs1 => exact ⟨_, .updateAudio .ls1, exec_updateAudioOf .ls1⟩
  | .process1Ls1 ch => exact ⟨_, .process1 .ls1 ch, exec_process1Of .ls1 ch⟩
  | .processLs1 ch => exact ⟨_, .process .ls1 ch, exec_processOf .ls1 ch⟩
  | .processMultiLs1 => exact ⟨_, .processMulti .ls1, exec_processMultiOf .ls1⟩
  | .setParamLs1Cutoff => exact shape_setParamLs1Cutoff
  | .setParamLs1DcGainLin => exact shape_setParamLs1DcGainLin
  | .setParamLs1DcGainDb => exact shape_setParamLs1DcGainDb
  | .setParamLs1PrewarpAtCutoff => exact shape_setParamLs1PrewarpAtCutoff
  | .setParamLs1PrewarpFreq => exact shape_setParamLs1PrewarpFreq
  | .readCoefLs1Cutoff => exact ⟨_, .readCoef _ .ls1 _ rfl rfl fun _ => rfl, fun _ => rfl⟩
  | .readCoefLs1DcGainLin => exact ⟨_, .readCoef _ .ls1 _ rfl rfl fun _ => rfl, fun _ => rfl⟩
  | .readCoefLs1DcGainDb => exact ⟨_, .readCoef _ .ls1 _ rfl rfl fun _ => rfl, fun _ => rfl⟩
  | .readCoefLs1PrewarpAtCutoff => exact ⟨_, .readCoef _ .ls1 _ rfl rfl fun _ => rfl, fun _ => rfl⟩
  | .readCoefLs1PrewarpFreq => exact ⟨_, .readCoef _ .ls1 _ rfl rfl fun _ => rfl, fun _ => rfl⟩
  | .readCoefLs1GainIsDb => exact ⟨_, .readCoef _ .ls1 _ rfl rfl fun _ => rfl, fun _ => rfl⟩
  | .readCoefLs1G => exact ⟨_, .readCoef _ .ls1 _ rfl rfl fun _ => rfl, fun _ => rfl⟩
  | .readCoefLs1InnerCutoff => exact ⟨_, .readCoef _ .ls1 _ rfl rfl fun _ => rfl, fun _ => rfl⟩
  | .readCoefLs1InnerPrewarpAtCutoff => exact ⟨_, .readCoef _ .ls1 _ rfl rfl fun _ => rfl, fun _ => rfl⟩
  | .readCoefLs1InnerPrewarpFreq => exact ⟨_, .readCoef _ .ls1 _ rfl rfl fun _ => rfl, fun _ => rfl⟩
  | .readCoefLs1InnerCoeffX => exact ⟨_, .readCoef _ .ls1 _ rfl rfl fun _ => rfl, fun _ => rfl⟩
  | .readCoefLs1InnerCoeffLp => exact ⟨_, .readCoef _ .ls1 _ rfl rfl fun _ => rfl, fun _ => rfl⟩
  | .readCoefLs1InnerKPi => exact ⟨_, .readCoef _ .ls1 _ rfl rfl fun _ => rfl, fun _ => rfl⟩
  | .readCoefLs1InnerG => exact ⟨_, .readCoef _ .ls1 _ rfl rfl fun _ => rfl, fun _ => rfl⟩
  | .readCoefLs1InnerG1 => exact ⟨_, .readCoef _ .ls1 _ rfl rfl fun _ => rfl, fun _ => rfl⟩
  | .readCoefLs1InnerCxAct => exact ⟨_, .readCoef _ .ls1 _ rfl rfl fun _ => rfl, fun _ => rfl⟩
  | .readCoefLs1InnerClpAct => exact ⟨_, .readCoef _ .ls1 _ rfl rfl fun _ => rfl, fun _ => rfl⟩
  | .readCoefLs1InnerDirty => exact ⟨_, .readCoef _ .ls1 _ rfl rfl fun _ => rfl, fun _ => rfl⟩
  | .readCoefLs1Life => exact ⟨_, .readCoef _ .ls1 _ rfl rfl fun _ => rfl, fun _ => rfl⟩
  | .readCoefLs1Gen => exact ⟨_, .readCoef _ .ls1 _ rfl rfl fun _ => rfl, fun _ => rfl⟩
  | .readCoefLs1Fs => exact ⟨_, .readCoef _ .ls1 _ rfl rfl fun _ => rfl, fun _ => rfl⟩
  | .readCoefLs1Dirty => exact ⟨_, .readCoef _ .ls1 _ rfl rfl fun _ => rfl, fun _ => rfl⟩
  | .readCoefLs1Memreq => exact ⟨_, .readCoef _ .ls1 _ rfl rfl fun _ => rfl, fun _ => rfl⟩
  | .readStateLs1S ch => exact ⟨_, .readState _ .ls1 ch _ rfl rfl rfl fun _ _ => rfl, fun _ => rfl⟩
  | .readStateLs1StValid ch => exact ⟨_, .readState _ .ls1 ch _ rfl rfl rfl fun _ _ => rfl, fun _ => rfl⟩
  | .initLs2 => exact ⟨_, .init .ls2, exec_initOf .ls2⟩
  | .setSrLs2 => exact ⟨_, .setSr .ls2, exec_setSrOf .ls2⟩
  | .resetCoeffsLs2 => exact ⟨_, .resetCoeffs .ls2, exec_resetCoeffsOf .ls2⟩
  | .resetStateLs2 ch => exact ⟨_, .resetState .ls2 ch, exec_resetStateOf .ls2 ch⟩
  | .updateCtrlLs2 => exact ⟨_, .updateCtrl .ls2, exec_updateCtrlOf .ls2⟩
  | .updateAudioLs2 => exact ⟨_, .updateAudio .ls2, exec_updateAudioOf .ls2⟩
  | .process1Ls2 ch => exact ⟨_, .process1 .ls2 ch, exec_process1Of .ls2 ch⟩
  | .processLs2 ch => exact ⟨_, .process .ls2 ch, exec_processOf .ls2 ch⟩
  | .processMultiLs2 => exact ⟨_, .processMulti .ls2, exec_processMultiOf .ls2⟩
  | .setParamLs2Cutoff => exact shape_setParamLs2Cutoff
  | .setParamLs2Q => exact shape_setParamLs2Q
  | .setParamLs2DcGainLin => exact shape_setParamLs2DcGainLin
  | .setParamLs2DcGainDb => exact shape_setParamLs2DcGainDb
  | .setParamLs2PrewarpAtCutoff => exact shape_setParamLs2PrewarpAtCutoff
  | .setParamLs2PrewarpFreq => exact shape_setParamLs2PrewarpFreq
  | .readCoefLs2Cutoff => exact ⟨_, .readCoef _ .ls2 _ rfl rfl fun _ => rfl, fun _ => rfl⟩
  | .readCoefLs2Q => exact ⟨_, .readCoef _ .ls2 _ rfl rfl fun _ => rfl, fun _ => rfl⟩
  | .readCoefLs2DcGainLin => exact ⟨_, .readCoef _ .ls2 _ rfl rfl fun _ => rfl, fun _ => rfl⟩
  | .readCoefLs2DcGainDb => exact ⟨_, .readCoef _ .ls2 _ rfl rfl fun _ => rfl, fun _ => rfl⟩
  | .readCoefLs2PrewarpAtCutoff => exact ⟨_, .readCoef _ .ls2 _ rfl rfl fun _ => rfl, fun _ => rfl⟩
  | .readCoefLs2PrewarpFreq => exact ⟨_, .readCoef _ .ls2 _ rfl rfl fun _ => rfl, fun _ => rfl⟩
  | .readCoefLs2GainIsDb => exact ⟨_, .readCoef _ .ls2 _ rfl rfl fun _ => rfl, fun _ => rfl⟩
  | .readCoefLs2G => exact ⟨_, .readCoef _ .ls2 _ rfl rfl fun _ => rfl, fun _ => rfl⟩
  | .readCoefLs2Ki => exact ⟨_, .readCoef _ .ls2 _ rfl rfl fun _ => rfl, fun _ => rfl⟩
  | .readCoefLs2InnerCutoff => exact ⟨_, .readCoef _ .ls2 _ rfl rfl fun _ => rfl, fun _ => rfl⟩
  | .readCoefLs2InnerQ => exact ⟨_, .readCoef _ .ls2 _ rfl rfl fun _ => rfl, fun _ => rfl⟩
  | .readCoefLs2InnerPrewarpAtCutoff => exact ⟨_, .readCoef _ .ls2 _ rfl rfl fun _ => rfl, fun _ => rfl⟩
  | .readCoefLs2InnerPrewarpFreq => exact ⟨_, .readCoef _ .ls2 _ rfl rfl fun _ => rfl, fun _ => rfl⟩
  | .readCoefLs2InnerCoeffX => exact ⟨_, .readCoef _ .ls2 _ rfl rfl fun _ => rfl, fun _ => rfl⟩
  | .readCoefLs2InnerCoeffLp => exact ⟨_, .readCoef _ .ls2 _ rfl rfl fun _ => rfl, fun _ => rfl⟩
  | .readCoefLs2InnerCoeffBp => exact ⟨_, .readCoef _ .ls2 _ rfl rfl fun _ => rfl, fun _ => rfl⟩
  | .readCoefLs2InnerCoeffHp => exact ⟨_, .readCoef _ .ls2 _ rfl rfl fun _ => rfl, fun _ => rfl⟩
  | .readCoefLs2InnerKPi => exact ⟨_, .readCoef _ .ls2 _ rfl rfl fun _ => rfl, fun _ => rfl⟩
  | .readCoefLs2InnerG => exact ⟨_, .readCoef _ .ls2 _ rfl rfl fun _ => rfl, fun _ => rfl⟩
  | .readCoefLs2InnerK => exact ⟨_, .readCoef _ .ls2 _ rfl rfl fun _ => rfl, fun _ => rfl⟩
  | .readCoefLs2InnerGk => exact ⟨_, .readCoef _ .ls2 _ rfl rfl fun _ => rfl, fun _ => rfl⟩
  | .readCoefLs2InnerHpD => exact ⟨_, .readCoef _ .ls2 _ rfl rfl fun _ => rfl, fun _ => rfl⟩
  | .readCoefLs2InnerCxAct => exact ⟨_, .readCoef _ .ls2 _ rfl rfl fun _ => rfl, fun _ => rfl⟩
  | .readCoefLs2InnerClpAct => exact ⟨_, .readCoef _ .ls2 _ rfl rfl fun _ => rfl, fun _ => rfl⟩
  | .readCoefLs2InnerCbpAct => exact ⟨_, .readCoef _ .ls2 _ rfl rfl fun _ => rfl, fun _ => rfl⟩
  | .readCoefLs2InnerChpAct => exact ⟨_, .readCoef _ .ls2 _ rfl rfl fun _ => rfl, fun _ => rfl⟩
  | .readCoefLs2InnerDirty => exact ⟨_, .readCoef _ .ls2 _ rfl rfl fun _ => rfl, fun _ => rfl⟩
  | .readCoefLs2Life => exact ⟨_, .readCoef _ .ls2 _ rfl rfl fun _ => rfl, fun _ => rfl⟩
  | .readCoefLs2Gen => exact ⟨_, .readCoef _ .ls2 _ rfl rfl fun _ => rfl, fun _ => rfl⟩
  | .readCoefLs2Fs => exact ⟨_, .readCoef _ .ls2 _ rfl rfl fun _ => rfl, fun _ => rfl⟩
  | .readCoefLs2Dirty => exact ⟨_, .readCoef _ .ls2 _ rfl rfl fun _ => rfl, fun _ => rfl⟩
  | .readCoefLs2Memreq => exact ⟨_, .readCoef _ .ls2 _ rfl rfl fun _ => rfl, fun _ => rfl⟩
  | .readStateLs2S1 ch => exact ⟨_, .readState _ .ls2 ch _ rfl rfl rfl fun _ _ => rfl, fun _ => rfl⟩
  | .readStateLs2S2 ch => exact ⟨_, .readState _ .ls2 ch _ rfl rfl rfl fun _ _ => rfl, fun _ => rfl⟩
  | .readStateLs2StValid ch => exact ⟨_, .readState _ .ls2 ch _ rfl rfl rfl fun _ _ => rfl, fun _ => rfl⟩
  | .initAp2 => exact ⟨_, .init .ap2, exec_initOf .ap2⟩
  | .setSrAp2 => exact ⟨_, .setSr .ap2, exec_setSrOf .ap2⟩
  | .resetCoeffsAp2 => exact ⟨_, .resetCoeffs .ap2, exec_resetCoeffsOf .ap2⟩
  | .resetStateAp2 ch => exact ⟨_, .resetState .ap2 ch, exec_resetStateOf .ap2 ch⟩
  | .updateCtrlAp2 => exact ⟨_, .updateCtrl .ap2, exec_updateCtrlOf .ap2⟩
  | .updateAudioAp2 => exact ⟨_, .updateAudio .ap2, exec_updateAudioOf .ap2⟩
  | .process1Ap2 ch => exact ⟨_, .process1 .ap2 ch, exec_process1Of .ap2 ch⟩
  | .processAp2 ch => exact ⟨_, .process .ap2 ch, exec_processOf .ap2 ch⟩
  | .processMultiAp2 => exact ⟨_, .processMulti .ap2, exec_processMultiOf .ap2⟩
  | .setParamAp2Cutoff => exact shape_setParamAp2Cutoff
  | .setParamAp2Q => exact shape_setParamAp2Q
  | .setParamAp2PrewarpAtCutoff => exact shape_setParamAp2PrewarpAtCutoff
  | .setParamAp2PrewarpFreq => exact shape_setParamAp2PrewarpFreq
  | .readCoefAp2Cutoff => exact ⟨_, .readCoef _ .ap2 _ rfl rfl fun _ => rfl, fun _ => rfl⟩
  | .readCoefAp2Q => exact ⟨_, .readCoef _ .ap2 _ rfl rfl fun _ => rfl, fun _ => rfl⟩
  | .readCoefAp2PrewarpAtCutoff => exact ⟨_, .readCoef _ .ap2 _ rfl rfl fun _ => rfl, fun _ => rfl⟩
  | .readCoefAp2PrewarpFreq => exact ⟨_, .readCoef _ .ap2 _ rfl rfl fun _ => rfl, fun _ => rfl⟩
  | .readCoefAp2Ki => exact ⟨_, .readCoef _ .ap2 _ rfl rfl fun _ => rfl, fun _ => rfl⟩
  | .readCoefAp2InnerCutoff => exact ⟨_, .readCoef _ .ap2 _ rfl rfl fun _ => rfl, fun _ => rfl⟩
  | .readCoefAp2InnerQ => exact ⟨_, .readCoef _ .ap2 _ rfl rfl fun _ => rfl, fun _ => rfl⟩
  | .readCoefAp2InnerPrewarpAtCutoff => exact ⟨_, .readCoef _ .ap2 _ rfl rfl fun _ => rfl, fun _ => rfl⟩
  | .readCoefAp2InnerPrewarpFreq => exact ⟨_, .readCoef _ .ap2 _ rfl rfl fun _ => rfl, fun _ => rfl⟩
  | .readCoefAp2InnerCoeffX => exact ⟨_, .readCoef _ .ap2 _ rfl rfl fun _ => rfl, fun _ => rfl⟩
  | .readCoefAp2InnerCoeffLp => exact ⟨_, .readCoef _ .ap2 _ rfl rfl fun _ => rfl, fun _ => rfl⟩
  | .readCoefAp2InnerCoeffBp => exact ⟨_, .readCoef _ .ap2 _ rfl rfl fun _ => rfl, fun _ => rfl⟩
  | .readCoefAp2InnerCoeffHp => exact ⟨_, .readCoef _ .ap2 _ rfl rfl fun _ => rfl, fun _ => rfl⟩
  | .readCoefAp2InnerKPi => exact ⟨_, .readCoef _ .ap2 _ rfl rfl fun _ => rfl, fun _ => rfl⟩
  | .readCoefAp2InnerG => exact ⟨_, .readCoef _ .ap2 _ rfl rfl fun _ => rfl, fun _ => rfl⟩
  | .readCoefAp2InnerK => exact ⟨_, .readCoef _ .ap2 _ rfl rfl fun _ => rfl, fun _ => rfl⟩
  | .readCoefAp2InnerGk => exact ⟨_, .readCoef _ .ap2 _ rfl rfl fun _ => rfl, fun _ => rfl⟩
  | .readCoefAp2InnerHpD => exact ⟨_, .readCoef _ .ap2 _ rfl rfl fun _ => rfl, fun _ => rfl⟩
  | .readCoefAp2InnerCxAct => exact ⟨_, .readCoef _ .ap2 _ rfl rfl fun _ => rfl, fun _ => rfl⟩
  | .readCoefAp2InnerClpAct => exact ⟨_, .readCoef _ .ap2 _ rfl rfl fun _ => rfl, fun _ => rfl⟩
  | .readCoefAp2InnerCbpAct => exact ⟨_, .readCoef _ .ap2 _ rfl rfl fun _ => rfl, fun _ => rfl⟩
  | .readCoefAp2InnerChpAct => exact ⟨_, .readCoef _ .ap2 _ rfl rfl fun _ => rfl, fun _ => rfl⟩
  | .readCoefAp2InnerDirty => exact ⟨_, .readCoef _ .ap2 _ rfl rfl fun _ => rfl, fun _ => rfl⟩
  | .readCoefAp2Life => exact ⟨_, .readCoef _ .ap2 _ rfl rfl fun _ => rfl, fun _ => rfl⟩
  | .readCoefAp2Gen => exact ⟨_, .readCoef _ .ap2 _ rfl rfl fun _ => rfl, fun _ => rfl⟩
  | .readCoefAp2Fs => exact ⟨_, .readCoef _ .ap2 _ rfl rfl fun _ => rfl, fun _ => rfl⟩
  | .readCoefAp2Dirty => exact ⟨_, .readCoef _ .ap2 _ rfl rfl fun _ => rfl, fun _ => rfl⟩
  | .readCoefAp2Memreq => exact ⟨_, .readCoef _ .ap2 _ rfl rfl fun _ => rfl, fun _ => rfl⟩
  | .readStateAp2S1 ch => exact ⟨_, .readState _ .ap2 ch _ rfl rfl rfl fun _ _ => rfl, fun _ => rfl⟩
  | .readStateAp2S2 ch => exact ⟨_, .readState _ .ap2 ch _ rfl rfl rfl fun _ _ => rfl, fun _ => rfl⟩
  | .readStateAp2StValid ch => exact ⟨_, .readState _ .ap2 ch _ rfl rfl rfl fun _ _ => rfl, fun _ => rfl⟩
  | .initPeak => exact ⟨_, .init .peak, exec_initOf .peak⟩
  | .setSrPeak => exact ⟨_, .setSr .peak, exec_setSrOf .peak⟩
  | .resetCoeffsPeak => exact ⟨_, .resetCoeffs .peak, exec_resetCoeffsOf .peak⟩
  | .resetStatePeak ch => exact ⟨_, .resetState .peak ch, exec_resetStateOf .peak ch⟩
  | .updateCtrlPeak => exact ⟨_, .updateCtrl .peak, exec_updateCtrlOf .peak⟩
  | .updateAudioPeak => exact ⟨_, .updateAudio .peak, exec_updateAudioOf .peak⟩
  | .process1Peak ch => exact ⟨_, .process1 .peak ch, exec_process1Of .peak ch⟩
  | .processPeak ch => exact ⟨_, .process .peak ch, exec_processOf .peak ch⟩
  | .processMultiPeak => exact ⟨_, .processMulti .peak, exec_processMultiOf .peak⟩
  | .setParamPeakCutoff => exact shape_setParamPeakCutoff
  | .setParamPeakQ => exact shape_setParamPeakQ
  | .setParamPeakPeakGainLin => exact shape_setParamPeakPeakGainLin
  | .setParamPeakPeakGainDb => exact shape_setParamPeakPeakGainDb
  | .setParamPeakBandwidth => exact shape_setParamPeakBandwidth
  | .setParamPeakUseBandwidth => exact shape_setParamPeakUseBandwidth
  | .setParamPeakPrewarpAtCutoff => exact shape_setParamPeakPrewarpAtCutoff
  | .setParamPeakPrewarpFreq => exact shape_setParamPeakPrewarpFreq
  | .readCoefPeakCutoff => exact ⟨_, .readCoef _ .peak _ rfl rfl fun _ => rfl, fun _ => rfl⟩
  | .readCoefPeakQ => exact ⟨_, .readCoef _ .peak _ rfl rfl fun _ => rfl, fun _ => rfl⟩
  | .readCoefPeakPeakGainLin => exact ⟨_, .readCoef _ .peak _ rfl rfl fun _ => rfl, fun _ => rfl⟩
  | .readCoefPeakPeakGainDb => exact ⟨_, .readCoef _ .peak _ rfl rfl fun _ => rfl, fun _ => rfl⟩
  | .readCoefPeakBandwidth => exact ⟨_, .readCoef _ .peak _ rfl rfl fun _ => rfl, fun _ => rfl⟩
  | .readCoefPeakUseBandwidth => exact ⟨_, .readCoef _ .peak _ rfl rfl fun _ => rfl, fun _ => rfl⟩
  | .readCoefPeakPrewarpAtCutoff => exact ⟨_, .readCoef _ .peak _ rfl rfl fun _ => rfl, fun _ => rfl⟩
  | .readCoefPeakPrewarpFreq => exact ⟨_, .readCoef _ .peak _ rfl rfl fun _ => rfl, fun _ => rfl⟩
  | .readCoefPeakGainIsDb => exact ⟨_, .readCoef _ .peak _ rfl rfl fun _ => rfl, fun _ => rfl⟩
  | .readCoefPeakG => exact ⟨_, .readCoef _ .peak _ rfl rfl fun _ => rfl, fun _ => rfl⟩
  | .readCoefPeakQu => exact ⟨_, .readCoef _ .peak _ rfl rfl fun _ => rfl, fun _ => rfl⟩
  | .readCoefPeakQi => exact ⟨_, .readCoef _ .peak _ rfl rfl fun _ => rfl, fun _ => rfl⟩
  | .readCoefPeakKi => exact ⟨_, .readCoef _ .peak _ rfl rfl fun _ => rfl, fun _ => rfl⟩
  | .readCoefPeakInnerCutoff => exact ⟨_, .readCoef _ .peak _ rfl rfl fun _ => rfl, fun _ => rfl⟩
  | .readCoefPeakInnerQ => exact ⟨_, .readCoef _ .peak _ rfl rfl fun _ => rfl, fun _ => rfl⟩
  | .readCoefPeakInnerPrewarpAtCutoff => exact ⟨_, .readCoef _ .peak _ rfl rfl fun _ => rfl, fun _ => rfl⟩
  | .readCoefPeakInnerPrewarpFreq => exact ⟨_, .readCoef _ .peak _ rfl rfl fun _ => rfl, fun _ => rfl⟩
  | .readCoefPeakInnerCoeffX => exact ⟨_, .readCoef _ .peak _ rfl rfl fun _ => rfl, fun _ => rfl⟩
  | .readCoefPeakInnerCoeffLp => exact ⟨_, .readCoef _ .peak _ rfl rfl fun _ => rfl, fun _ => rfl⟩
  | .readCoefPeakInnerCoeffBp => exact ⟨_, .readCoef _ .peak _ rfl rfl fun _ => rfl, fun _ => rfl⟩
  | .readCoefPeakInnerCoeffHp => exact ⟨_, .readCoef _ .peak _ rfl rfl fun _ => rfl, fun _ => rfl⟩
  | .readCoefPeakInnerKPi => exact ⟨_, .readCoef _ .peak _ rfl rfl fun _ => rfl, fun _ => rfl⟩
  | .readCoefPeakInnerG => exact ⟨_, .readCoef _ .peak _ rfl rfl fun _ => rfl, fun _ => rfl⟩
  | .readCoefPeakInnerK => exact ⟨_, .readCoef _ .peak _ rfl rfl fun _ => rfl, fun _ => rfl⟩
  | .readCoefPeakInnerGk => exact ⟨_, .readCoef _ .peak _ rfl rfl fun _ => rfl, fun _ => rfl⟩
  | .readCoefPeakInnerHpD => exact ⟨_, .readCoef _ .peak _ rfl rfl fun _ => rfl, fun _ => rfl⟩
  | .readCoefPeakInnerCxAct => exact ⟨_, .readCoef _ .peak _ rfl rfl fun _ => rfl, fun _ => rfl⟩
  | .readCoefPeakInnerClpAct => exact ⟨_, .readCoef _ .peak _ rfl rfl fun _ => rfl, fun _ => rfl⟩
  | .readCoefPeakInnerCbpAct => exact ⟨_, .readCoef _ .peak _ rfl rfl fun _ => rfl, fun _ => rfl⟩
  | .readCoefPeakInnerChpAct => exact ⟨_, .readCoef _ .peak _ rfl rfl fun _ => rfl, fun _ => rfl⟩
  | .readCoefPeakInnerDirty => exact ⟨_, .readCoef _ .peak _ rfl rfl fun _ => rfl, fun _ => rfl⟩
  | .readCoefPeakLife => exact ⟨_, .readCoef _ .peak _ rfl rfl fun _ => rfl, fun _ => rfl⟩
  | .readCoefPeakGen => exact ⟨_, .readCoef _ .peak _ rfl rfl fun _ => rfl, fun _ => rfl⟩
  | .readCoefPeakFs => exact ⟨_, .readCoef _ .peak _ rfl rfl fun _ => rfl, fun _ => rfl⟩
  | .readCoefPeakDirty => exact ⟨_, .readCoef _ .peak _ rfl rfl fun _ => rfl, fun _ => rfl⟩
  | .readCoefPeakMemreq => exact ⟨_, .readCoef _ .peak _ rfl rfl fun _ => rfl, fun _ => rfl⟩
  | .readStatePeakS1 ch => exact ⟨_, .readState _ .peak ch _ rfl rfl rfl fun _ _ => rfl, fun _ => rfl⟩
  | .readStatePeakS2 ch => exact ⟨_, .readState _ .peak ch _ rfl rfl rfl fun _ _ => rfl, fun _ => rfl⟩
  | .readStatePeakStValid ch => exact ⟨_, .readState _ .peak ch _ rfl rfl rfl fun _ _ => rfl, fun _ => rfl⟩
  | .initDelay => exact ⟨_, .init .delay, exec_initOf .delay⟩
  | .setSrDelay => exact ⟨_, .setSr .delay, exec_setSrOf .delay⟩
  | .resetCoeffsDelay => exact ⟨_, .resetCoeffs .delay, exec_resetCoeffsOf .delay⟩
  | .resetStateDelay ch => exact ⟨_, .resetState .delay ch, exec_resetStateOf .delay ch⟩
  | .updateCtrlDelay => exact ⟨_, .updateCtrl .delay, exec_updateCtrlOf .delay⟩
  | .updateAudioDelay => exact ⟨_, .updateAudio .delay, exec_updateAudioOf .delay⟩
  | .process1Delay ch => exact ⟨_, .process1 .delay ch, exec_process1Of .delay ch⟩
  | .processDelay ch => exact ⟨_, .process .delay ch, exec_processOf .delay ch⟩
  | .processMultiDelay => exact ⟨_, .processMulti .delay, exec_processMultiOf .delay⟩
  | .memReqDelay => exact ⟨_, .memReqDelay, fun _ => rfl⟩
  | .memSetDelay ch => exact ⟨_, .memSetDelay ch, fun _ => rfl⟩
  | .delayReadDelay ch => exact ⟨_, .delayRead ch, fun _ => rfl⟩
  | .delayWriteDelay ch => exact ⟨_, .delayWrite ch, fun _ => rfl⟩
  | .setParamDelayDelay => exact shape_setParamDelayDelay
  | .readCoefDelayDelay => exact ⟨_, .readCoef _ .delay _ rfl rfl fun _ => rfl, fun _ => rfl⟩
  | .readCoefDelayMaxDelay => exact ⟨_, .readCoef _ .delay _ rfl rfl fun _ => rfl, fun _ => rfl⟩
  | .readCoefDelayLen => exact ⟨_, .readCoef _ .delay _ rfl rfl fun _ => rfl, fun _ => rfl⟩
  | .readCoefDelayDi => exact ⟨_, .readCoef _ .delay _ rfl rfl fun _ => rfl, fun _ => rfl⟩
  | .readCoefDelayDf => exact ⟨_, .readCoef _ .delay _ rfl rfl fun _ => rfl, fun _ => rfl⟩
  | .readCoefDelayLife => exact ⟨_, .readCoef _ .delay _ rfl rfl fun _ => rfl, fun _ => rfl⟩
  | .readCoefDelayGen => exact ⟨_, .readCoef _ .delay _ rfl rfl fun _ => rfl, fun _ => rfl⟩
  | .readCoefDelayFs => exact ⟨_, .readCoef _ .delay _ rfl rfl fun _ => rfl, fun _ => rfl⟩
  | .readCoefDelayDirty => exact ⟨_, .readCoef _ .delay _ rfl rfl fun _ => rfl, fun _ => rfl⟩
  | .readCoefDelayMemreq => exact ⟨_, .readCoef _ .delay _ rfl rfl fun _ => rfl, fun _ => rfl⟩
  | .readStateDelayW ch => exact ⟨_, .readState _ .delay ch _ rfl rfl rfl fun _ _ => rfl, fun _ => rfl⟩
  | .readStateDelayStValid ch => exact ⟨_, .readState _ .delay ch _ rfl rfl rfl fun _ _ => rfl, fun _ => rfl⟩
  | .readStateDelayMemBound ch => exact ⟨_, .readState _ .delay ch _ rfl rfl rfl fun _ _ => rfl, fun _ => rfl⟩
  | .readStateDelayMemBase ch => exact ⟨_, .readState _ .delay ch _ rfl rfl rfl fun _ _ => rfl, fun _ => rfl⟩
  | .initReverb => exact ⟨_, .init .reverb, exec_initOf .reverb⟩
  | .setSrReverb => exact ⟨_, .setSr .reverb, exec_setSrOf .reverb⟩
  | .resetCoeffsReverb => exact ⟨_, .resetCoeffs .reverb, exec_resetCoeffsOf .reverb⟩
  | .resetStateReverb ch => exact ⟨_, .resetState .reverb ch, exec_resetStateOf .reverb ch⟩
  | .updateCtrlReverb => exact ⟨_, .updateCtrl .reverb, exec_updateCtrlOf .reverb⟩
  | .updateAudioReverb => exact ⟨_, .updateAudio .reverb, exec_updateAudioOf .reverb⟩
  | .process1Reverb ch => exact ⟨_, .process1 .reverb ch, exec_process1Of .reverb ch⟩
  | .processReverb ch => exact ⟨_, .process .reverb ch, exec_processOf .reverb ch⟩
  | .processMultiReverb => exact ⟨_, .processMulti .reverb, exec_processMultiOf .reverb⟩
  | .memReqReverb => exact ⟨_, .memReqReverb, fun _ => rfl⟩
  | .memSetReverb ch => exact ⟨_, .memSetReverb ch, fun _ => rfl⟩
  | .setParamReverbPredelay => exact shape_setParamReverbPredelay
  | .setParamReverbBandwidth => exact shape_setParamReverbBandwidth
  | .setParamReverbDamping => exact shape_setParamReverbDamping
  | .setParamReverbDecay => exact shape_setParamReverbDecay
  | .readCoefReverbPredelay => exact ⟨_, .readCoef _ .reverb _ rfl rfl fun _ => rfl, fun _ => rfl⟩
  | .readCoefReverbBandwidth => exact ⟨_, .readCoef _ .reverb _ rfl rfl fun _ => rfl, fun _ => rfl⟩
  | .readCoefReverbDamping => exact ⟨_, .readCoef _ .reverb _ rfl rfl fun _ => rfl, fun _ => rfl⟩
  | .readCoefReverbDecay => exact ⟨_, .readCoef _ .reverb _ rfl rfl fun _ => rfl, fun _ => rfl⟩
  | .readCoefReverbKExp => exact ⟨_, .readCoef _ .reverb _ rfl rfl fun _ => rfl, fun _ => rfl⟩
  | .readCoefReverbABw => exact ⟨_, .readCoef _ .reverb _ rfl rfl fun _ => rfl, fun _ => rfl⟩
  | .readCoefReverbADamp => exact ⟨_, .readCoef _ .reverb _ rfl rfl fun _ => rfl, fun _ => rfl⟩
  | .readCoefReverbDecayG => exact ⟨_, .readCoef _ .reverb _ rfl rfl fun _ => rfl, fun _ => rfl⟩
  | .readCoefReverbDd2g => exact ⟨_, .readCoef _ .reverb _ rfl rfl fun _ => rfl, fun _ => rfl⟩
  | .readCoefReverbAPds => exact ⟨_, .readCoef _ .reverb _ rfl rfl fun _ => rfl, fun _ => rfl⟩
  | .readCoefReverbSt2Pd => exact ⟨_, .readCoef _ .reverb _ rfl rfl fun _ => rfl, fun _ => rfl⟩
  | .readCoefReverbPdTarget => exact ⟨_, .readCoef _ .reverb _ rfl rfl fun _ => rfl, fun _ => rfl⟩
  | .readCoefReverbPdS => exact ⟨_, .readCoef _ .reverb _ rfl rfl fun _ => rfl, fun _ => rfl⟩
  | .readCoefReverbPdN => exact ⟨_, .readCoef _ .reverb _ rfl rfl fun _ => rfl, fun _ => rfl⟩
  | .readCoefReverbLfoPhase => exact ⟨_, .readCoef _ .reverb _ rfl rfl fun _ => rfl, fun _ => rfl⟩
  | .readCoefReverbLfoInc => exact ⟨_, .readCoef _ .reverb _ rfl rfl fun _ => rfl, fun _ => rfl⟩
  | .readCoefReverbLfoM => exact ⟨_, .readCoef _ .reverb _ rfl rfl fun _ => rfl, fun _ => rfl⟩
  | .readCoefReverbExc => exact ⟨_, .readCoef _ .reverb _ rfl rfl fun _ => rfl, fun _ => rfl⟩
  | .readCoefReverbRatio => exact ⟨_, .readCoef _ .reverb _ rfl rfl fun _ => rfl, fun _ => rfl⟩
  | .readCoefReverbDi1 => exact ⟨_, .readCoef _ .reverb _ rfl rfl fun _ => rfl, fun _ => rfl⟩
  | .readCoefReverbDf1 => exact ⟨_, .readCoef _ .reverb _ rfl rfl fun _ => rfl, fun _ => rfl⟩
  | .readCoefReverbDi3 => exact ⟨_, .readCoef _ .reverb _ rfl rfl fun _ => rfl, fun _ => rfl⟩
  | .readCoefReverbDf3 => exact ⟨_, .readCoef _ .reverb _ rfl rfl fun _ => rfl, fun _ => rfl⟩
  | .readCoefReverbN1 => exact ⟨_, .readCoef _ .reverb _ rfl rfl fun _ => rfl, fun _ => rfl⟩
  | .readCoefReverbN2 => exact ⟨_, .readCoef _ .reverb _ rfl rfl fun _ => rfl, fun _ => rfl⟩
  | .readCoefReverbN3 => exact ⟨_, .readCoef _ .reverb _ rfl rfl fun _ => rfl, fun _ => rfl⟩
  | .readCoefReverbN4 => exact ⟨_, .readCoef _ .reverb _ rfl rfl fun _ => rfl, fun _ => rfl⟩
  | .readCoefReverbN5 => exact ⟨_, .readCoef _ .reverb _ rfl rfl fun _ => rfl, fun _ => rfl⟩
  | .readCoefReverbN6 => exact ⟨_, .readCoef _ .reverb _ rfl rfl fun _ => rfl, fun _ => rfl⟩
  | .readCoefReverbN7 => exact ⟨_, .readCoef _ .reverb _ rfl rfl fun _ => rfl, fun _ => rfl⟩
  | .readCoefReverbN8 => exact ⟨_, .readCoef _ .reverb _ rfl rfl fun _ => rfl, fun _ => rfl⟩
  | .readCoefReverbN9 => exact ⟨_, .readCoef _ .reverb _ rfl rfl fun _ => rfl, fun _ => rfl⟩
  | .readCoefReverbN10 => exact ⟨_, .readCoef _ .reverb _ rfl rfl fun _ => rfl, fun _ => rfl⟩
  | .readCoefReverbN11 => exact ⟨_, .readCoef _ .reverb _ rfl rfl fun _ => rfl, fun _ => rfl⟩
  | .readCoefReverbN12 => exact ⟨_, .readCoef _ .reverb _ rfl rfl fun _ => rfl, fun _ => rfl⟩
  | .readCoefReverbCap0 => exact ⟨_, .readCoef _ .reverb _ rfl rfl fun _ => rfl, fun _ => rfl⟩
  | .readCoefReverbCap1 => exact ⟨_, .readCoef _ .reverb _ rfl rfl fun _ => rfl, fun _ => rfl⟩
  | .readCoefReverbCap2 => exact ⟨_, .readCoef _ .reverb _ rfl rfl fun _ => rfl, fun _ => rfl⟩
  | .readCoefReverbCap3 => exact ⟨_, .readCoef _ .reverb _ rfl rfl fun _ => rfl, fun _ => rfl⟩
  | .readCoefReverbCap4 => exact ⟨_, .readCoef _ .reverb _ rfl rfl fun _ => rfl, fun _ => rfl⟩
  | .readCoefReverbCap5 => exact ⟨_, .readCoef _ .reverb _ rfl rfl fun _ => rfl, fun _ => rfl⟩
  | .readCoefReverbCap6 => exact ⟨_, .readCoef _ .reverb _ rfl rfl fun _ => rfl, fun _ => rfl⟩
  | .readCoefReverbCap7 => exact ⟨_, .readCoef _ .reverb _ rfl rfl fun _ => rfl, fun _ => rfl⟩
  | .readCoefReverbCap8 => exact ⟨_, .readCoef _ .reverb _ rfl rfl fun _ => rfl, fun _ => rfl⟩
  | .readCoefReverbCap9 => exact ⟨_, .readCoef _ .reverb _ rfl rfl fun _ => rfl, fun _ => rfl⟩
  | .readCoefReverbCap10 => exact ⟨_, .readCoef _ .reverb _ rfl rfl fun _ => rfl, fun _ => rfl⟩
  | .readCoefReverbCap11 => exact ⟨_, .readCoef _ .reverb _ rfl rfl fun _ => rfl, fun _ => rfl⟩
  | .readCoefReverbCap12 => exact ⟨_, .readCoef _ .reverb _ rfl rfl fun _ => rfl, fun _ => rfl⟩
  | .readCoefReverbOff0 => exact ⟨_, .readCoef _ .reverb _ rfl rfl fun _ => rfl, fun _ => rfl⟩
  | .readCoefReverbOff1 => exact ⟨_, .readCoef _ .reverb _ rfl rfl fun _ => rfl, fun _ => rfl⟩
  | .readCoefReverbOff2 => exact ⟨_, .readCoef _ .reverb _ rfl rfl fun _ => rfl, fun _ => rfl⟩
  | .readCoefReverbOff3 => exact ⟨_, .readCoef _ .reverb _ rfl rfl fun _ => rfl, fun _ => rfl⟩
  | .readCoefReverbOff4 => exact ⟨_, .readCoef _ .reverb _ rfl rfl fun _ => rfl, fun _ => rfl⟩
  | .readCoefReverbOff5 => exact ⟨_, .readCoef _ .reverb _ rfl rfl fun _ => rfl, fun _ => rfl⟩
  | .readCoefReverbOff6 => exact ⟨_, .readCoef _ .reverb _ rfl rfl fun _ => rfl, fun _ => rfl⟩
  | .readCoefReverbOff7 => exact ⟨_, .readCoef _ .reverb _ rfl rfl fun _ => rfl, fun _ => rfl⟩
  | .readCoefReverbOff8 => exact ⟨_, .readCoef _ .reverb _ rfl rfl fun _ => rfl, fun _ => rfl⟩
  | .readCoefReverbOff9 => exact ⟨_, .readCoef _ .reverb _ rfl rfl fun _ => rfl, fun _ => rfl⟩
  | .readCoefReverbOff10 => exact ⟨_, .readCoef _ .reverb _ rfl rfl fun _ => rfl, fun _ => rfl⟩
  | .readCoefReverbOff11 => exact ⟨_, .readCoef _ .reverb _ rfl rfl fun _ => rfl, fun _ => rfl⟩
  | .readCoefReverbOff12 => exact ⟨_, .readCoef _ .reverb _ rfl rfl fun _ => rfl, fun _ => rfl⟩
  | .readCoefReverbTaplK0 => exact ⟨_, .readCoef _ .reverb _ rfl rfl fun _ => rfl, fun _ => rfl⟩
  | .readCoefReverbTaplK1 => exact ⟨_, .readCoef _ .reverb _ rfl rfl fun _ => rfl, fun _ => rfl⟩
  | .readCoefReverbTaplK2 => exact ⟨_, .readCoef _ .reverb _ rfl rfl fun _ => rfl, fun _ => rfl⟩
  | .readCoefReverbTaplK3 => exact ⟨_, .readCoef _ .reverb _ rfl rfl fun _ => rfl, fun _ => rfl⟩
  | .readCoefReverbTaplK4 => exact ⟨_, .readCoef _ .reverb _ rfl rfl fun _ => rfl, fun _ => rfl⟩
  | .readCoefReverbTaplK5 => exact ⟨_, .readCoef _ .reverb _ rfl rfl fun _ => rfl, fun _ => rfl⟩
  | .readCoefReverbTaplK6 => exact ⟨_, .readCoef _ .reverb _ rfl rfl fun _ => rfl, fun _ => rfl⟩
  | .readCoefReverbTaprK0 => exact ⟨_, .readCoef _ .reverb _ rfl rfl fun _ => rfl, fun _ => rfl⟩
  | .readCoefReverbTaprK1 => exact ⟨_, .readCoef _ .reverb _ rfl rfl fun _ => rfl, fun _ => rfl⟩
  | .readCoefReverbTaprK2 => exact ⟨_, .readCoef _ .reverb _ rfl rfl fun _ => rfl, fun _ => rfl⟩
  | .readCoefReverbTaprK3 => exact ⟨_, .readCoef _ .reverb _ rfl rfl fun _ => rfl, fun _ => rfl⟩
  | .readCoefReverbTaprK4 => exact ⟨_, .readCoef _ .reverb _ rfl rfl fun _ => rfl, fun _ => rfl⟩
  | .readCoefReverbTaprK5 => exact ⟨_, .readCoef _ .reverb _ rfl rfl fun _ => rfl, fun _ => rfl⟩
  | .readCoefReverbTaprK6 => exact ⟨_, .readCoef _ .reverb _ rfl rfl fun _ => rfl, fun _ => rfl⟩
  | .readCoefReverbLife => exact ⟨_, .readCoef _ .reverb _ rfl rfl fun _ => rfl, fun _ => rfl⟩
  | .readCoefReverbGen => exact ⟨_, .readCoef _ .reverb _ rfl rfl fun _ => rfl, fun _ => rfl⟩
  | .readCoefReverbFs => exact ⟨_, .readCoef _ .reverb _ rfl rfl fun _ => rfl, fun _ => rfl⟩
  | .readCoefReverbDirty => exact ⟨_, .readCoef _ .reverb _ rfl rfl fun _ => rfl, fun _ => rfl⟩
  | .readCoefReverbMemreq => exact ⟨_, .readCoef _ .reverb _ rfl rfl fun _ => rfl, fun _ => rfl⟩
  | .readStateReverbBwZ1 ch => exact ⟨_, .readState _ .reverb ch _ rfl rfl rfl fun _ _ => rfl, fun _ => rfl⟩
  | .readStateReverbDlZ1 ch => exact ⟨_, .readState _ .reverb ch _ rfl rfl rfl fun _ _ => rfl, fun _ => rfl⟩
  | .readStateReverbDrZ1 ch => exact ⟨_, .readState _ .reverb ch _ rfl rfl rfl fun _ _ => rfl, fun _ => rfl⟩
  | .readStateReverbW0 ch => exact ⟨_, .readState _ .reverb ch _ rfl rfl rfl fun _ _ => rfl, fun _ => rfl⟩
  | .readStateReverbW1 ch => exact ⟨_, .readState _ .reverb ch _ rfl rfl rfl fun _ _ => rfl, fun _ => rfl⟩
  | .readStateReverbW2 ch => exact ⟨_, .readState _ .reverb ch _ rfl rfl rfl fun _ _ => rfl, fun _ => rfl⟩
  | .readStateReverbW3 ch => exact ⟨_, .readState _ .reverb ch _ rfl rfl rfl fun _ _ => rfl, fun _ => rfl⟩
  | .readStateReverbW4 ch => exact ⟨_, .readState _ .reverb ch _ rfl rfl rfl fun _ _ => rfl, fun _ => rfl⟩
  | .readStateReverbW5 ch => exact ⟨_, .readState _ .reverb ch _ rfl rfl rfl fun _ _ => rfl, fun _ => rfl⟩
  | .readStateReverbW6 ch => exact ⟨_, .readState _ .reverb ch _ rfl rfl rfl fun _ _ => rfl, fun _ => rfl⟩
  | .readStateReverbW7 ch => exact ⟨_, .readState _ .reverb ch _ rfl rfl rfl fun _ _ => rfl, fun _ => rfl⟩
  | .readStateReverbW8 ch => exact ⟨_, .readState _ .reverb ch _ rfl rfl rfl fun _ _ => rfl, fun _ => rfl⟩
  | .readStateReverbW9 ch => exact ⟨_, .readState _ .reverb ch _ rfl rfl rfl fun _ _ => rfl, fun _ => rfl⟩
  | .readStateReverbW10 ch => exact ⟨_, .readState _ .reverb ch _ rfl rfl rfl fun _ _ => rfl, fun _ => rfl⟩
  | .readStateReverbW11 ch => exact ⟨_, .readState _ .reverb ch _ rfl rfl rfl fun _ _ => rfl, fun _ => rfl⟩
  | .readStateReverbW12 ch => exact ⟨_, .readState _ .reverb ch _ rfl rfl rfl fun _ _ => rfl, fun _ => rfl⟩
  | .readStateReverbStValid ch => exact ⟨_, .readState _ .reverb ch _ rfl rfl rfl fun _ _ => rfl, fun _ => rfl⟩
  | .readStateReverbMemBound ch => exact ⟨_, .readState _ .reverb ch _ rfl rfl rfl fun _ _ => rfl, fun _ => rfl⟩
  | .readStateReverbMemBase ch => exact ⟨_, .readState _ .reverb ch _ rfl rfl rfl fun _ _ => rfl, fun _ => rfl⟩

end Sys2Proof.Machine
end

