-- ==== Sys2Proof/Laws/Window.lean ====
section
/-! SUPPORT. What a host access at an address comes to (20_memory.md R89, R90), said once for each case: a register of the
window, a bus error, or nothing of the block; and to ordinary data memory (R83). -/

namespace Sys2Proof.Machine

variable (b a : Nat) (size : AccessSize)

@[simp] theorem bytes_byte : AccessSize.byte.bytes = 1 := rfl

@[simp] theorem bytes_half : AccessSize.half.bytes = 2 := rfl

@[simp] theorem bytes_word : AccessSize.word.bytes = 4 := rfl

@[simp] theorem bytes_double : AccessSize.double.bytes = 8 := rfl

/-- A word at a multiple of four from BASE reaches the register of that offset, if there is one. -/
theorem accessedReg_at (k : Nat) : accessedReg b (b + 4 * k) .word = windowRegs[k]? := by
  rw [accessedReg, if_pos ⟨rfl, by omega, by omega⟩, show (b + 4 * k - b) / 4 = k by omega]

/-- An access reaches a register when it is a word at one of the sixteen offsets, and then only. -/
theorem accessedReg_eq_some {r : WindowReg} :
    accessedReg b a size = some r ↔ size = .word ∧ ∃ k, a = b + 4 * k ∧ windowRegs[k]? = some r := by
  constructor
  · intro h
    unfold accessedReg at h
    split at h
    · rename_i hc
      exact ⟨hc.1, (a - b) / 4, by omega, h⟩
    · cases h
  · rintro ⟨rfl, k, rfl, h⟩
    rw [accessedReg_at, h]

/-- An access of the window that is not an aligned word reaches no register and is answered with a bus error. -/
theorem missed_touching (hb : b % 64 = 0) (h1 : a < b + 64) (h2 : b < a + size.bytes) (h : size ≠ .word ∨ a % 4 ≠ 0) :
    accessedReg b a size = none ∧ missedReply b a size = .busError := by
  refine ⟨if_neg fun hc => ?_, by simp [missedReply, touchesWindow, h1, h2]⟩
  rcases h with h | h
  · exact h hc.1
  · omega

/-- An access that touches no byte of the window reaches no register, and the block does not answer it. -/
theorem missed_elsewhere (h : b + 64 ≤ a ∨ a + size.bytes ≤ b) :
    accessedReg b a size = none ∧ missedReply b a size = .elsewhere := by
  constructor
  · unfold accessedReg
    split
    · rename_i hc
      have : 64 ≤ a - b := by
        rcases h with h | h
        · omega
        · rw [hc.1] at h
          simp only [bytes_word] at h
          omega
      exact List.getElem?_eq_none (by simp only [windowRegs, List.length_cons, List.length_nil]; omega)
    · rfl
  · have : touchesWindow b a size = false := by
      simp only [touchesWindow, Bool.and_eq_false_iff, decide_eq_false_iff_not]
      omega
    simp [missedReply, this]

/-- A host access to ordinary data memory that does not pass 2^32 completes. -/
theorem hostAccess_ok {a : Word} {n : Nat} {s : State} (k : State) (hr : a.toNat + n ≤ 2 ^ 32)
    (ho : regionAt s.hw.regions a.toNat n = none) : hostAccess a n s k = .next k := by
  simp only [hostAccess, if_neg (Nat.not_lt.mpr hr), ho]

end Sys2Proof.Machine
end

