-- ==== Sys2Proof/Machine/Properties.lean ====
section
/-! DEFINITION. The two properties of the source that the spec has a model check as a test, not as a theorem: no overshoot
of MM2's step response (42_svf.md R260) and the silence of REVERB's tail (45_reverb.md R398). Each is a Boolean of a
configuration, which Tests/Slice0.lean evaluates. -/

namespace Sys2Proof.Machine
open Sys2Proof.Config

/-! ### MM2: no overshoot (R260) -/

/-- Whether MM2, given 1.0 at each of `n` samples after the output `y`, rises at each sample, or has come to `top` and stays
there, and then rests: one more sample answers `top` and leaves the channel as it is, so that every later one does too. -/
def mm2RisesTo (b : Mm2Bank) (top : F32) : Nat → F32 → Mm2State → Bool
  | 0, y, st => y == top && mm2Step b st f1 == (top, st)
  | n + 1, y, st =>
    (fLt y (mm2Step b st f1).1 || (y == top && (mm2Step b st f1).1 == top)) &&
      mm2RisesTo b top n (mm2Step b st f1).1 (mm2Step b st f1).2

/-- R260's property of a lowpass, over every sample: from a zero state and under a constant input 1.0 the output rises to
`top` within `n` samples, stays there, and `top` is below 1.0. -/
def mm2NoOvershoot (b : Mm2Bank) (top : F32) (n : Nat) : Bool := mm2RisesTo b top n f0 {} && fLt top f1

/-! ### REVERB: silence (R398) -/

/-- The state after a PROCESS1 of REVERB with a word on both inputs; none where it faults or stops. -/
def reverbFed (ch : BitVec 6) (x : F32) (s : State) : Option State :=
  match exec (.process1Reverb ch) { s with win := { s.win with arg0 := x, arg1 := x } } with
  | .next t => if statusFault t.win.status then none else some t
  | _ => none

/-- The state after `n` samples of silence. -/
def reverbSilence (ch : BitVec 6) : Nat → State → Option State
  | 0, s => some s
  | n + 1, s => (reverbFed ch f0 s).bind (reverbSilence ch n)

/-- Both outputs of each of `n` samples of silence are exactly ±0. -/
def reverbSilent (ch : BitVec 6) : Nat → State → Bool
  | 0, _ => true
  | n + 1, s =>
    match reverbFed ch f0 s with
    | some t => isZero t.win.res0 && isZero t.win.res1 && reverbSilent ch n t
    | none => false

/-- R398's property of a history: the `p` samples of silence that follow are answered with exactly ±0, and they bring the
arena and the channel's registers back to where they were. PROCESS1 reads nothing else that changes, so the output is ±0 at
every later sample, though the arena need not be zero. -/
def reverbAtRest (ch : BitVec 6) (p : Nat) (s : State) : Bool :=
  reverbSilent ch p s &&
    match reverbSilence ch p s with
    | some t => t.mem == s.mem && t.chans.reverb == s.chans.reverb
    | none => false

/-- R398's property of a sample: a state fed it on both inputs, and then `n` samples of silence, is at rest. -/
def reverbComesToRest (ch : BitVec 6) (x : F32) (n p : Nat) (s : State) : Bool :=
  match (reverbFed ch x s).bind (reverbSilence ch n) with
  | some t => reverbAtRest ch p t
  | none => false

end Sys2Proof.Machine
end

