-- ==== Sys2Proof/Tests/Slice0.lean ====
section
/-! SUPPORT. The tests: ill-formed terms and illegal words, words written out bit by bit, one step of the spec's own test
vectors (95_test_vectors.md, only those it marks [exact]), and for every statement with hypotheses a witness that they can
be met. The expected values are the spec's, not the model's. -/

namespace Sys2Proof.Tests
open Sys2Proof.Machine Sys2Proof.Config

/- The kernel evaluates most of these theorems: one after the other, not each in a thread of its own. -/
set_option Elab.async false

/-! ### States -/

/-- A block of two channels with every unit READY at 48000 Hz and every channel valid and bound: a DELAY line of 4 words, a
REVERB whose thirteen lines have 2 words each. Parameters have their INIT values where a test needs them. -/
def ready : State :=
  { State.reset with
    regs := PerUnit.const { life := .ready, gen := 1, fs := 0x473B8000 }
    valid := PerUnit.const [true, true]
    binds := { delay := [⟨true, 0x1000⟩, ⟨true, 0x2000⟩], reverb := [⟨true, 0x3000⟩, ⟨true, 0x4000⟩] }
    coefs :=
      { delay := { len := 4, memReq := 16 }
        reverb :=
          { n := PerLine.const 1, cap := PerLine.const 2, tapLK := PerTap.const 1, tapRK := PerTap.const 1, memReq := 104
            off := ⟨0, 8, 16, 24, 32, 40, 48, 56, 64, 72, 80, 88, 96⟩ } } }

/-- The same block, every unit INITED. -/
def inited : State := { State.reset with regs := PerUnit.const { life := .inited } }

/-- The same block, faulted LIFECYCLE by a PROCESS1 of ONEPOLE (the last row of section 7 of the vectors). -/
def faulted : State := { ready with win := { status := 0x301, faultCmd := 0x1C000000 } }

/-- `ready` with operands in ARG0 to ARG3. -/
def withArgs (s : State) (a b c d : Word) : State :=
  { s with win := { s.win with arg0 := a, arg1 := b, arg2 := c, arg3 := d } }

/-- A state with ARG0 and ARG1 zero but for ARG0. -/
def arg (s : State) (a : Word) : State := withArgs s a 0 0 0

/-- The state a step ends with. -/
def after : Host.Outcome State Fault Refusal → State
  | .next s => s
  | _ => State.reset

/-- The four fault registers after a step (95_test_vectors.md section 7). -/
def faults (o : Host.Outcome State Fault Refusal) : List Word :=
  [(after o).win.status, (after o).win.faultCmd, (after o).win.faultInfo0, (after o).win.faultInfo1]

/-- The host writes a command word (one step). -/
def cmd (s : State) (w : Word) : Host.Outcome State Fault Refusal := step (s.withFetchWord 32 w.toNat)

/-- The command word of five fields, each written in its own width. -/
def word (opc : BitVec 6) (unit : BitVec 4) (ch : BitVec 6) (sel zero : BitVec 8) : Word := opc ++ unit ++ ch ++ sel ++ zero

/-- Whether a word is refused for the item of R116 given. -/
def rejects (w : Word) (why : Illegal) : Bool :=
  match decode w with
  | .error e => e == why
  | .ok _ => false

/-! ### Well-formed terms -/

theorem test_channel_below_count : (Instr.process1Onepole 1).wellFormed 2 = true := by decide +kernel
theorem test_channel_at_count_refused : (Instr.process1Onepole 2).wellFormed 2 = false := by decide +kernel
theorem test_channel_63_of_64 : (Instr.readStateMm1S 63).wellFormed 64 = true := by decide +kernel
theorem test_channel_of_mem_set_refused : (Instr.memSetDelay 3).wellFormed 3 = false := by decide +kernel
theorem test_no_channel_is_well_formed : Instr.initDelay.wellFormed 1 = true := by decide +kernel

/-! ### Illegal words, one for each item of R116 (95_test_vectors.md section 7) -/

theorem test_zero_field : rejects 0x00000001 .zeroField = true := by decide +kernel
theorem test_reserved_opcode : rejects 0x44000000 .reservedOpcode = true := by decide +kernel
theorem test_reserved_opcode_last : rejects 0xFC000000 .reservedOpcode = true := by decide +kernel
theorem test_reserved_unit : rejects 0x06800000 .reservedUnit = true := by decide +kernel
theorem test_nop_of_unit_1 : rejects 0x00400000 .unitNotAccepted = true := by decide +kernel
theorem test_mem_req_of_onepole : rejects 0x2C000000 .unitNotAccepted = true := by decide +kernel
theorem test_delay_read_of_mm2 : rejects 0x34800000 .unitNotAccepted = true := by decide +kernel
theorem test_init_with_channel : rejects 0x04010000 .chNotZero = true := by decide +kernel
theorem test_set_param_select_8 : rejects 0x28000800 .notParameter = true := by decide +kernel
theorem test_read_coef_write_only : rejects 0x3C000000 .notRegister = true := by decide +kernel
theorem test_read_state_select_1 : rejects 0x40000100 .notRegister = true := by decide +kernel
theorem test_select_not_used : rejects (word 0x05 0x1 0 0x01 0) .selNotZero = true := by decide +kernel

/-! ### Words written out from R111 to R115, an opcode of each kind and every unit -/

theorem test_word_nop : decode (word 0b000000 0b0000 0 0 0) = .ok .nop := by decide +kernel
theorem test_word_init : decode (word 0b000001 0b0001 0 0 0) = .ok .initMm1 := by decide +kernel
theorem test_word_set_sr : decode (word 0b000010 0b0010 0 0 0) = .ok .setSrMm2 := by decide +kernel
theorem test_word_reset_coeffs : decode (word 0b000011 0b0011 0 0 0) = .ok .resetCoeffsHp1 := by decide +kernel
theorem test_word_reset_state : decode (word 0b000100 0b0100 0b000001 0 0) = .ok (.resetStateLs1 1) := by decide +kernel
theorem test_word_update_ctrl : decode (word 0b000101 0b0101 0 0 0) = .ok .updateCtrlLs2 := by decide +kernel
theorem test_word_update_audio : decode (word 0b000110 0b0110 0 0 0) = .ok .updateAudioAp2 := by decide +kernel
theorem test_word_process1 : decode (word 0b000111 0b0111 0b100000 0 0) = .ok (.process1Peak 32) := by decide +kernel
theorem test_word_process : decode (word 0b001000 0b1000 0b000010 0 0) = .ok (.processDelay 2) := by decide +kernel
theorem test_word_process_multi : decode (word 0b001001 0b1001 0 0 0) = .ok .processMultiReverb := by decide +kernel
theorem test_word_set_param : decode (word 0b001010 0b0000 0 0x07 0) = .ok .setParamOnepoleStickyMode := by decide +kernel
theorem test_word_mem_req : decode (word 0b001011 0b1001 0 0 0) = .ok .memReqReverb := by decide +kernel
theorem test_word_mem_set : decode (word 0b001100 0b1001 0b000011 0 0) = .ok (.memSetReverb 3) := by decide +kernel
theorem test_word_delay_read : decode (word 0b001101 0b1000 0b000001 0 0) = .ok (.delayReadDelay 1) := by decide +kernel
theorem test_word_delay_write : decode (word 0b001110 0b1000 0b000001 0 0) = .ok (.delayWriteDelay 1) := by decide +kernel
theorem test_word_read_coef : decode (word 0b001111 0b0000 0 0xF1 0) = .ok .readCoefOnepoleGen := by decide +kernel
theorem test_word_read_state : decode (word 0b010000 0b1001 0b000001 0x1C 0) = .ok (.readStateReverbW12 1) := by
  decide +kernel

/-! ### One step of the vectors of 95_test_vectors.md -/

theorem test_set_sr_k_exp : (after (cmd (arg inited 0x473B8000) 0x08000000)).coefs.onepole.kExp = 0xB909421F := by
  decide +kernel

theorem test_set_sr_mm2_k_pi : (after (cmd (arg inited 0x473B8000) 0x08800000)).coefs.mm2.kPi = 0x3889421F := by
  decide +kernel

/-- INIT's defaults and RESET_COEFFS: with every CUTOFF +inf, A_UP is +0. -/
theorem test_reset_coeffs_a_up :
    (after (cmd (after (cmd (arg (after (cmd inited 0x04000000)) 0x473B8000) 0x08000000)) 0x0C000000)).coefs.onepole.aUp = 0 := by
  decide +kernel

theorem test_st2_of_quarter :
    (after (cmd { ready with
      regs := { ready.regs with onepole := { ready.regs.onepole with dirty := 0b0100 } }
      coefs := { onepole := { stickyThresh := 0x3E800000 } } } 0x14000000)).coefs.onepole.st2 = 0x3D800000 := by
  decide +kernel

theorem test_tau_gives_cutoff :
    (after (cmd (arg ready 0x3926E2D4) 0x28000300)).coefs.onepole.cutoffUp = 0x447A0000 := by decide +kernel

theorem test_tau_of_minus_zero :
    (after (cmd (arg ready 0x80000000) 0x28000300)).coefs.onepole.cutoffUp = 0x7F800000 := by decide +kernel

/-- Hold: with the multiplier 1, RES0 is the previous output. -/
theorem test_one_pole_holds :
    (after (cmd { arg ready 0xC47A0000 with
      coefs := { onepole := { aUp := 0x3F800000, aDown := 0x3F800000 } }
      chans := { ready.chans with onepole := [⟨0x3F000000⟩, {}] } } 0x1C000000)).win.res0 = 0x3F000000 := by
  decide +kernel

/-- Pass: with the multiplier +0, RES0 is the input. -/
theorem test_one_pole_passes : (after (cmd (arg ready 0xC0E00000) 0x1C000000)).win.res0 = 0xC0E00000 := by
  decide +kernel

theorem test_mm2_k_of_half :
    (after (cmd { ready with
      regs := { ready.regs with mm2 := { ready.regs.mm2 with dirty := 0b0010 } }
      coefs := { mm2 := { q := 0x3F000000 } } } 0x14800000)).coefs.mm2.k = 0x40000000 := by decide +kernel

theorem test_hp1_inner_coeff_lp :
    (after (cmd { ready with regs := { ready.regs with hp1 := { ready.regs.hp1 with dirty := 0b11 } } }
      0x14C00000)).coefs.hp1.inner.coeffLp = 0xBF800000 := by decide +kernel

/-- MM2 as the lowpass of 95_test_vectors.md section 1.6, Q 0.5, with the G its section 3.1 takes for cutoff 1000 at 48000
Hz: UPDATE_CTRL of Q and of the mix. -/
def lowpass : Mm2Bank := mm2Update 0b1010 { q := 0x3F000000, coeffLp := 0x3F800000, g := 0x3D863BA7 }

theorem test_mm2_lowpass_coefficients : [lowpass.k, lowpass.gk, lowpass.hpD] = [0x40000000, 0x400431DD, 0x3F61797F] := by
  decide +kernel

/-- A value handed on as a numeral, so that the kernel computes it once. -/
def forced {α : Type} (x : F32) (k : F32 → α) : α :=
  match x.toNat with
  | 0 => k 0
  | n + 1 => k (BitVec.ofNat 32 (n + 1))

theorem forced_eq {α : Type} (x : F32) (k : F32 → α) : forced x k = k x := by
  unfold forced
  split <;> rename_i h
  · exact congrArg k (BitVec.eq_of_toNat_eq h.symm)
  · exact congrArg k (by rw [← Nat.succ_eq_add_one, ← h, BitVec.ofNat_toNat, BitVec.setWidth_eq])

/-- `mm2RisesTo` with each output and register computed once. -/
def risesForced (b : Mm2Bank) (top : F32) : Nat → F32 → Mm2State → Bool
  | 0, y, st => y == top && mm2Step b st f1 == (top, st)
  | n + 1, y, st =>
    let r := mm2Step b st f1
    forced r.1 fun y' => forced r.2.s1 fun s1 => forced r.2.s2 fun s2 =>
      (fLt y y' || (y == top && y' == top)) && risesForced b top n y' ⟨s1, s2⟩

theorem risesForced_eq (b : Mm2Bank) (top : F32) (n : Nat) (y : F32) (st : Mm2State) :
    risesForced b top n y st = mm2RisesTo b top n y st := by
  induction n generalizing y st with
  | zero => rfl
  | succ n ih => simp only [risesForced, mm2RisesTo, forced_eq, ih]

/-- 42_svf.md R260, the source's property "unit step response has no overshoot", which the rule has a model check as a test
(95_test_vectors.md section 1.6): the output rises until it is 0x3F7FFFFB, below 1.0, and stays there; after 146 samples the
channel rests, so no later sample is above it either. -/
theorem test_mm2_step_response_has_no_overshoot : mm2NoOvershoot lowpass 0x3F7FFFFB 146 = true := by
  rw [mm2NoOvershoot, ← risesForced_eq]
  decide +kernel

/-- The first outputs of that response. -/
theorem test_mm2_first_outputs :
    (let r := fun st => mm2Step lowpass st 0x3F800000
    let (a, st) := r {}
    let (b, st) := r st
    [a, b, (r st).1]) = [0x3B77F7EA, 0x3C935A90, 0x3D334C6E] := by decide +kernel

/-- PEAK of Q 1 and gain 2: QI is the square root of 2, KI its reciprocal. -/
theorem test_peak_qi_ki :
    (let c := (after (cmd { ready with
      regs := { ready.regs with peak := { ready.regs.peak with dirty := 0b1111 } }
      coefs := { peak := { q := 0x3F800000, peakGainLin := 0x40000000, prewarpFreq := 0x447A0000 } } }
        0x15C00000)).coefs.peak
    [c.qu, c.qi, c.ki]) = [0x3F800000, 0x3FB504F3, 0x3F3504F3] := by decide +kernel

theorem test_ls1_dc_state :
    (after (cmd { arg ready 0x3F800000 with
      coefs := { ls1 := { inner := { cxAct := 0x3F800000, clpAct := 0x3F800000 } } } } 0x11000000)).win.res0 =
      0x40000000 := by decide +kernel

theorem test_delay_length :
    (let c := (after (cmd { arg inited 0x473B8000 with coefs := { delay := { maxDelay := 0x3A83126F } } }
      0x0A000000)).coefs.delay
    [c.len, c.memReq]) = [50, 200] := by decide +kernel

theorem test_delay_length_of_zero :
    (after (cmd (arg inited 0x473B8000) 0x0A000000)).coefs.delay.len = 1 := by decide +kernel

/-- UPDATE_CTRL of DELAY, a delay above the line's end: DI is LEN - 1 and DF 0. -/
theorem test_delay_split_clamped :
    (let c := (after (cmd { ready with
      regs := { ready.regs with delay := { ready.regs.delay with dirty := 1 } }
      coefs := { delay := { delay := 0x3B03126F, len := 50, memReq := 200 } } } 0x16000000)).coefs.delay
    [c.di, c.df]) = [49, 0] := by decide +kernel

theorem test_delay_write_stores :
    (let t := after (cmd (arg ready 0x3F800000) 0x3A000000)
    (t.mem, (t.chans.delay.getD 0 {}).w)) = ([(0x1002, 0x80), (0x1003, 0x3F)], 1) := by decide +kernel

/-- DELAY_READ halfway between two written samples is their mean. -/
theorem test_delay_read_mean :
    (after (cmd { withArgs ready 1 0x3F000000 0 0 with
      mem := writeWord (writeWord [] 0x1000 0x3F800000) 0x1004 0x40000000
      chans := { ready.chans with delay := [⟨2⟩, {}] } } 0x36000000)).win.res0 = 0x3FC00000 := by decide +kernel

theorem test_delay_process1_of_zero_delay :
    (after (cmd (arg ready 0x40A00000) 0x1E000000)).win.res0 = 0x40A00000 := by decide +kernel

theorem test_reverb_sizing :
    (let c := (after (cmd (arg inited 0x473B8000) 0x0A400000)).coefs.reverb
    [c.memReq, c.ratio, c.exc, c.lfoInc, c.n.id1, c.cap.pd, c.off.dlR2, c.tapLK.t0, c.cap.dd1]) =
      [0x28250, 0x3FCE71D6, 0x414E71D6, 0x37AEC33E, 229, 4801, 144028, 429, 1098] := by decide +kernel

/-- Another REV_TABLE, ID1 twice as long: 284 * 1.6128490 rounds to 458. -/
theorem test_reverb_other_table :
    (let length := { RevTable.default.length with id1 := 284 }
    let s := { arg inited 0x473B8000 with hw := { inited.hw with revTable := { RevTable.default with length := length } } }
    (after (cmd s 0x0A400000)).coefs.reverb.n.id1) = 458 := by decide +kernel

theorem test_reverb_dd2g :
    (after (cmd { ready with
      regs := { ready.regs with reverb := { ready.regs.reverb with dirty := 0b1000 } }
      coefs := { reverb := { decay := 0x3E4CCCCD } } } 0x16400000)).coefs.reverb.dd2G = 0x3EB33334 := by
  decide +kernel

/-! ### Silence of REVERB (45_reverb.md R398, 95_test_vectors.md sections 1.7 and 6.4)

R398's property is one a model checks as a test. The kernel cannot evaluate NUM.sin2pi, so no UPDATE_AUDIO runs between the
samples: the LFO stands still, at a fractional position of its own in each half. -/

/-- A REVERB of short lines, with DECAY 0.5: one word to each fixed line, four to each of the two modulated ones. Its words
come back to their places after four samples. -/
def tank : State :=
  { ready with
    coefs :=
      { reverb :=
          { n := ⟨0, 1, 1, 1, 1, 2, 1, 1, 1, 2, 1, 1, 1⟩, cap := ⟨1, 1, 1, 1, 1, 4, 1, 1, 1, 4, 1, 1, 1⟩
            off := ⟨0, 4, 8, 12, 16, 20, 36, 40, 44, 48, 64, 68, 72⟩, memReq := 76
            tapLK := PerTap.const 1, tapRK := PerTap.const 1, decayG := 0x3F000000, dd2G := 0x3F000000
            di1 := 2, df1 := 0x3F000000, di3 := 2, df3 := 0x3E800000 } } }

/-- "The property holds at once from a zero state": silence is answered with exactly 0, sample after sample, and every arena
word stays 0. -/
theorem test_reverb_zero_state_is_silent :
    reverbAtRest 0 4 tank = true ∧ (reverbSilence 0 4 tank).map (·.mem) = some [] := by decide +kernel

/-- The end of a tail: fed 2^-145 and then silence, the output is exactly ±0 after 20 samples and ever after. -/
theorem test_reverb_tail_comes_to_rest : reverbComesToRest 0 0x00000010 20 4 tank = true := by decide +kernel

/-- The word an allpass of one word stores, and its output, for the word `d` in its line and the input 0. -/
def allpassOfZero (d g : F32) : Option (F32 × F32) :=
  match allpassAt (.reverb 0 .id4) 1 f0 f0 g { tank with mem := writeWord [] 0x3010 d } with
  | .ok y t => some (readWord t.mem 0x3010, y)
  | .error _ _ => none

/-- With gain 0.75 or 0.625 a word of ±2^-149 changes its sign and the output is exactly 0; with 0.5 it dies out. With 0.75
2^-148 changes its sign too: 1.5 units are a tie, whose even neighbour is 2 (R8; notes/assumptions/21). -/
theorem test_allpass_of_one_ulp :
    [allpassOfZero 1 0x3F400000, allpassOfZero 0x80000001 0x3F400000, allpassOfZero 1 0x3F200000,
        allpassOfZero 0x80000001 0x3F200000].map (Option.map fun p => (p.1, isZero p.2)) =
      [some (0x80000001, true), some (1, true), some (0x80000001, true), some (1, true)] ∧
    (allpassOfZero 1 0x3F000000).map (fun p => isZero p.1) = some true ∧
    (allpassOfZero 2 0x3F400000).map (fun p => (p.1, isZero p.2)) = some (0x80000002, true) := by decide +kernel

/-- The end of a tail as vector 6.4 gives it: a REVERB at 1000 Hz of the default table, every word 0 but one of line 4,
which is -2^-149. -/
def tailEnd : State :=
  { ready with
    coefs := { reverb := { reverbSetSr .default 0x447A0000 ReverbCoefs.initial with
      decayG := 0x3F000000, dd2G := 0x3F000000, di1 := 23, di3 := 31 } }
    mem := writeWord [] (0x3000 + 4 * (101 + 5 + 4 + 13)) 0x80000001 }

/-- The word of line 4 flips its sign and both outputs are ±0; the other words stay ±0. -/
theorem test_reverb_tail_end :
    tailEnd.coefs.reverb.memReq = 3448 ∧
    (reverbFed 0 0 tailEnd).map (fun t => (isZero t.win.res0, isZero t.win.res1,
      readWord t.mem (0x3000 + 4 * (101 + 5 + 4 + 13)), t.mem.filter fun c => c.1 % 4 ≠ 3 || c.2 ≠ 0x80)) =
      some (true, true, 1, [(0x3000 + 4 * (101 + 5 + 4 + 13), 1)]) := by decide +kernel

theorem test_mem_set_binds :
    (after (cmd (arg ready 0x1000) 0x32010000)).binds.delay = [⟨true, 0x1000⟩, ⟨true, 0x1000⟩] := by decide +kernel

theorem test_read_coef_life : (after (cmd ready 0x3C00F000)).win.res0 = 3 := by decide +kernel

theorem test_read_state_valid : (after (cmd ready 0x4001F000)).win.res0 = 1 := by decide +kernel

/-- PROCESS of two samples through a passing ONEPOLE copies them. -/
theorem test_process_copies :
    (let t := after (cmd { withArgs ready 0x5000 0x6000 2 0 with
      mem := writeWord (writeWord [] 0x5000 0x3F800000) 0x5004 0x40000000 } 0x20000000)
    [readWord t.mem 0x6000, readWord t.mem 0x6004, t.win.status]) = [0x3F800000, 0x40000000, 0] := by decide +kernel

/-- PROCESS_MULTI of one channel reads its buffers from the two tables. -/
theorem test_process_multi_copies :
    (let t := after (cmd { withArgs ready 0x5000 0x6000 1 1 with
      mem := writeWord (writeWord (writeWord [] 0x5000 0x7000) 0x6000 0x7004) 0x7000 0x3F800000 } 0x24000000)
    [readWord t.mem 0x7004, t.win.status]) = [0x3F800000, 0] := by decide +kernel

/-! Faults (section 7): STATUS, FAULT_CMD, FAULT_INFO0, FAULT_INFO1. -/

theorem test_fault_illegal : faults (cmd State.reset 0x1C090001) = [0x101, 0x1C090001, 0, 0] := by decide +kernel
theorem test_fault_channel : faults (cmd State.reset 0x1C050000) = [0x201, 0x1C050000, 5, 0] := by decide +kernel
theorem test_fault_lifecycle : faults (cmd inited 0x0C400000) = [0x301, 0x0C400000, 1, 0] := by decide +kernel
theorem test_fault_unbound :
    faults (cmd { ready with binds := Binds.zero 2, valid := PerUnit.const [false, false] } 0x1E000000) =
      [0x501, 0x1E000000, 0, 0] := by decide +kernel
theorem test_fault_invalid :
    faults (cmd { ready with valid := PerUnit.const [true, false] } 0x1C010000) = [0x401, 0x1C010000, 1, 0] := by
  decide +kernel
theorem test_fault_rate : faults (cmd (arg inited 0x7FC00000) 0x08000000) = [0x601, 0x08000000, 0x7FC00000, 0] := by
  decide +kernel
theorem test_fault_nonfinite : faults (cmd (arg ready 0x7F800000) 0x10000000) = [0x701, 0x10000000, 0x7F800000, 0] := by
  decide +kernel
theorem test_fault_misaligned :
    faults (cmd (withArgs ready 0x1002 0x2000 1 0) 0x20000000) = [0x801, 0x20000000, 0x1002, 0] := by decide +kernel
theorem test_fault_bus :
    faults (cmd { ready with hw := { ready.hw with regions := [⟨0x1008, 4, .busError⟩] } } 0x12000000) =
      [0x901, 0x12000000, 0x1008, 0] := by decide +kernel
theorem test_fault_range :
    faults (cmd (withArgs ready 0xFFFFFFFC 0x2000 2 0) 0x20000000) = [0xA01, 0x20000000, 0xFFFFFFFC, 0] := by
  decide +kernel
theorem test_range_ends_at_top :
    faults (cmd (withArgs ready 0xFFFFFFFC 0x2000 1 0) 0x20000000) = [0, 0, 0, 0] := by decide +kernel
theorem test_fault_operand :
    faults (cmd (withArgs ready 1 0x3F800000 0 0) 0x36000000) = [0xB01, 0x36000000, 0x3F800000, 0] := by decide +kernel
theorem test_fault_multi_count :
    faults (cmd (withArgs ready 0x2000 0x2100 3 1) 0x24000000) = [0xB01, 0x24000000, 3, 0] := by decide +kernel
theorem test_fault_at_sample_2 :
    (let t := after (cmd { withArgs ready 0x3000 0x4000 3 0 with
      mem := writeWord (writeWord (writeWord [] 0x3000 0x3F800000) 0x3004 0x3F800000) 0x3008 0xFF800000 } 0x20000000)
    [t.win.status, t.win.faultInfo0, t.win.faultInfo1, readWord t.mem 0x4004, readWord t.mem 0x4008]) =
      [0x701, 0xFF800000, 2, 0x3F800000, 0] := by decide +kernel
theorem test_ignored_while_faulted : faults (cmd faulted 0x04000000) = [0x301, 0x1C000000, 0, 0] := by decide +kernel
theorem test_soft_reset :
    (let t := after (step { faulted with inbox := [.store (faulted.hw.base + 0x14) .word 1] })
    (t.win, (t.regs.get .mm1).life)) = ({}, .uninit) := by decide +kernel

/-- The block of `ready` with any window, memory and memory map, its registers at a BASE above 2^32. -/
def world (w : Window) (m : List Host.Cell) (rs : List Region) : State :=
  { ready with hw := { ready.hw with base := 0x100000040, regions := rs }, win := w, mem := m }

theorem ready_cursors_0 (u : UnitId) : cursorsInside ready u 0 := by
  cases u <;> first | exact True.intro | exact (by decide +kernel : (0 : Nat) < 4) | exact fun j => by cases j <;> decide +kernel

theorem ready_cursors_1 (u : UnitId) : cursorsInside ready u 1 := by
  cases u <;> first | exact True.intro | exact (by decide +kernel : (0 : Nat) < 4) | exact fun j => by cases j <;> decide +kernel

theorem ready_bound (u : UnitId) (h : hasMemory u = true) :
    (ready.binding u 0).bound = true ∧ (ready.binding u 1).bound = true := by
  cases u <;> first | exact Bool.noConfusion h | exact ⟨rfl, rfl⟩

theorem ready_arena (u : UnitId) (ch : Nat) (hc : ch < 2) : aligned4 (ready.binding u ch).base = true ∧
    (ready.binding u ch).base.toNat + (ready.memReq u).toNat ≤ 2 ^ 32 := by
  obtain rfl | rfl : ch = 0 ∨ ch = 1 := by omega
  all_goals cases u <;> decide +kernel

theorem ready_flags (u : UnitId) : ∀ ch, channelFlags ready u ch
  | 0 => ⟨fun _ => ⟨by cases u <;> rfl, fun h => ⟨by cases u <;> rfl, (ready_bound u h).1, ready_cursors_0 u⟩⟩,
      fun _ => ⟨by cases u <;> rfl, ready_arena u 0 (by decide)⟩⟩
  | 1 => ⟨fun _ => ⟨by cases u <;> rfl, fun h => ⟨by cases u <;> rfl, (ready_bound u h).2, ready_cursors_1 u⟩⟩,
      fun _ => ⟨by cases u <;> rfl, ready_arena u 1 (by decide)⟩⟩
  | ch + 2 => by cases u <;> exact ⟨fun h => Bool.noConfusion h, fun h => Bool.noConfusion h⟩

theorem ready_lifeRegs (u : UnitId) : lifeRegs (ready.regs.get u) u := by
  cases u <;> exact ⟨by decide +kernel, by decide +kernel, by decide +kernel⟩

theorem ready_delayLayout : delayLayout ready.coefs.delay := by unfold delayLayout; decide +kernel

theorem ready_reverbLayout : reverbLayout ready.coefs.reverb :=
  ⟨fun j => by cases j <;> decide +kernel, fun j => by cases j <;> decide +kernel, by decide +kernel⟩

theorem default_tableLegal : tableLegal RevTable.default :=
  ⟨rfl, fun j => by cases j <;> decide, by decide, by decide, fun k => by cases k <;> (unfold tapInside; decide)⟩

theorem world_inv (w : Window) (m : List Host.Cell) (rs : List Region) (hm : Memory.wf m = true) (hw : legalWindow w) :
    Inv (world w m rs) :=
  ⟨⟨(by decide : 1 ≤ 2), (by decide : 2 ≤ 64), (by decide : 0x100000040 % 64 = 0), default_tableLegal⟩, hm,
    ⟨fun u => by cases u <;> rfl, rfl, rfl, rfl, rfl, rfl, rfl, rfl, rfl, rfl, rfl, rfl, rfl⟩, hw, ready_lifeRegs,
    fun u _ => by cases u <;> first | exact True.intro | exact ready_delayLayout | exact ready_reverbLayout,
    ready_flags⟩

theorem world_admitted (w : Window) (m : List Host.Cell) (rs : List Region) (u : UnitId) (ch : Nat) (h : ch < 2) :
    admitted (world w m rs) u ch := by
  obtain rfl | rfl : ch = 0 ∨ ch = 1 := by omega
  · exact ⟨by cases u <;> rfl, h, fun hu => (ready_bound u hu).1, by cases u <;> rfl⟩
  · exact ⟨by cases u <;> rfl, h, fun hu => (ready_bound u hu).2, by cases u <;> rfl⟩

/-! ### The hypotheses of the statements can be met

Each theorem gives a state and operands that meet a statement's hypotheses together, one for each clause, at the ends of
the clause's range. -/

/-- A window that holds operands and no fault. -/
def ops (a b c d e f : Word) : Window := { arg0 := a, arg1 := b, arg2 := c, arg3 := d, arg4 := e, arg5 := f }

theorem ops_legal (a b c d e f : Word) : legalWindow (ops a b c d e f) := Or.inl ⟨rfl, rfl, rfl, rfl⟩

/-- A refused word is no command's. -/
theorem not_ok_of_rejects {w : Word} {why : Illegal} (h : rejects w why = true) : ¬∃ i, decode w = .ok i := by
  rintro ⟨i, hi⟩
  simp [rejects, hi] at h

/-- A predicate of the state a step ends with. -/
def holds (o : Host.Outcome State Fault Refusal) (p : State → Bool) : Bool :=
  match o with
  | .next t => p t
  | _ => false

theorem exists_of_holds {o : Host.Outcome State Fault Refusal} {p : State → Bool} (h : holds o p = true) :
    ∃ t, o = .next t ∧ p t = true := by
  cases o with
  | next t => exact ⟨t, rfl, h⟩
  | fault f => exact Bool.noConfusion h
  | refused r => exact Bool.noConfusion h

theorem test_witness_EncodeOfDecode :
    decode 0x00000000 = .ok .nop ∧ decode 0x427FF200 = .ok (.readStateReverbMemBase 63) := by decide +kernel

theorem test_witness_LegalWords :
    (∃ i, decode 0x427FF200 = .ok i) ∧ (¬∃ i, decode 0x44000000 = .ok i) ∧
      statusFault State.reset.win.status = false :=
  ⟨⟨_, (by decide +kernel : decode 0x427FF200 = .ok (.readStateReverbMemBase 63))⟩,
    not_ok_of_rejects test_reserved_opcode, rfl⟩

theorem test_witness_CmdWriteRunsCommand :
    decode 0x3C00F000 = .ok .readCoefOnepoleLife ∧ statusFault ready.win.status = false ∧
      statusFault faulted.win.status = true := by decide +kernel

theorem test_witness_FaultedBlock :
    statusFault faulted.win.status = true ∧ accessedReg faulted.hw.base faulted.hw.base .word = some .cmd ∧
      accessedReg faulted.hw.base (faulted.hw.base + 0x3C) .word = some .res1 ∧ (1#32).getLsbD 0 = true := by
  decide +kernel

/-- A doubleword at BASE, a word that starts on the window's last byte, 16 bytes that reach in from below by one; accesses
that end at BASE and that start at BASE + 64; and a word with SOFT_RESET clear. -/
theorem test_witness_WindowAccess :
    (let b := (world {} [] []).hw.base
    b = 0x100000040 ∧ b % 64 = 0 ∧
    (b < b + 64 ∧ b < b + AccessSize.double.bytes ∧ AccessSize.double ≠ .word) ∧
    (b + 63 < b + 64 ∧ b < b + 63 + AccessSize.word.bytes ∧ (b + 63) % 4 ≠ 0) ∧
    (b - 15 < b + 64 ∧ b < b - 15 + (AccessSize.mk 15).bytes ∧ AccessSize.mk 15 ≠ .word) ∧
    b - 4 + AccessSize.word.bytes ≤ b ∧ b + 64 ≤ b + 64 ∧ (0xFFFFFFFE#32).getLsbD 0 = false) := by decide +kernel

/-- The window answers at BASE, a bus error where an access straddles its end, and nothing past it. -/
theorem test_window_answers :
    (let reply := fun a size => (after (step { world {} [] [] with inbox := [.load a size] })).reply
    [reply 0x100000058 .word, reply 0x100000058 .half, reply 0x10000007C .double, reply 0x100000031 ⟨15⟩,
      reply 0x100000030 ⟨15⟩, reply 0x100000080 .word, reply 0x18 .word]) =
      [.data 0x42570001, .busError, .busError, .busError, .elsewhere, .elsewhere, .elsewhere] := by decide +kernel

/-- Each operand register is written at its own offset (R22), and a store to CTRL with SOFT_RESET clear writes nothing. -/
theorem test_operand_writes :
    (let win := fun (off : Nat) (w : Word) =>
      (after (step { world {} [] [] with inbox := [.store (0x100000040 + off) .word w] })).win
    [win 0x20 1, win 0x24 2, win 0x28 3, win 0x2C 4, win 0x30 5, win 0x34 6, win 0x14 0xFFFFFFFE]) =
      [ops 1 0 0 0 0 0, ops 0 2 0 0 0 0, ops 0 0 3 0 0 0, ops 0 0 0 4 0 0, ops 0 0 0 0 5 0, ops 0 0 0 0 0 6, {}] := by
  decide +kernel

theorem test_witness_WordsAreLittleEndian :
    Memory.wf (writeWord [] 0xFFFFFFFC 0x80000001) = true ∧ 0xFFFFFFFC % 4 = 0 ∧ 0xFFFFFFFC + 4 ≤ 2 ^ 32 ∧
      0 % 4 = 0 ∧ 0 + 4 ≤ 2 ^ 32 ∧
    (let s := world {} (writeWord [] 0xFFFFFFFC 0x80000001) [⟨0x10, 4, .busError⟩]
    Memory.wf s.mem = true ∧
      ((0x0C#32).toNat + 4 ≤ 2 ^ 32 ∧ ordinary s (0x0C#32).toNat 4) ∧
      ((0xFFFFFFFC#32).toNat + 4 ≤ 2 ^ 32 ∧ ordinary s (0xFFFFFFFC#32).toNat 4) ∧
      ordinary s (0x0F#32).toNat 1 ∧ ordinary s (0xFFFFFFFF#32).toNat 1) := by unfold ordinary; decide +kernel

/-- 20_memory.md R83: the bytes 0x00, 0x00, 0x80, 0x3F are the word of 1.0. -/
theorem test_host_bytes_are_a_word :
    (let one := fun (m : List Host.Cell) (e : HostEvent) => after (step { world {} m [] with inbox := [e] })
    ((one [(10, 0x80)] (.memStoreByte 11 0x3F)).mem, (one [(10, 0x80), (11, 0x3F)] (.memLoad 8)).reply,
      (one [] (.memStore 8 0x3F800000)).mem, (one [(10, 0x80), (11, 0x3F)] (.memLoadByte 11)).reply)) =
      ([(10, 0x80), (11, 0x3F)], .data 0x3F800000, [(10, 0x80), (11, 0x3F)], .data 0x3F) := by decide +kernel

theorem test_witness_BlockReset : (0x00000001#32).getLsbD 0 = true ∧ (0xFFFFFFFF#32).getLsbD 0 = true := by decide

theorem test_witness_UninitAcceptsOnlyInitAndReads :
    unitOfInstr .initDelay = some .delay ∧ unitOfInstr (.readStateOnepoleYZ1 1) = some .onepole ∧
      unitOfInstr (.memSetReverb 1) = some .reverb ∧ (State.reset.regs.get .delay).life = .uninit ∧
      (State.reset.regs.get .onepole).life = .uninit ∧ (State.reset.regs.get .reverb).life = .uninit ∧
      Instr.initDelay.wellFormed State.reset.hw.nCh = true ∧
      (Instr.readStateOnepoleYZ1 1).wellFormed State.reset.hw.nCh = true ∧
      (Instr.memSetReverb 1).wellFormed State.reset.hw.nCh = true ∧
      (Instr.memSetReverb 1).fields.opc = 0x0C := by decide +kernel

theorem test_witness_ChannelAndLifecycleChecks :
    (Instr.process1Delay 2).channel = some 2 ∧ State.reset.hw.nCh ≤ (2#6).toNat ∧
      unitOfInstr (.process1Delay 1) = some .delay ∧ (Instr.process1Delay 1).wellFormed inited.hw.nCh = true ∧
      ¬lifeAccepted (Instr.process1Delay 1).fields.opc (inited.regs.get .delay).life ∧
      ¬lifeAccepted Instr.setSrDelay.fields.opc (State.reset.regs.get .delay).life ∧
      ¬lifeAccepted Instr.resetCoeffsDelay.fields.opc (inited.regs.get .delay).life := by
  unfold lifeAccepted; decide +kernel

/-- `ready` with no channel bound and none valid. -/
def unbound : State := { ready with binds := Binds.zero 2, valid := PerUnit.const [false, false] }

theorem test_witness_BindingAndValidityChecks :
    ((unbound.regs.get .reverb).life = .ready ∧ (1#6).toNat < unbound.hw.nCh ∧
      hasMemory .reverb = true ∧ (unbound.binding .reverb (1#6).toNat).bound = false) ∧
    ((unbound.regs.get .mm1).life = .ready ∧ hasMemory .mm1 = false ∧ unbound.stValid .mm1 (1#6).toNat = false) ∧
    ((ready.binding .delay (1#6).toNat).bound = true ∧
      ({ ready with valid := unbound.valid } : State).stValid .delay (1#6).toNat = false) := by decide +kernel

theorem test_witness_NonfiniteInputFaults :
    (∀ u, (ready.regs.get u).life = .ready ∧ (1#6).toNat < ready.hw.nCh ∧
      (hasMemory u = true → (ready.binding u (1#6).toNat).bound = true) ∧ ready.stValid u (1#6).toNat = true) ∧
    isFinite 0x7F800000 = false ∧ isFinite 0xFF800000 = false ∧ isFinite 0x7FC00000 = false ∧
      isFinite 0x7F7FFFFF = true ∧ isFinite 0xFF7FFFFF = true :=
  ⟨fun u => by cases u <;> decide +kernel, by decide +kernel⟩

/-- The two triggers of block reset, a store to CTRL that is none, and an idle host. -/
theorem test_witness_OnlyResetClearsFault :
    statusFault faulted.win.status = true ∧
      (resetNext { faulted with inbox := [.resetInput] } ∧
        ∃ t, step { faulted with inbox := [.resetInput] } = .next t ∧ (t.win == {}) = true) ∧
      (resetNext { faulted with inbox := [.store (faulted.hw.base + 0x14) .word 1] } ∧
        ∃ t, step { faulted with inbox := [.store (faulted.hw.base + 0x14) .word 1] } = .next t ∧ (t.win == {}) = true) ∧
      (¬resetNext { faulted with inbox := [.store (faulted.hw.base + 0x14) .word 2] } ∧
        ∃ t, step { faulted with inbox := [.store (faulted.hw.base + 0x14) .word 2] } = .next t ∧
          (t.win == faulted.win) = true) ∧
      ¬resetNext { faulted with inbox := [] } := by
  refine ⟨rfl, ⟨⟨[], .inl rfl⟩, exists_of_holds (by decide +kernel)⟩,
    ⟨⟨[], .inr ⟨1, rfl, rfl⟩⟩, exists_of_holds (by decide +kernel)⟩, ⟨?_, exists_of_holds (by decide +kernel)⟩, ?_⟩
  · rintro ⟨rest, h | ⟨w, hw, h⟩⟩
    · cases h
    · cases h
      cases hw
  · rintro ⟨rest, h | ⟨w, hw, h⟩⟩ <;> cases h

theorem test_witness_InitSetsDefaults :
    nonnegLegal 0x00000000 ∧ nonnegLegal 0x80000000 ∧ nonnegLegal 0x7F7FFFFF ∧ ¬nonnegLegal 0x80000001 ∧
      ¬nonnegLegal 0x7F800000 ∧ ¬nonnegLegal 0x7FC00000 := by unfold nonnegLegal; decide +kernel

theorem test_witness_SetSrOfFilters :
    hasMemory .peak = false ∧ isInited (inited.regs.get .peak).life ∧ isInited (ready.regs.get .onepole).life ∧
      rateLegal 0x3F800000 ∧ rateLegal 0x7F7FFFFF ∧ ¬rateLegal 0x3F7FFFFF ∧ ¬rateLegal 0x7F800000 ∧
      ¬rateLegal 0x7FC00000 := by unfold isInited rateLegal; decide +kernel

theorem test_witness_SetSrOfDelay :
    isInited inited.regs.delay.life ∧ ¬rateLegal 0x3F7FFFFF ∧ ¬rateLegal 0x7F800000 ∧ rateLegal 0x3F800000 ∧
      nonnegLegal 0x4B7FFFFF ∧
      scaled (fMul 0x3F800000 0x4B7FFFFF) ≤ 16777215 * 2 ^ 149 ∧ nonnegLegal 0x4B800000 ∧
      16777215 * 2 ^ 149 < scaled (fMul 0x3F800000 0x4B800000) ∧ nonnegLegal 0x00000000 := by
  unfold isInited rateLegal nonnegLegal; decide +kernel

theorem test_witness_SetSrOfReverb :
    tableLegal inited.hw.revTable ∧ isInited inited.regs.reverb.life ∧ reverbRateLegal 0x447A0000 ∧
      reverbRateLegal 0x493B8000 ∧ ¬reverbRateLegal 0x4479FFFF ∧ ¬reverbRateLegal 0x493B8001 ∧
      ¬reverbRateLegal 0x7FC00000 :=
  ⟨default_tableLegal, by unfold isInited reverbRateLegal; decide +kernel⟩

theorem test_witness_ResetCoeffs :
    (∀ u, (ready.regs.get u).life = .srSet ∨ (ready.regs.get u).life = .ready) ∧
      ({ ready with regs := PerUnit.const { life := .srSet } } : State).regs.reverb.life = .srSet :=
  ⟨fun u => by cases u <;> decide +kernel, rfl⟩

/-- Every unit of `ready` is READY: the hypothesis of UpdateCtrl, UpdateAudio and the UpdateCtrlOf statements. -/
theorem test_witness_UpdateCtrl : ∀ u, (ready.regs.get u).life = .ready := fun u => by cases u <;> rfl

theorem test_witness_UpdateAudio :
    (ready.regs.get .mm2).life = .ready ∧ UnitId.mm2 ≠ .reverb ∧ ready.regs.reverb.life = .ready := by decide +kernel

theorem test_witness_UpdateCtrlOfOnePole : ready.regs.onepole.life = .ready := rfl

theorem test_witness_UpdateCtrlOfMultiMode : ready.regs.mm1.life = .ready ∧ ready.regs.mm2.life = .ready := ⟨rfl, rfl⟩

theorem test_witness_UpdateCtrlOfDerivedFilters :
    (let s : State := { ready with regs := PerUnit.const { life := .ready, dirty := 1 } }
    (s.regs.hp1.life = .ready ∧ s.regs.hp1.dirty ≠ 0) ∧ (s.regs.ls1.life = .ready ∧ s.regs.ls1.dirty ≠ 0) ∧
    (s.regs.ls2.life = .ready ∧ s.regs.ls2.dirty ≠ 0) ∧ (s.regs.ap2.life = .ready ∧ s.regs.ap2.dirty ≠ 0) ∧
    (s.regs.peak.life = .ready ∧ s.regs.peak.dirty ≠ 0)) := by decide +kernel

theorem test_witness_UpdateCtrlOfDelayAndReverb : ready.regs.delay.life = .ready ∧ ready.regs.reverb.life = .ready :=
  ⟨rfl, rfl⟩

theorem test_witness_NumericServices :
    (isFinite 0xFF7FFFFF = true ∧ scaled 0xFF7FFFFF ≤ 0) ∧
    (isNaN 0x3FC8A8E9 = false ∧ 0 ≤ scaled 0x3FC8A8E9 ∧ scaled 0x3FC8A8E9 ≤ scaled 0x3FC8A8E9) ∧
    (isFinite 0x42C80000 = true ∧ -(100 * 2 ^ 149) ≤ scaled 0x42C80000 ∧ scaled 0x42C80000 ≤ 100 * 2 ^ 149) ∧
    (-(100 * 2 ^ 149) ≤ scaled 0xC2C80000 ∧ scaled 0xC2C80000 ≤ 100 * 2 ^ 149) ∧
    (isNaN 0x3F7FFFFF = false ∧ 0 ≤ scaled 0x3F7FFFFF ∧ scaled 0x3F7FFFFF < 2 ^ 149) := by decide +kernel

/-- A tie: 2^24 + 1 is as near to 2^24 as to 2^24 + 2. -/
theorem test_witness_SumAndProductAreNearest :
    isFinite 0x4B800000 = true ∧ isFinite 0x3F800000 = true ∧ isFinite 0x4B800001 = true ∧
      isFinite (fAdd 0x4B800000 0x3F800000) = true ∧ isFinite (fMul 0x4B800000 0x3F800000) = true ∧
      |scaled (fAdd 0x4B800000 0x3F800000) - (scaled 0x4B800000 + scaled 0x3F800000)| =
        |scaled 0x4B800001 - (scaled 0x4B800000 + scaled 0x3F800000)| ∧
      scaled 0x4B800001 ≠ scaled (fAdd 0x4B800000 0x3F800000) := by
  refine ⟨by decide +kernel, by decide +kernel, by decide +kernel, by decide +kernel, by decide +kernel, ?_,
    by decide +kernel⟩
  rw [show scaled (fAdd 0x4B800000 0x3F800000) = 2 ^ 173 by decide +kernel,
    show scaled 0x4B800000 = 2 ^ 173 by decide +kernel, show scaled 0x3F800000 = 2 ^ 149 by decide +kernel,
    show scaled 0x4B800001 = 2 ^ 173 + 2 ^ 150 by decide +kernel]
  norm_num

/-- A finite sample, a channel the block has, a READY unit and a valid channel: the hypotheses of OnePoleSamples,
MultiModeSamples and DerivedSamples. -/
theorem test_witness_OnePoleSamples :
    isFinite (arg ready 0x7F7FFFFF).win.arg0 = true ∧ (1#6).toNat < (arg ready 0x7F7FFFFF).hw.nCh ∧
      (arg ready 0x7F7FFFFF).regs.onepole.life = .ready ∧
      (arg ready 0x7F7FFFFF).stValid .onepole (1#6).toNat = true := by decide +kernel

theorem test_witness_OnePoleHoldsAndPasses :
    (let hold : State := { arg ready 0xFF7FFFFF with coefs := { onepole := { aUp := 0x3F800000, aDown := 0x3F800000 } } }
    isFinite hold.win.arg0 = true ∧ admitted hold .onepole (1#6).toNat ∧ hold.coefs.onepole.aUp = 0x3F800000 ∧
      hold.coefs.onepole.aDown = 0x3F800000) ∧
    admitted (arg ready 0xFF7FFFFF) .onepole (1#6).toNat ∧ (arg ready 0xFF7FFFFF).coefs.onepole.aUp = 0 ∧
      (arg ready 0xFF7FFFFF).coefs.onepole.aDown = 0 := by unfold admitted; decide +kernel

theorem test_witness_MultiModeSamples :
    isFinite (arg ready 0xFF7FFFFF).win.arg0 = true ∧ (1#6).toNat < (arg ready 0xFF7FFFFF).hw.nCh ∧
      (arg ready 0xFF7FFFFF).regs.mm1.life = .ready ∧ (arg ready 0xFF7FFFFF).regs.mm2.life = .ready ∧
      (arg ready 0xFF7FFFFF).stValid .mm1 (1#6).toNat = true ∧
      (arg ready 0xFF7FFFFF).stValid .mm2 (1#6).toNat = true := by decide +kernel

theorem test_witness_DerivedSamples :
    isFinite (arg ready 0x80000000).win.arg0 = true ∧ (0#6).toNat < (arg ready 0x80000000).hw.nCh ∧
      ∀ u, ((arg ready 0x80000000).regs.get u).life = .ready ∧
        (arg ready 0x80000000).stValid u (0#6).toNat = true :=
  ⟨by decide +kernel, by decide +kernel, fun u => by cases u <;> decide +kernel⟩

/-! A state with the invariant, DELAY and REVERB ready, and what each statement about their memory asks besides. -/

/-- The block of `ready` with operands, empty memory and ordinary memory everywhere. -/
def plain (a b c d : Word) : State := world (ops a b c d 0 0) [] []

theorem plain_inv (a b c d : Word) : Inv (plain a b c d) := world_inv _ _ _ rfl (ops_legal ..)

theorem test_witness_ResetStateOfDelay :
    Inv (plain 0x7F7FFFFF 0 0 0) ∧ isFinite (plain 0x7F7FFFFF 0 0 0).win.arg0 = true ∧
      (1#6).toNat < (plain 0x7F7FFFFF 0 0 0).hw.nCh ∧ (plain 0x7F7FFFFF 0 0 0).regs.delay.life = .ready ∧
      ((plain 0x7F7FFFFF 0 0 0).binding .delay (1#6).toNat).bound = true ∧
      ordinary (plain 0x7F7FFFFF 0 0 0) (arenaBase (plain 0x7F7FFFFF 0 0 0) .delay (1#6).toNat)
        (arenaSize (plain 0x7F7FFFFF 0 0 0) .delay) :=
  ⟨plain_inv .., by decide +kernel, by decide +kernel, rfl, by decide +kernel, rfl⟩

theorem test_witness_Process1OfDelay :
    Inv (plain 0xFF7FFFFF 0 0 0) ∧ isFinite (plain 0xFF7FFFFF 0 0 0).win.arg0 = true ∧
      admitted (plain 0xFF7FFFFF 0 0 0) .delay (1#6).toNat ∧
      ordinary (plain 0xFF7FFFFF 0 0 0) (arenaBase (plain 0xFF7FFFFF 0 0 0) .delay (1#6).toNat)
        (arenaSize (plain 0xFF7FFFFF 0 0 0) .delay) :=
  ⟨plain_inv .., by decide +kernel, world_admitted _ _ _ _ _ (by decide), rfl⟩

/-- LEN is 4: index 4 is the last with fraction 0, index 3 with another fraction; 0, 5, and 4 with a fraction are out; so are
fractions 1 and NaN. -/
theorem test_witness_DelayRead :
    (∀ a b, Inv (plain a b 0 0) ∧ admitted (plain a b 0 0) .delay (1#6).toNat ∧
      ordinary (plain a b 0 0) (arenaBase (plain a b 0 0) .delay (1#6).toNat) (4 * 4)) ∧
    (plain 0 0 0 0).coefs.delay.len.toNat = 4 ∧
    (isFinite 0x80000000 = true ∧ scaled 0x80000000 = 0) ∧
    (isFinite 0x3F7FFFFF = true ∧ 0 ≤ scaled 0x3F7FFFFF ∧ scaled 0x3F7FFFFF < 2 ^ 149 ∧ scaled 0x3F7FFFFF ≠ 0) ∧
    ¬(isFinite 0x3F800000 = true ∧ 0 ≤ scaled 0x3F800000 ∧ scaled 0x3F800000 < 2 ^ 149) ∧
    ¬(isFinite 0x7FC00000 = true ∧ 0 ≤ scaled 0x7FC00000 ∧ scaled 0x7FC00000 < 2 ^ 149) :=
  ⟨fun _ _ => ⟨plain_inv .., world_admitted _ _ _ _ _ (by decide), rfl⟩, by decide +kernel⟩

theorem test_witness_DelayWrite :
    (Inv (plain 0x7F800000 0 0 0) ∧ admitted (plain 0x7F800000 0 0 0) .delay (0#6).toNat ∧
      isFinite (plain 0x7F800000 0 0 0).win.arg0 = false) ∧
    (Inv (plain 0x7F7FFFFF 0 0 0) ∧ admitted (plain 0x7F7FFFFF 0 0 0) .delay (0#6).toNat ∧
      isFinite (plain 0x7F7FFFFF 0 0 0).win.arg0 = true ∧
      ordinary (plain 0x7F7FFFFF 0 0 0) (arenaBase (plain 0x7F7FFFFF 0 0 0) .delay (0#6).toNat) (4 * 4)) :=
  ⟨⟨plain_inv .., world_admitted _ _ _ _ _ (by decide), by decide +kernel⟩,
    ⟨plain_inv .., world_admitted _ _ _ _ _ (by decide), by decide +kernel, rfl⟩⟩

/-- The longest run: LEN samples. -/
theorem test_witness_DelayRoundTrip :
    Inv (plain 0 0 0 0) ∧ admitted (plain 0 0 0 0) .delay (1#6).toNat ∧
      ordinary (plain 0 0 0 0) (arenaBase (plain 0 0 0 0) .delay (1#6).toNat) (arenaSize (plain 0 0 0 0) .delay) ∧
      isFinite 0x3F800000 = true ∧ (∀ y ∈ [0x40000000#32, 0x80000000#32, 0x7F7FFFFF#32], isFinite y = true) ∧
      [0x40000000#32, 0x80000000#32, 0x7F7FFFFF#32].length + 1 ≤ (plain 0 0 0 0).coefs.delay.len.toNat ∧
      ([] : List F32).length + 1 ≤ (plain 0 0 0 0).coefs.delay.len.toNat :=
  ⟨plain_inv .., world_admitted _ _ _ _ _ (by decide), rfl, by decide +kernel, List.all_eq_true.mp (by decide +kernel),
    by decide +kernel, by decide +kernel⟩

theorem test_witness_ResetStateOfReverb :
    Inv (plain 0x3F800000 0x7F7FFFFF 0 0) ∧ isFinite (plain 0x3F800000 0x7F7FFFFF 0 0).win.arg0 = true ∧
      isFinite (plain 0x3F800000 0x7F7FFFFF 0 0).win.arg1 = true ∧ (1#6).toNat < (plain 0x3F800000 0x7F7FFFFF 0 0).hw.nCh ∧
      (plain 0x3F800000 0x7F7FFFFF 0 0).regs.reverb.life = .ready ∧
      ((plain 0x3F800000 0x7F7FFFFF 0 0).binding .reverb (1#6).toNat).bound = true ∧
      ordinary (plain 0x3F800000 0x7F7FFFFF 0 0) (arenaBase (plain 0x3F800000 0x7F7FFFFF 0 0) .reverb (1#6).toNat)
        (arenaSize (plain 0x3F800000 0x7F7FFFFF 0 0) .reverb) :=
  ⟨plain_inv .., by decide +kernel, by decide +kernel, by decide +kernel, rfl, by decide +kernel, rfl⟩

theorem test_witness_Process1OfReverb :
    Inv (plain 0x3F800000 0xFF7FFFFF 0 0) ∧ isFinite (plain 0x3F800000 0xFF7FFFFF 0 0).win.arg0 = true ∧
      isFinite (plain 0x3F800000 0xFF7FFFFF 0 0).win.arg1 = true ∧
      admitted (plain 0x3F800000 0xFF7FFFFF 0 0) .reverb (1#6).toNat ∧
      ordinary (plain 0x3F800000 0xFF7FFFFF 0 0) (arenaBase (plain 0x3F800000 0xFF7FFFFF 0 0) .reverb (1#6).toNat)
        (arenaSize (plain 0x3F800000 0xFF7FFFFF 0 0) .reverb) :=
  ⟨plain_inv .., by decide +kernel, by decide +kernel, world_admitted _ _ _ _ _ (by decide), rfl⟩

/-! Batched commands: DELAY on one buffer in place that ends at 2^32, ONEPOLE and REVERB with apart buffers. -/

/-- The block of `ready` whose two input samples, at a base, are 1.0 and -0. -/
def samples (a : Nat) (w : Window) : State := world w (writeWord (writeWord [] a 0x3F800000) (a + 4) 0x80000000) []

theorem readBeforeWritten_self (b : Word) (n : Nat) : readBeforeWritten b b n := by
  intro i j h _ e; omega

/-- One buffer in place, and it ends at 2^32. -/
def inPlace : State := samples 0xFFFFFFF8 (ops 0xFFFFFFF8 0xFFFFFFF8 2 0 0 0)

/-- The hypotheses of ProcessCompletes. -/
def ProcessHyps (u : UnitId) (s : State) (ch : BitVec 6) : Prop :=
  Inv s ∧ admitted s u ch.toNat ∧ (hasMemory u = true → ordinary s (arenaBase s u ch.toNat) (arenaSize s u)) ∧
    (∀ b ∈ inArgs u s.win ++ outArgs u s.win, bufferPlain s b (processN u s.win)) ∧
    ∀ b ∈ inArgs u s.win, samplesFinite s b (processN u s.win) ∧
      (hasMemory u = true → clearOfArena s u ch.toNat b (processN u s.win)) ∧
      ∀ c ∈ outArgs u s.win, readBeforeWritten b c (processN u s.win)

theorem inPlace_process (u : UnitId) (h : u ≠ .reverb) : ProcessHyps u inPlace 1 := by
  have hb : bufferPlain inPlace 0xFFFFFFF8 2 := ⟨by decide +kernel, by decide +kernel, rfl⟩
  have hf : samplesFinite inPlace 0xFFFFFFF8 2 := by unfold samplesFinite; decide +kernel
  have ho : inArgs u inPlace.win = [0xFFFFFFF8] ∧ outArgs u inPlace.win = [0xFFFFFFF8] ∧
      processN u inPlace.win = 2 := by cases u <;> first | exact absurd rfl h | exact ⟨rfl, rfl, rfl⟩
  have hc : hasMemory u = true → clearOfArena inPlace u (1#6).toNat 0xFFFFFFF8 2 := by
    intro hm; cases u <;> first | exact Bool.noConfusion hm | exact Or.inr (by decide +kernel)
  unfold ProcessHyps
  rw [ho.1, ho.2.1, ho.2.2]
  refine ⟨world_inv _ _ _ (by decide +kernel) (ops_legal ..), world_admitted _ _ _ _ _ (by decide), fun _ => rfl, ?_, ?_⟩
  · intro b hm; simp only [List.cons_append, List.nil_append, List.mem_cons, List.not_mem_nil, or_false, or_self] at hm
    exact hm ▸ hb
  · intro b hm
    rw [List.mem_singleton] at hm; subst hm
    refine ⟨hf, hc, fun c hm => ?_⟩
    rw [List.mem_singleton] at hm; subst hm
    exact readBeforeWritten_self _ _

/-- REVERB: inputs at 0x5000, outputs at 0x6000 and at 0x5000 in place; both inputs are one buffer. -/
def stereo : State := samples 0x5000 (ops 0x5000 0x5000 0x6000 0x5000 2 0)

theorem stereo_process : ProcessHyps .reverb stereo 1 := by
  refine ⟨world_inv _ _ _ (by decide +kernel) (ops_legal ..), world_admitted _ _ _ _ _ (by decide), fun _ => rfl, ?_, ?_⟩
  · show ∀ b ∈ [0x5000#32, 0x5000#32, 0x6000#32, 0x5000#32], bufferPlain stereo b 2
    simp only [List.forall_mem_cons, List.not_mem_nil, false_imp_iff, implies_true, and_true]
    unfold bufferPlain ordinary; decide +kernel
  · intro b hm
    change b ∈ [0x5000#32, 0x5000#32] at hm
    obtain rfl : b = 0x5000#32 := by
      simpa only [List.mem_cons, List.not_mem_nil, or_false, or_self] using hm
    refine ⟨by unfold samplesFinite; decide +kernel, fun _ => Or.inr (by decide +kernel), fun c hc => ?_⟩
    change c ∈ [0x6000#32, 0x5000#32] at hc
    obtain rfl | rfl : c = 0x6000#32 ∨ c = 0x5000#32 := by
      simpa only [List.mem_cons, List.not_mem_nil, or_false] using hc
    · intro i j hj hi e
      change i < 2 at hi
      change 0x5000 + 4 * i = 0x6000 + 4 * j at e
      omega
    · exact readBeforeWritten_self _ _

theorem test_witness_ProcessCompletes :
    ProcessHyps .mm1 inPlace 1 ∧ ProcessHyps .delay inPlace 1 ∧ ProcessHyps .reverb stereo 1 :=
  ⟨inPlace_process _ (by decide), inPlace_process _ (by decide), stereo_process⟩

/-- The two tables of `tables` and `stereoTables`, at 0x5000 and 0x5008, each of the buffers 0x6000 and 0x6010, and one sample
in each buffer. -/
def tableWords : List Host.Cell :=
  writeWord (writeWord (writeWord (writeWord (writeWord (writeWord [] 0x5000 0x6000) 0x5004 0x6010)
    0x5008 0x6000) 0x500C 0x6010) 0x6000 0x3F800000) 0x6010 0xBF800000

/-- PROCESS_MULTI of N_CH channels and one sample, its buffers in place. -/
def tables : State := world (ops 0x5000 0x5008 2 1 0 0) tableWords []

/-- The same for REVERB: both inputs from the first table, both outputs to the buffers of the second. -/
def stereoTables : State := world (ops 0x5000 0x5000 0x5008 0x5008 2 1) tableWords []

/-- The hypotheses of ProcessMultiCompletes. -/
def MultiHyps (u : UnitId) (s : State) : Prop :=
  Inv s ∧ (s.regs.get u).life = .ready ∧ (multiM u s.win).toNat ≤ s.hw.nCh ∧
    (∀ c, c < (multiM u s.win).toNat → admitted s u c ∧
      (hasMemory u = true → ordinary s (arenaBase s u c) (arenaSize s u))) ∧
    (∀ T ∈ inArgs u s.win ++ outArgs u s.win, bufferPlain s T (multiM u s.win).toNat ∧
      ∀ c, c < (multiM u s.win).toNat → bufferPlain s (tableEntry s T c) (multiN u s.win)) ∧
    ∀ T ∈ inArgs u s.win, ∀ c, c < (multiM u s.win).toNat →
      samplesFinite s (tableEntry s T c) (multiN u s.win) ∧
      ∀ c', c' < (multiM u s.win).toNat →
        (hasMemory u = true → clearOfArena s u c' (tableEntry s T c) (multiN u s.win)) ∧
        ∀ T' ∈ outArgs u s.win, readBeforeWritten (tableEntry s T c) (tableEntry s T' c') (multiN u s.win)

/-- Two channels and one sample of the words of `tableWords` meet them, for every unit. -/
theorem tableWords_multi (u : UnitId) (w : Window) (hm : (multiM u w).toNat = 2) (hn : multiN u w = 1)
    (hT : ∀ T ∈ inArgs u w ++ outArgs u w, T = 0x5000 ∨ T = 0x5008) (hw : legalWindow w) :
    MultiHyps u (world w tableWords []) := by
  have two : ∀ c, c < 2 → c = 0 ∨ c = 1 := fun c hc => by omega
  have entry : ∀ T, T = 0x5000#32 ∨ T = 0x5008#32 → ∀ c, c < 2 →
      tableEntry (world w tableWords []) T c = if c = 0 then 0x6000 else 0x6010 := by
    have e0 : readWord tableWords 0x5000 = 0x6000 ∧ readWord tableWords 0x5004 = 0x6010 := by decide +kernel
    have e1 : readWord tableWords 0x5008 = 0x6000 ∧ readWord tableWords 0x500C = 0x6010 := by decide +kernel
    rintro T (rfl | rfl) c hc <;> obtain rfl | rfl := two c hc
    exacts [e0.1, e0.2, e1.1, e1.2]
  have finite : isFinite (readWord tableWords 0x6000) = true ∧ isFinite (readWord tableWords 0x6010) = true := by
    decide +kernel
  have arena : ∀ u c, c < 2 → arenaBase ready u c + arenaSize ready u ≤ 0x6000 := fun u c hc => by
    obtain rfl | rfl := two c hc <;> cases u <;> decide +kernel
  show _ ∧ _ ∧ (multiM u w).toNat ≤ 2 ∧ (∀ c, c < (multiM u w).toNat → _) ∧
    (∀ T ∈ inArgs u w ++ outArgs u w, bufferPlain _ T (multiM u w).toNat ∧
      ∀ c, c < (multiM u w).toNat → bufferPlain _ _ (multiN u w)) ∧
    ∀ T ∈ inArgs u w, ∀ c, c < (multiM u w).toNat → samplesFinite _ _ (multiN u w) ∧
      ∀ c', c' < (multiM u w).toNat → (_ → clearOfArena _ u c' _ (multiN u w)) ∧
        ∀ T' ∈ outArgs u w, readBeforeWritten _ _ (multiN u w)
  rw [hm, hn]
  refine ⟨world_inv _ _ _ (by decide +kernel) hw, by cases u <;> rfl, le_refl 2,
    fun c hc => ⟨world_admitted _ _ _ _ _ hc, fun _ => rfl⟩, fun T h => ⟨?_, fun c hc => ?_⟩,
    fun T h c hc => ⟨fun i hi => ?_, fun c' hc' => ⟨fun _ => Or.inr ?_, fun _ _ i j hj hi => by omega⟩⟩⟩
  · obtain rfl | rfl := hT T h <;> exact ⟨by decide, by decide, rfl⟩
  · rw [entry T (hT T h) c hc]
    obtain rfl | rfl := two c hc <;> exact ⟨by decide, by decide, rfl⟩
  · rw [entry T (hT T (List.mem_append_left _ h)) c hc, show i = 0 by omega]
    obtain rfl | rfl := two c hc
    exacts [finite.1, finite.2]
  · rw [entry T (hT T (List.mem_append_left _ h)) c hc]
    exact Nat.le_trans (arena u c' hc') (by obtain rfl | rfl := two c hc <;> decide)

theorem tables_multi (u : UnitId) (h : u ≠ .reverb) : MultiHyps u tables := by
  refine tableWords_multi u _ ?_ ?_ ?_ (ops_legal ..)
  · cases u <;> first | exact absurd rfl h | rfl
  · cases u <;> first | exact absurd rfl h | rfl
  · cases u <;> first | exact absurd rfl h | (intro T hT; simpa [inArgs, outArgs, ops] using hT)

theorem stereoTables_multi : MultiHyps .reverb stereoTables :=
  tableWords_multi .reverb _ rfl rfl (by intro T hT; simpa [inArgs, outArgs, ops, or_assoc] using hT) (ops_legal ..)

/-- Every unit, two channels and one sample. -/
theorem test_witness_ProcessMultiCompletes :
    (∀ u, u ≠ .reverb → MultiHyps u tables) ∧ MultiHyps .reverb stereoTables := ⟨tables_multi, stereoTables_multi⟩

/-- PROCESS and PROCESS_MULTI answer next states. -/
theorem test_witness_BatchedCommandsWriteOnlyOutputs :
    Inv inPlace ∧ (∃ t, exec (processOf .delay 1) inPlace = .next t ∧ (t.win.status == 0) = true) ∧
      Inv tables ∧ (∃ t, exec (processMultiOf .delay) tables = .next t ∧ (t.win.status == 0) = true) :=
  ⟨(inPlace_process .delay (by decide)).1, exists_of_holds (by decide +kernel), (tables_multi .delay (by decide)).1,
    exists_of_holds (by decide +kernel)⟩

/-- Buffers that pass the operand checks, tested. -/
def allLegal (n : Nat) (bs : List Word) : Bool :=
  bs.all fun b => decide (b.toNat % 4 = 0) && decide (b.toNat + 4 * n ≤ 2 ^ 32)

theorem legal_of_all {n : Nat} {bs : List Word} (h : allLegal n bs = true) : ∀ b ∈ bs, bufferLegal n b := fun b hb => by
  simpa [bufferLegal] using List.all_eq_true.mp h b hb

/-- Addresses that no region answers, tested. -/
def allOrdinary (s : State) (as : List Nat) : Bool := as.all fun a => regionAt s.hw.regions a 4 == none

theorem ordinary_of_all {s : State} {as : List Nat} (h : allOrdinary s as = true) : ∀ a ∈ as, ordinary s a 4 :=
  fun a ha => beq_iff_eq.mp (List.all_eq_true.mp h a ha)

theorem not_fails_of_all {s : State} {as : List Nat} (h : allOrdinary s as = true) : ∀ a ∈ as, ¬busFails s a :=
  fun a ha hb => by rw [busFails, show regionAt s.hw.regions a 4 = none from ordinary_of_all h a ha] at hb; cases hb

/-- A list, cut before the place `k`. -/
theorem cut_at {α : Type} {l : List α} {k : Nat} {a : α} (h : l[k]? = some a) : l = l.take k ++ a :: l.drop (k + 1) := by
  obtain ⟨hk, rfl⟩ := List.getElem?_eq_some_iff.mp h
  rw [← List.drop_eq_getElem_cons hk, List.take_append_drop]

theorem world_multiAdmitted (u : UnitId) (w : Window) (m : List Host.Cell) (rs : List Region)
    (h : (multiM u w).toNat ≤ 2) : multiAdmitted (world w m rs) u :=
  ⟨by cases u <;> rfl, h, fun c hc => world_admitted _ _ _ _ _ (Nat.lt_of_lt_of_le hc h)⟩

/-- The block of `ready` on a platform that answers an error to the word at an address. -/
def brokenAt (a : Nat) (w : Window) : State := world w [] [⟨a, 4, .busError⟩]

/-- PROCESS of ONEPOLE and of DELAY to its end, of REVERB up to an error of its second input's first word. -/
theorem test_witness_ProcessIsTheHostLoop :
    (∀ u, u ≠ .reverb → statusFault inPlace.win.status = false ∧ admitted inPlace u (1#6).toNat ∧
      ∀ b ∈ inArgs u inPlace.win ++ outArgs u inPlace.win, bufferLegal (processN u inPlace.win) b) ∧
    (∃ t, exec (processOf .onepole 1) inPlace = .next t ∧ (statusFault t.win.status == false) = true) ∧
    (∃ t, exec (processOf .delay 1) inPlace = .next t ∧ (statusFault t.win.status == false) = true) ∧
    (let s := brokenAt 0x6000 (ops 0x5000 0x6000 0x7000 0x7100 1 0)
    admitted s .reverb (1#6).toNat ∧
      (∀ b ∈ inArgs .reverb s.win ++ outArgs .reverb s.win, bufferLegal (processN .reverb s.win) b) ∧
      ∃ t, exec (processOf .reverb 1) s = .next t ∧ (t.win.faultInfo0 == 0x6000) = true) := by
  refine ⟨fun u h => ⟨rfl, world_admitted _ _ _ _ _ (by decide), legal_of_all ?_⟩, exists_of_holds (by decide +kernel),
    exists_of_holds (by decide +kernel), world_admitted _ _ _ _ _ (by decide), legal_of_all (by decide +kernel),
    exists_of_holds (by decide +kernel)⟩
  cases u <;> first | exact absurd rfl h | decide +kernel

theorem tables_operands (u : UnitId) (h : u ≠ .reverb) : multiAdmitted tables u ∧ multiOperands tables u := by
  refine ⟨world_multiAdmitted _ _ _ _ ?_, legal_of_all ?_, not_fails_of_all ?_, legal_of_all ?_⟩ <;>
    cases u <;> first | exact absurd rfl h | decide +kernel

/-- The same of PROCESS_MULTI: DELAY to its end, REVERB up to an error of an input word. -/
theorem test_witness_ProcessIsTheHostLoop_multi :
    tables.hw.nCh ≤ 64 ∧ statusFault tables.win.status = false ∧
    (∀ u, u ≠ .reverb → multiAdmitted tables u ∧ multiOperands tables u) ∧
    (∃ t, exec (processMultiOf .delay) tables = .next t ∧ (statusFault t.win.status == false) = true) ∧
    (let s := world stereoTables.win tableWords [⟨0x6010, 4, .busError⟩]
    multiAdmitted s .reverb ∧ multiOperands s .reverb ∧
      ∃ t, exec (processMultiOf .reverb) s = .next t ∧ (t.win.faultInfo0 == 0x6010) = true) :=
  ⟨by decide +kernel, rfl, tables_operands, exists_of_holds (by decide +kernel), world_multiAdmitted _ _ _ _ (by decide +kernel),
    ⟨legal_of_all (by decide +kernel), not_fails_of_all (by decide +kernel), legal_of_all (by decide +kernel)⟩,
    exists_of_holds (by decide +kernel)⟩

/-- A non-finite sample after one finite sample, and a non-finite first sample. -/
theorem test_witness_NonfiniteSampleIsPrecise :
    (statusFault (ops 0x5000 0x6000 2 0 0 0).status = false ∧
      ∃ t, exec (processOf .ls1 1) (world (ops 0x5000 0x6000 2 0 0 0)
        (writeWord (writeWord [] 0x5000 0x3F800000) 0x5004 0x7FC00000) []) = .next t ∧
        (t.win.status == statusOf .nonfinite && t.win.faultInfo1 == 1) = true) ∧
    ∃ t, exec (processOf .reverb 1) (world (ops 0x5000 0x6000 0x7000 0x7100 1 0)
      (writeWord [] 0x6000 0xFF800000) []) = .next t ∧
      (t.win.status == statusOf .nonfinite && t.win.faultInfo1 == 0) = true :=
  ⟨⟨rfl, exists_of_holds (by decide +kernel)⟩, exists_of_holds (by decide +kernel)⟩

/-- The same of PROCESS_MULTI, in the second channel. -/
theorem test_witness_NonfiniteSampleIsPrecise_multi :
    (∃ t, exec (processMultiOf .delay) (world (ops 0x5000 0x5008 2 2 0 0) (writeWord tableWords 0x6014 0x7FC00000) []) =
      .next t ∧ (t.win.status == statusOf .nonfinite && t.win.faultInfo1 == 1) = true) ∧
    ∃ t, exec (processMultiOf .reverb) (world stereoTables.win (writeWord tableWords 0x6010 0xFF800000) []) = .next t ∧
      (t.win.status == statusOf .nonfinite && t.win.faultInfo1 == 0) = true :=
  ⟨exists_of_holds (by decide +kernel), exists_of_holds (by decide +kernel)⟩

/-- The second buffer of ONEPOLE: misaligned, and past 2^32. -/
theorem test_witness_BatchedOperandChecks :
    (admitted (plain 0x5000 0x6001 1 0) .onepole (1#6).toNat ∧
      inArgs .onepole (plain 0x5000 0x6001 1 0).win ++ outArgs .onepole (plain 0x5000 0x6001 1 0).win =
        [0x5000] ++ 0x6001 :: [] ∧ (∀ c ∈ [0x5000#32], bufferLegal 1 c) ∧ (0x6001#32).toNat % 4 ≠ 0) ∧
    (admitted (plain 0x5000 0xFFFFFFFC 2 0) .onepole (1#6).toNat ∧
      inArgs .onepole (plain 0x5000 0xFFFFFFFC 2 0).win ++ outArgs .onepole (plain 0x5000 0xFFFFFFFC 2 0).win =
        [0x5000] ++ 0xFFFFFFFC :: [] ∧ (∀ c ∈ [0x5000#32], bufferLegal 2 c) ∧ (0xFFFFFFFC#32).toNat % 4 = 0 ∧
      2 ^ 32 < (0xFFFFFFFC#32).toNat + 4 * processN .onepole (plain 0x5000 0xFFFFFFFC 2 0).win) :=
  ⟨⟨world_admitted _ _ _ _ _ (by decide), by decide +kernel, legal_of_all (by decide), by decide +kernel⟩,
    world_admitted _ _ _ _ _ (by decide), by decide +kernel, legal_of_all (by decide), by decide +kernel, by decide +kernel⟩

/-- PROCESS_MULTI: a channel count one above N_CH; with the last channel unbound, or invalid. -/
theorem test_witness_BatchedOperandChecks_channels :
    (((plain 0 0 3 0).regs.get .mm1).life = .ready ∧ (plain 0 0 3 0).hw.nCh < (multiM .mm1 (plain 0 0 3 0).win).toNat) ∧
    (let s := { plain 0x5000 0x5008 2 1 with binds := { delay := [⟨true, 0x1000⟩, {}], reverb := [{}, {}] } }
    (s.regs.get .delay).life = .ready ∧ (multiM .delay s.win).toNat ≤ s.hw.nCh ∧ 1 < (multiM .delay s.win).toNat ∧
      (∀ c, c < 1 → admitted s .delay c) ∧ hasMemory .delay = true ∧ (s.binding .delay 1).bound = false) ∧
    (let s := { plain 0x5000 0x5008 2 1 with valid := PerUnit.const [true, false] }
    (∀ c, c < 1 → admitted s .delay c ∧ admitted s .mm1 c) ∧ (s.binding .delay 1).bound = true ∧
      s.stValid .delay 1 = false ∧ s.stValid .mm1 1 = false) := by
  unfold admitted; decide +kernel

/-- PROCESS_MULTI: its second table misaligned, and past 2^32; its last pointer misaligned, and past 2^32. -/
theorem test_witness_BatchedOperandChecks_tables :
    (let s := plain 0x5000 0x5009 2 1
    multiAdmitted s .ap2 ∧ inArgs .ap2 s.win ++ outArgs .ap2 s.win = [0x5000] ++ 0x5009 :: [] ∧
      (∀ T ∈ [0x5000#32], bufferLegal 2 T) ∧ (0x5009#32).toNat % 4 ≠ 0) ∧
    (let s := plain 0x5000 0xFFFFFFFC 2 1
    multiAdmitted s .ap2 ∧ inArgs .ap2 s.win ++ outArgs .ap2 s.win = [0x5000] ++ 0xFFFFFFFC :: [] ∧
      (0xFFFFFFFC#32).toNat % 4 = 0 ∧ 2 ^ 32 < (0xFFFFFFFC#32).toNat + 4 * (multiM .ap2 s.win).toNat) ∧
    ∀ p ∈ [(0x6012#32, 1#32), (0xFFFFFFFC#32, 2#32)],
      let s := world (ops 0x5000 0x5008 2 p.2 0 0) (writeWord tableWords 0x500C p.1) []
      multiAdmitted s .ap2 ∧ (∀ T ∈ inArgs .ap2 s.win ++ outArgs .ap2 s.win, bufferLegal 2 T) ∧
        (∀ a ∈ tableReads .ap2 s.win, ordinary s a 4) ∧
        tablePointers .ap2 s = [0x6000, 0x6010, 0x6000] ++ p.1 :: [] ∧
        (∀ c ∈ [0x6000#32, 0x6010#32, 0x6000#32], bufferLegal (multiN .ap2 s.win) c) ∧
        (p.1.toNat % 4 ≠ 0 ∨ p.1.toNat % 4 = 0 ∧ 2 ^ 32 < p.1.toNat + 4 * multiN .ap2 s.win) := by
  refine ⟨⟨world_multiAdmitted _ _ _ _ (by decide +kernel), by decide +kernel, legal_of_all (by decide), by decide⟩,
    ⟨world_multiAdmitted _ _ _ _ (by decide +kernel), by decide +kernel, by decide, by decide +kernel⟩,
    List.forall_mem_cons.mpr ⟨?_, List.forall_mem_cons.mpr ⟨?_, fun _ h => nomatch h⟩⟩⟩
  exacts [⟨world_multiAdmitted _ _ _ _ (by decide +kernel), legal_of_all (by decide +kernel), ordinary_of_all (by decide +kernel),
      by decide +kernel, legal_of_all (by decide +kernel), by decide +kernel⟩,
    ⟨world_multiAdmitted _ _ _ _ (by decide +kernel), legal_of_all (by decide +kernel), ordinary_of_all (by decide +kernel),
      by decide +kernel, legal_of_all (by decide +kernel), by decide +kernel⟩]

/-- DELAY's store at the cursor; the last whole index and the last one between two words; the load of DI 2 behind the word
just written; and word 2 of a fill. Channel 1's arena is at 0x2000. -/
theorem test_witness_BusErrors_delay :
    (let s := brokenAt 0x2000 (ops 0x7F7FFFFF 0 0 0 0 0)
    Inv s ∧ isFinite s.win.arg0 = true ∧ admitted s .delay (1#6).toNat ∧
      busFails s (arenaBase s .delay (1#6).toNat + 4 * lineCursor s (.delay (1#6).toNat))) ∧
    (let s := brokenAt 0x2000 (ops 4 0 0 0 0 0)
    Inv s ∧ admitted s .delay (1#6).toNat ∧ s.coefs.delay.len = 4 ∧
      busFails s (arenaBase s .delay (1#6).toNat + 4 * lineIndex s (.delay (1#6).toNat) 4)) ∧
    (let s := brokenAt 0x2000 (ops 3 0x3F7FFFFF 0 0 0 0)
    Inv s ∧ admitted s .delay (1#6).toNat ∧ isFinite s.win.arg1 = true ∧ scaled s.win.arg1 ≠ 0 ∧
      ordinary s (arenaBase s .delay (1#6).toNat + 4 * lineIndex s (.delay (1#6).toNat) 3) 4 ∧
      busFails s (arenaBase s .delay (1#6).toNat + 4 * lineIndex s (.delay (1#6).toNat) (3 + 1))) ∧
    (let s0 := brokenAt 0x2008 (ops 0x7F7FFFFF 0 0 0 0 0)
    let s := { s0 with coefs := { s0.coefs with delay := { s0.coefs.delay with di := 2 } } }
    let s' := setCursor s (.delay (1#6).toNat) 1
    Inv s ∧ isFinite s.win.arg0 = true ∧ admitted s .delay (1#6).toNat ∧
      ordinary s (arenaBase s .delay (1#6).toNat + 4 * lineCursor s (.delay (1#6).toNat)) 4 ∧
      busFails s (arenaBase s .delay (1#6).toNat + 4 * lineIndex s' (.delay (1#6).toNat) (2 + 1))) ∧
    (let s := brokenAt 0x2008 (ops 0x7F7FFFFF 0 0 0 0 0)
    Inv s ∧ isFinite s.win.arg0 = true ∧ (1#6).toNat < s.hw.nCh ∧ s.regs.delay.life = .ready ∧
      (s.binding .delay (1#6).toNat).bound = true ∧ 2 < s.coefs.delay.len.toNat ∧
      (∀ j, j < 2 → ordinary s (arenaBase s .delay (1#6).toNat + 4 * j) 4) ∧
      busFails s (arenaBase s .delay (1#6).toNat + 4 * 2)) := by
  refine ⟨⟨world_inv _ _ _ rfl (ops_legal ..), by decide +kernel, world_admitted _ _ _ _ _ (by decide), by decide +kernel⟩,
    ⟨world_inv _ _ _ rfl (ops_legal ..), world_admitted _ _ _ _ _ (by decide), rfl, by decide +kernel⟩,
    ⟨world_inv _ _ _ rfl (ops_legal ..), world_admitted _ _ _ _ _ (by decide), by decide +kernel, by decide +kernel,
      by unfold ordinary; decide +kernel, by decide +kernel⟩,
    ⟨world_inv (ops 0x7F7FFFFF 0 0 0 0 0) [] [⟨0x2008, 4, .busError⟩] rfl (ops_legal ..), by decide +kernel,
      world_admitted (ops 0x7F7FFFFF 0 0 0 0 0) [] [⟨0x2008, 4, .busError⟩] _ _ (by decide),
      by unfold ordinary; decide +kernel, by decide +kernel⟩,
    ⟨world_inv _ _ _ rfl (ops_legal ..), by decide +kernel, by decide +kernel, rfl, by decide +kernel, by decide +kernel,
      by unfold ordinary; decide +kernel, by decide +kernel⟩⟩

/-- RESET_STATE of REVERB at the first word and at the last word of its arena (0x4000 to 0x4064). -/
theorem test_witness_BusErrors_reverb_reset :
    ∀ p ∈ [(0x4000, RevLine.pd, 0), (0x4064, RevLine.dlR2, 1)],
      let s := brokenAt p.1 (ops 0x3F800000 0xBF800000 0 0 0 0)
      Inv s ∧ isFinite s.win.arg0 = true ∧ isFinite s.win.arg1 = true ∧ (1#6).toNat < s.hw.nCh ∧
        s.regs.reverb.life = .ready ∧ (s.binding .reverb (1#6).toNat).bound = true ∧
        p.2.2 < (s.coefs.reverb.cap.get p.2.1).toNat ∧
        (∀ x, 4 * x < (s.coefs.reverb.off.get p.2.1).toNat + 4 * p.2.2 →
          ordinary s (arenaBase s .reverb (1#6).toNat + 4 * x) 4) ∧
        busFails s (arenaBase s .reverb (1#6).toNat + (s.coefs.reverb.off.get p.2.1).toNat + 4 * p.2.2) := by
  simp only [List.forall_mem_cons, List.not_mem_nil, false_imp_iff, implies_true, and_true]
  refine ⟨⟨world_inv _ _ _ rfl (ops_legal ..), by decide +kernel, by decide +kernel, by decide +kernel, rfl, by decide +kernel,
      by decide +kernel, fun x hx => absurd hx (by change ¬4 * x < 0; omega), by decide +kernel⟩,
    world_inv _ _ _ rfl (ops_legal ..), by decide +kernel, by decide +kernel, by decide +kernel, rfl, by decide +kernel,
    by decide +kernel, fun x hx => ?_, by decide +kernel⟩
  change 4 * x < 100 at hx
  exact (by unfold ordinary; decide +kernel : ∀ x, x < 25 → ordinary (brokenAt 0x4064 (ops 0x3F800000 0xBF800000 0 0 0 0))
    (arenaBase (brokenAt 0x4064 (ops 0x3F800000 0xBF800000 0 0 0 0)) .reverb 1 + 4 * x) 4) x (by omega)

/-- PROCESS1 of REVERB at its first access, at the read of ID1 and at its last access, the write of DL_R2. -/
theorem test_witness_BusErrors_reverb_sample :
    ∀ p ∈ [(0, 0x4054, 0), (18, 0x400C, 2), (39, 0x4060, 13)],
      let s := brokenAt p.2.1 (ops 0x3F800000 0xBF800000 0 0 0 0)
      Inv s ∧ isFinite s.win.arg0 = true ∧ isFinite s.win.arg1 = true ∧ admitted s .reverb (1#6).toNat ∧
        reverbAccesses s (1#6).toNat =
          (reverbAccesses s (1#6).toNat).take p.1 ++ (p.2.1, p.2.2) :: (reverbAccesses s (1#6).toNat).drop (p.1 + 1) ∧
        (∀ a ∈ (reverbAccesses s (1#6).toNat).take p.1, ordinary s a.1 4) ∧ busFails s p.2.1 := by
  have first : ∀ {s : State} {l : List (Nat × Nat)}, allOrdinary s (l.map Prod.fst) = true → ∀ a ∈ l, ordinary s a.1 4 :=
    fun h a ha => ordinary_of_all h a.1 (List.mem_map_of_mem ha)
  simp only [List.forall_mem_cons, List.not_mem_nil, false_imp_iff, implies_true, and_true]
  refine ⟨⟨world_inv _ _ _ rfl (ops_legal ..), by decide +kernel, by decide +kernel, world_admitted _ _ _ _ _ (by decide),
      cut_at (by decide +kernel), first (by decide +kernel), by decide +kernel⟩,
    ⟨world_inv _ _ _ rfl (ops_legal ..), by decide +kernel, by decide +kernel, world_admitted _ _ _ _ _ (by decide),
      cut_at (by decide +kernel), first (by decide +kernel), by decide +kernel⟩,
    world_inv _ _ _ rfl (ops_legal ..), by decide +kernel, by decide +kernel, world_admitted _ _ _ _ _ (by decide),
    cut_at (by decide +kernel), first (by decide +kernel), by decide +kernel⟩

/-- The last entry of PROCESS_MULTI's tables; the second sample of PROCESS, and the second input's first one; the last
channel's second sample of PROCESS_MULTI. -/
theorem test_witness_BusErrors_batched :
    (let s := brokenAt 0x5014 (ops 0x5000 0x5010 2 1 0 0)
    multiAdmitted s .peak ∧ (∀ T ∈ inArgs .peak s.win ++ outArgs .peak s.win, bufferLegal 2 T) ∧
      tableReads .peak s.win = [0x5000, 0x5004, 0x5010] ++ 0x5014 :: [] ∧
      (∀ x ∈ [0x5000, 0x5004, 0x5010], ordinary s x 4) ∧ busFails s 0x5014) ∧
    (let s := brokenAt 0x5004 (ops 0x5000 0x6000 2 0 0 0)
    admitted s .delay (1#6).toNat ∧ (∀ b ∈ inArgs .delay s.win ++ outArgs .delay s.win, bufferLegal 2 b) ∧
      1 < processN .delay s.win ∧ inArgs .delay s.win = [] ++ 0x5000 :: [] ∧ busFails s ((0x5000#32).toNat + 4 * 1) ∧
      ∃ t, exec (processOf .delay 1) { s with win := withCount .delay s.win (BitVec.ofNat 32 1) } = .next t ∧
        (statusFault t.win.status == false) = true) ∧
    (let s := brokenAt 0x6000 (ops 0x5000 0x6000 0x7000 0x7100 1 0)
    admitted s .reverb (1#6).toNat ∧ 0 < processN .reverb s.win ∧ inArgs .reverb s.win = [0x5000] ++ 0x6000 :: [] ∧
      ordinary s ((0x5000#32).toNat + 4 * 0) 4 ∧ busFails s ((0x6000#32).toNat + 4 * 0) ∧
      ∃ t, exec (processOf .reverb 1) { s with win := withCount .reverb s.win (BitVec.ofNat 32 0) } = .next t ∧
        (statusFault t.win.status == false) = true) ∧
    (let s := world (ops 0x5000 0x5008 2 2 0 0) tableWords [⟨0x6014, 4, .busError⟩]
    s.hw.nCh ≤ 64 ∧ multiAdmitted s .delay ∧ multiOperands s .delay ∧ 1 < multiN .delay s.win ∧
      laneLoads (multiLanes .delay s) 1 = [0x6004] ++ 0x6014 :: [] ∧ ordinary s 0x6004 4 ∧ busFails s 0x6014 ∧
      ∃ t, exec (processMultiOf .delay) { s with win := withMultiCount .delay s.win (BitVec.ofNat 32 1) } = .next t ∧
        (statusFault t.win.status == false) = true) :=
  ⟨⟨world_multiAdmitted _ _ _ _ (by decide +kernel), legal_of_all (by decide +kernel), by decide +kernel,
      ordinary_of_all (by decide +kernel), by decide +kernel⟩,
    ⟨world_admitted _ _ _ _ _ (by decide), legal_of_all (by decide +kernel), by decide +kernel, rfl, by decide +kernel,
      exists_of_holds (by decide +kernel)⟩,
    ⟨world_admitted _ _ _ _ _ (by decide), by decide +kernel, rfl, by unfold ordinary; decide +kernel, by decide +kernel,
      exists_of_holds (by decide +kernel)⟩,
    by decide +kernel, world_multiAdmitted _ _ _ _ (by decide +kernel),
    ⟨legal_of_all (by decide +kernel), not_fails_of_all (by decide +kernel), legal_of_all (by decide +kernel)⟩,
    by decide +kernel, by decide +kernel, by unfold ordinary; decide +kernel, by decide +kernel,
    exists_of_holds (by decide +kernel)⟩

/-- MEMREQ is 16: the last base in range, the first past it, and a misaligned one. -/
theorem test_witness_MemReqAndMemSet :
    ready.regs.delay.life = .ready ∧ ready.regs.reverb.life = .ready ∧ (1#6).toNat < ready.hw.nCh ∧
      (arg ready 0x1002).win.arg0.toNat % 4 ≠ 0 ∧
      ((arg ready 0xFFFFFFF0).win.arg0.toNat % 4 = 0 ∧
        (arg ready 0xFFFFFFF0).win.arg0.toNat + ready.coefs.delay.memReq.toNat ≤ 2 ^ 32) ∧
      ((arg ready 0xFFFFFFF4).win.arg0.toNat % 4 = 0 ∧
        2 ^ 32 < (arg ready 0xFFFFFFF4).win.arg0.toNat + ready.coefs.delay.memReq.toNat) ∧
      (arg ready 0xFFFFFF98).win.arg0.toNat + ready.coefs.reverb.memReq.toNat ≤ 2 ^ 32 ∧
      2 ^ 32 < (arg ready 0xFFFFFF9C).win.arg0.toNat + ready.coefs.reverb.memReq.toNat := by decide +kernel

theorem test_witness_NopAndRegisterReads :
    (Instr.readCoefReverbMemreq.fields.opc = 0x0F ∧ unitOfInstr .readCoefReverbMemreq = some .reverb) ∧
      (Instr.readStateDelayMemBase 1).fields.opc = 0x10 ∧ unitOfInstr (.readStateDelayMemBase 1) = some .delay ∧
      (Instr.readStateDelayMemBase 1).channel = some 1 ∧ (1#6).toNat < State.reset.hw.nCh := by decide +kernel

/-! The setters: a unit that accepts them, and the ends of each legal set. -/

theorem inited_accepts (u : UnitId) : isInited (inited.regs.get u).life := by cases u <;> exact Or.inl rfl

theorem test_witness_SettersOfOnePole :
    isInited (inited.regs.get .onepole).life ∧
      cutoffLegal 0x80000000 ∧ cutoffLegal 0x7F800000 ∧ ¬cutoffLegal 0x80000001 ∧ ¬cutoffLegal 0x7FC00000 ∧
      nonnegLegal 0x80000000 ∧ nonnegLegal 0x7F7FFFFF ∧ ¬nonnegLegal 0x7F800000 ∧
      flagLegal 0 ∧ flagLegal 1 ∧ ¬flagLegal 2 ∧ ¬flagLegal 0x80000000 := by
  refine ⟨inited_accepts _, ?_⟩; unfold cutoffLegal nonnegLegal flagLegal; decide +kernel

theorem test_witness_SettersOfMultiMode :
    isInited (inited.regs.get .mm1).life ∧ isInited (inited.regs.get .mm2).life ∧
      positiveLegal 0x00000001 ∧ positiveLegal 0x7F7FFFFF ∧ ¬positiveLegal 0x00000000 ∧ ¬positiveLegal 0x7F800000 ∧
      finiteLegal 0xFF7FFFFF ∧ ¬finiteLegal 0xFF800000 ∧ ¬finiteLegal 0x7FC00000 := by
  refine ⟨inited_accepts _, inited_accepts _, ?_⟩; unfold positiveLegal finiteLegal; decide +kernel

/-- ±600 dB is 0x44160000 and 0xC4160000. -/
theorem test_witness_SettersOfShelves :
    isInited (inited.regs.get .hp1).life ∧ isInited (inited.regs.get .ls1).life ∧ isInited (inited.regs.get .ls2).life ∧
      dbLegal 0x44160000 ∧ dbLegal 0xC4160000 ∧ ¬dbLegal 0x44160001 ∧ ¬dbLegal 0xC4160001 ∧ ¬dbLegal 0x7FC00000 := by
  refine ⟨inited_accepts _, inited_accepts _, inited_accepts _, ?_⟩; unfold dbLegal; decide +kernel

theorem test_witness_SettersOfAllpassAndPeak :
    isInited (inited.regs.get .ap2).life ∧ isInited (inited.regs.get .peak).life ∧ isInited (ready.regs.get .peak).life :=
  ⟨inited_accepts _, inited_accepts _, Or.inr (Or.inr rfl)⟩

theorem test_witness_SettersOfDelayAndReverb :
    isInited (inited.regs.get .delay).life ∧ isInited (inited.regs.get .reverb).life ∧
      predelayLegal 0x80000000 ∧ predelayLegal 0x3DCCCCCD ∧ ¬predelayLegal 0x3DCCCCCE ∧ ¬predelayLegal 0x7FC00000 ∧
      decayLegal 0x80000000 ∧ decayLegal 0x3F7FFFFF ∧ ¬decayLegal 0x3F800000 ∧ ¬decayLegal 0x80000001 := by
  refine ⟨inited_accepts _, inited_accepts _, ?_⟩; unfold predelayLegal decayLegal; decide +kernel

/-! Whole-machine statements. -/

/-- One command of each transition, and one that keeps LIFE. -/
theorem test_witness_LifecycleTransitions :
    (∃ t, exec .initMm2 ready = .next t ∧ (t.regs.mm2.life == .inited) = true) ∧
      (∃ t, exec .setSrMm2 (arg ready 0x3F800000) = .next t ∧ (t.regs.mm2.life == .srSet) = true) ∧
      (∃ t, exec .resetCoeffsOnepole { ready with
          regs := PerUnit.const { life := .srSet }
          coefs := { onepole := { cutoffUp := 0x7F800000, cutoffDown := 0x7F800000 } } } = .next t ∧
        (t.regs.onepole.life == .ready) = true) ∧
      ∃ t, exec .nop ready = .next t ∧ (t.regs.mm2.life == .ready) = true :=
  ⟨exists_of_holds (by decide +kernel), exists_of_holds (by decide +kernel), exists_of_holds (by decide +kernel),
    exists_of_holds (by decide +kernel)⟩

/-- A command that may write neither a parameter nor memory, and one that may write memory. -/
theorem test_witness_CommandsKeepToTheirOwn :
    (∃ t, exec (.process1Mm1 1) ready = .next t ∧ (t.win.status == 0) = true) ∧
      unitOfInstr (.process1Mm1 1) ≠ some .delay ∧ (Instr.process1Mm1 1).fields.opc ≠ 0x01 ∧
      (Instr.process1Mm1 1).fields.opc ≠ 0x0A ∧ (Instr.process1Mm1 1).fields.opc ≠ 0x08 ∧
      (Instr.process1Mm1 1).fields.opc ≠ 0x09 ∧ unitOfInstr (.process1Mm1 1) = some .mm1 ∧
      hasMemory .mm1 = false ∧ (0x00#8).toNat < 0x40 ∧ (0x3F#8).toNat < 0x40 :=
  ⟨exists_of_holds (by decide +kernel), by decide +kernel⟩

theorem test_witness_EveryStepKeepsInv :
    Inv ((plain 0x3F800000 0 0 0).withFetchWord 32 0x3A000000) ∧
      ∃ t, step ((plain 0x3F800000 0 0 0).withFetchWord 32 0x3A000000) = .next t ∧
        (readWord t.mem 0x1000 == 0x3F800000) = true :=
  ⟨plain_inv .., exists_of_holds (by decide +kernel)⟩

/-- A reset block whose ONEPOLE, DELAY and REVERB hold their INIT parameters, and a setter's command. -/
def defaults : State :=
  { State.reset with
    win := ops 0x3F800000 0 0 0 0 0
    regs := { State.reset.regs with onepole := { life := .inited }, delay := { life := .inited }, reverb := { life := .inited } }
    coefs :=
      { onepole := { cutoffUp := 0x7F800000, cutoffDown := 0x7F800000 }
        reverb := { bandwidth := 0x469C4000, damping := 0x469C4000, decay := 0x3F000000 } } }

theorem test_witness_EveryStepKeepsLegalParams :
    legalParams (defaults.withFetchWord 32 0x28000000) ∧
      ∃ t, step (defaults.withFetchWord 32 0x28000000) = .next t ∧
        (t.coefs.onepole.cutoffUp == 0x3F800000) = true :=
  ⟨by unfold legalParams; and_intros <;> decide +kernel, exists_of_holds (by decide +kernel)⟩

/-- A platform with a hole, and an arena in it. -/
theorem test_witness_EveryCommandAnswersNext :
    Inv (brokenAt 0x1000 (ops 0 0 0 0 0 0)) ∧ noSideEffects (brokenAt 0x1000 (ops 0 0 0 0 0 0)) :=
  ⟨world_inv _ _ _ rfl (ops_legal ..), fun r hr => by
    obtain rfl : r = ⟨0x1000, 4, .busError⟩ := List.mem_singleton.mp hr
    decide⟩

end Sys2Proof.Tests
end

-- ==== Proofs: rounded values ====
section
/-! PROOFS. Rounded values (00_scope.md R8, R9): how large a rounded ratio can be, and that no value of the format is
nearer to the exact one: nearest among the integers of its binade, then among the values of the format, then with the signs. -/

namespace Sys2Proof.Machine
open Sys2Proof.Config

/-! ### Bounds of rounded values (00_scope.md R8, R9) -/

theorem magnitude_eq_natAbs (x : F32) : magnitude x = (scaled x).natAbs := by
  unfold scaled
  split <;> simp

/-- An integer below 2^24 has an encoding. -/
theorem exists_encoding_of_nat {n : Nat} (h : n < 2 ^ 24) : ∃ m, m < 255 * 2 ^ 23 ∧ encodedValue m = n * 2 ^ 149 := by
  rcases Nat.eq_zero_or_pos n with rfl | hn
  · exact ⟨0, by decide, by decide⟩
  · have hlo := Nat.log2_self_le hn.ne'
    have hhi : n < 2 ^ (n.log2 + 1) := Nat.lt_log2_self
    have hk : n.log2 < 24 := (Nat.log2_lt hn.ne').2 h
    have hsplit : ∀ a, a = 23 - n.log2 → 2 ^ n.log2 * 2 ^ a = 2 ^ 23 := fun a ha => by
      rw [← Nat.pow_add, ha, Nat.add_sub_cancel' (by omega)]
    have hr1 : 2 ^ 23 ≤ n * 2 ^ (23 - n.log2) := by
      rw [← hsplit _ rfl]
      exact Nat.mul_le_mul_right _ hlo
    have hr2 : n * 2 ^ (23 - n.log2) < 2 ^ 24 := by
      have := Nat.mul_lt_mul_of_pos_right hhi (Nat.two_pow_pos (23 - n.log2))
      rwa [Nat.pow_succ, Nat.mul_right_comm, hsplit _ rfl] at this
    refine ⟨(126 + n.log2) * 2 ^ 23 + n * 2 ^ (23 - n.log2), by omega, ?_⟩
    rw [encodedValue_binade _ _ hr1 hr2.le, Nat.mul_assoc, ← Nat.pow_add]
    congr 2
    omega

/-- A finite value that is at most `n` in magnitude. -/
structure AtMost (x : F32) (n : Nat) : Prop where
  finite : isFinite x = true
  bound : magnitude x ≤ n * 2 ^ 149

theorem isInf_of_isFinite {x : F32} (h : isFinite x = true) : isInf x = false := by
  simp only [isFinite, bne_iff_ne] at h
  simp [isInf, h]

/-- A rounded ratio is at most an integer the exact one does not pass. -/
theorem atMost_roundTo (neg : Bool) {num den n : Nat} (hd : 0 < den) (hn : n < 2 ^ 24) (h : num ≤ n * 2 ^ 149 * den) :
    AtMost (roundTo neg num den) n := by
  obtain ⟨m, hm, he⟩ := exists_encoding_of_nat hn
  rw [← he] at h
  have hr := roundMagnitude_le hd h
  have hlt : roundMagnitude num den < 255 * 2 ^ 23 := by omega
  refine ⟨?_, he ▸ magnitude_roundTo_le neg hd hm h⟩
  rw [roundTo, if_pos hlt]
  exact (isFinite_withSign neg (by omega)).2 hlt

theorem atMost_toF32 {n : Nat} (h : n < 2 ^ 24) : AtMost (toF32 n) n :=
  atMost_roundTo false (by decide) h (by rw [Nat.mul_one])

/-- A product of finite values is rounded once. -/
theorem fMul_of_finite {a b : F32} (ha : isFinite a = true) (hb : isFinite b = true) :
    fMul a b = roundTo (signBit a != signBit b) (magnitude a * magnitude b) (2 ^ 149) := by
  simp [fMul, isNaN_of_isFinite ha, isNaN_of_isFinite hb, isInf_of_isFinite ha, isInf_of_isFinite hb]

/-- A quotient of finite values whose divisor is not 0 is rounded once. -/
theorem fDiv_of_finite {a b : F32} (ha : isFinite a = true) (hb : isFinite b = true) (h0 : isZero b = false) :
    fDiv a b = roundTo (signBit a != signBit b) (magnitude a * 2 ^ 149) (magnitude b) := by
  simp [fDiv, isNaN_of_isFinite ha, isNaN_of_isFinite hb, isInf_of_isFinite ha, isInf_of_isFinite hb, h0]

theorem atMost_fMul {a b : F32} {x y n : Nat} (ha : AtMost a x) (hb : AtMost b y) (hn : n < 2 ^ 24) (h : x * y ≤ n) :
    AtMost (fMul a b) n := by
  rw [fMul_of_finite ha.finite hb.finite]
  refine atMost_roundTo _ (by decide) hn ?_
  calc magnitude a * magnitude b ≤ x * 2 ^ 149 * (y * 2 ^ 149) := Nat.mul_le_mul ha.bound hb.bound
    _ = x * y * 2 ^ 149 * 2 ^ 149 := by ring
    _ ≤ n * 2 ^ 149 * 2 ^ 149 := Nat.mul_le_mul_right _ (Nat.mul_le_mul_right _ h)

theorem atMost_fDiv {a b : F32} {x y n : Nat} (ha : AtMost a x) (hb : isFinite b = true) (h0 : isZero b = false)
    (hy : y * 2 ^ 149 = magnitude b) (hy0 : 0 < y) (hn : n < 2 ^ 24) (h : x ≤ n * y) : AtMost (fDiv a b) n := by
  rw [fDiv_of_finite ha.finite hb h0, ← hy]
  refine atMost_roundTo _ (Nat.mul_pos hy0 (by decide)) hn ?_
  calc magnitude a * 2 ^ 149 ≤ x * 2 ^ 149 * 2 ^ 149 := Nat.mul_le_mul_right _ ha.bound
    _ ≤ n * y * 2 ^ 149 * 2 ^ 149 := Nat.mul_le_mul_right _ (Nat.mul_le_mul_right _ h)
    _ = n * 2 ^ 149 * (y * 2 ^ 149) := by ring

theorem realRound_toNat_le {x : F32} {n : Nat} (h : AtMost x n) : (realRound x).toNat ≤ n := by
  have hb := h.bound
  unfold realRound
  split <;> omega

theorem realCeil_le {x : F32} {n : Nat} (h : scaled x ≤ n * 2 ^ 149) : realCeil x ≤ n := by
  unfold realCeil
  omega

theorem realCeil_toNat_le {x : F32} {n : Nat} (h : AtMost x n) : (realCeil x).toNat ≤ n := by
  have hb := h.bound
  rw [magnitude_eq_natAbs] at hb
  have := realCeil_le (x := x) (n := n) (by omega)
  omega

/-! ### Rounding to the nearest value (00_scope.md R8) -/

/-- A value of the format is a multiple of a binade's step, or the binade is above the first and the value below it. -/
theorem encodedValue_multiple_or_lt (m k : Nat) :
    (∃ c, encodedValue m = c * 2 ^ k) ∨ 0 < k ∧ encodedValue m < 2 ^ 23 * 2 ^ k := by
  rcases Nat.eq_zero_or_pos k with rfl | hk
  · exact .inl ⟨encodedValue m, by rw [Nat.pow_zero, Nat.mul_one]⟩
  · rcases Nat.lt_or_ge m (2 ^ 23) with hm | hm
    · refine .inr ⟨hk, ?_⟩
      rw [encodedValue_small (by omega)]
      exact hm.trans_le (Nat.le_mul_of_pos_right _ (Nat.two_pow_pos k))
    · obtain ⟨k', r, rfl, hr1, hr2⟩ := exists_binade hm
      rw [encodedValue_binade k' r hr1 hr2.le]
      rcases Nat.lt_or_ge k' k with hlt | hge
      · refine .inr ⟨hk, (Nat.mul_lt_mul_of_pos_right hr2 (Nat.two_pow_pos k')).trans_le ?_⟩
        rw [← Nat.pow_add, ← Nat.pow_add]
        exact Nat.pow_le_pow_right (by decide) (by omega)
      · exact .inl ⟨r * 2 ^ (k' - k), by rw [Nat.mul_assoc, ← Nat.pow_add, Nat.sub_add_cancel hge]⟩

/-- How far, as integers, a number lies from another. -/
def distance (a b : Nat) : Int := |(a : Int) - b|

theorem distance_eq (a b : Nat) : distance a b = ((a : Int) - b).natAbs := Int.abs_eq_natAbs _

/-- No integer is nearer to a ratio than the one it rounds to, and another is as near only if that one is even. -/
theorem roundHalfEven_nearest (num : Nat) {den : Nat} (hd : 0 < den) {c : Nat} (hc : c ≠ roundHalfEven num den) :
    distance (roundHalfEven num den * den) num ≤ distance (c * den) num ∧
      (distance (roundHalfEven num den * den) num = distance (c * den) num → roundHalfEven num den % 2 = 0) := by
  obtain ⟨hlo, hhi⟩ := roundHalfEven_bounds num hd
  have heven := roundHalfEven_even (num := num) hd
  have hstep : c * den + den ≤ roundHalfEven num den * den ∨ roundHalfEven num den * den + den ≤ c * den := by
    rw [← Nat.succ_mul, ← Nat.succ_mul]
    exact (Nat.lt_or_gt_of_ne hc).imp (Nat.mul_le_mul_right den) (Nat.mul_le_mul_right den)
  simp only [distance_eq]
  constructor
  · omega
  · intro heq
    exact heven (by omega)

/-- No value of the format is nearer to a ratio than the one it rounds to, and another is as near only if that one's
encoding is even. -/
theorem roundMagnitude_nearest (num : Nat) {den : Nat} (hd : 0 < den) {m : Nat}
    (hm : encodedValue m ≠ encodedValue (roundMagnitude num den)) :
    distance (encodedValue (roundMagnitude num den) * den) num ≤ distance (encodedValue m * den) num ∧
      (distance (encodedValue (roundMagnitude num den) * den) num = distance (encodedValue m * den) num →
        roundMagnitude num den % 2 = 0) := by
  obtain ⟨hlow, -⟩ := roundBinade_bounds num hd
  have heven : roundMagnitude num den % 2 =
      roundHalfEven num (den * 2 ^ roundBinade num den) % 2 := by rw [roundMagnitude_eq]; omega
  rw [heven]
  rw [encodedValue_roundMagnitude num hd] at hm ⊢
  generalize roundBinade num den = k at *
  have hD : 0 < den * 2 ^ k := Nat.mul_pos hd (Nat.two_pow_pos k)
  have hunit : ∀ c, c * 2 ^ k * den = c * (den * 2 ^ k) := fun c => by ring
  rcases encodedValue_multiple_or_lt m k with ⟨c, hc⟩ | ⟨hk, hlt⟩
  · rw [hc] at hm ⊢
    rw [hunit, hunit]
    exact roundHalfEven_nearest num hD fun h => hm (by rw [h])
  · have hbelow : encodedValue m * den < 2 ^ 23 * (den * 2 ^ k) := by
      rw [← hunit]
      exact Nat.mul_lt_mul_of_pos_right hlt hd
    have hreach : 2 ^ 23 * (den * 2 ^ k) ≤ num := by
      rw [← hunit, ← Nat.pow_add]
      exact hlow hk
    have hfirst : distance (roundHalfEven num (den * 2 ^ k) * (den * 2 ^ k)) num ≤
        distance (2 ^ 23 * (den * 2 ^ k)) num := by
      by_cases hq : 2 ^ 23 = roundHalfEven num (den * 2 ^ k)
      · rw [← hq]
      · exact (roundHalfEven_nearest num hD hq).1
    have hstrict : distance (2 ^ 23 * (den * 2 ^ k)) num < distance (encodedValue m * den) num := by
      simp only [distance_eq]
      omega
    rw [hunit]
    exact ⟨(hfirst.trans_lt hstrict).le, fun heq => absurd heq (hfirst.trans_lt hstrict).ne⟩

/-- The integer a sign and a magnitude stand for. -/
def signed (neg : Bool) (n : Nat) : Int := if neg then -(n : Int) else n

@[simp] theorem signed_true (n : Nat) : signed true n = -(n : Int) := rfl

@[simp] theorem signed_false (n : Nat) : signed false n = n := rfl

theorem scaled_withSign (neg : Bool) {m : Nat} (h : m < 2 ^ 31) : scaled (withSign neg m) = signed neg (encodedValue m) := by
  rw [scaled, signBit_withSign neg h, magnitude_withSign neg h, signed]

theorem scaled_eq_signed (x : F32) : scaled x = signed (signBit x) (magnitude x) := rfl

theorem withSign_even (neg : Bool) {m : Nat} (h : m < 2 ^ 31) (he : m % 2 = 0) : (withSign neg m).getLsbD 0 = false := by
  rw [BitVec.getLsbD, toNat_withSign neg h, Nat.testBit_zero, decide_eq_false_iff_not]
  split <;> omega

/-- Numbers of one sign are as far apart as their magnitudes; numbers of two are as far as both together. -/
theorem abs_signed_sub (neg neg' : Bool) (a b : Nat) :
    |signed neg a - signed neg' b| = if neg = neg' then distance a b else (a : Int) + b := by
  rw [distance_eq, Int.abs_eq_natAbs]
  cases neg <;> cases neg' <;> simp only [signed_true, signed_false, reduceCtorEq, if_true, if_false] <;> omega

theorem signed_mul (neg : Bool) (a b : Nat) : signed neg a * b = signed neg (a * b) := by
  cases neg <;> simp [signed]

/-- A rounded value that is finite is the sign and the rounded encoding. -/
theorem roundTo_of_finite {neg : Bool} {num den : Nat} (h : isFinite (roundTo neg num den) = true) :
    roundMagnitude num den < 2 ^ 31 ∧ roundTo neg num den = withSign neg (roundMagnitude num den) := by
  unfold roundTo at h ⊢
  by_cases hlt : roundMagnitude num den < 255 * 2 ^ 23
  · exact ⟨by omega, if_pos hlt⟩
  · rw [if_neg hlt, infOf, isFinite_withSign neg (by decide)] at h
    omega

/-- No value, of either sign, is nearer to a ratio than the one it rounds to, and another is as near only if that one's
encoding is even. -/
theorem roundTo_nearest {neg : Bool} {num den : Nat} (hd : 0 < den) (hfin : isFinite (roundTo neg num den) = true)
    (v : F32) :
    |scaled (roundTo neg num den) * den - signed neg num| ≤ |scaled v * den - signed neg num| ∧
      (|scaled (roundTo neg num den) * den - signed neg num| = |scaled v * den - signed neg num| →
        scaled v ≠ scaled (roundTo neg num den) → (roundTo neg num den).getLsbD 0 = false) := by
  obtain ⟨hr, heq⟩ := roundTo_of_finite hfin
  obtain ⟨m, hm, hv⟩ := exists_withSign v
  have heven := withSign_even neg hr
  have hnear := fun k => roundMagnitude_nearest num hd (m := k)
  rw [heq, hv, scaled_withSign neg hr, scaled_withSign _ hm, signed_mul, signed_mul, abs_signed_sub, abs_signed_sub,
    if_pos rfl]
  generalize encodedValue (roundMagnitude num den) = r at *
  by_cases hs : signBit v = neg
  · rw [if_pos hs, hs]
    by_cases hmr : encodedValue m = r
    · rw [hmr]
      exact ⟨le_refl _, fun _ hne => absurd rfl hne⟩
    · obtain ⟨hle, htie⟩ := hnear m hmr
      exact ⟨hle, fun hd _ => heven (htie hd)⟩
  · have hzero : distance (0 * den) num = num := by simp [distance]
    rw [if_neg hs]
    by_cases hr0 : r = 0
    · subst hr0
      rw [hzero]
      refine ⟨by omega, fun hd0 hne => ?_⟩
      have hm0 : encodedValue m = 0 := (Nat.mul_eq_zero.1 (by omega : encodedValue m * den = 0)).resolve_right hd.ne'
      rw [hm0] at hne
      cases hsv : signBit v <;> cases neg <;> simp [hsv, signed] at hne
    · obtain ⟨hle, htie⟩ := hnear 0 (Ne.symm hr0)
      have h0 : encodedValue 0 = 0 := rfl
      rw [h0, hzero] at hle htie
      refine ⟨by omega, fun hd _ => heven (htie (by omega))⟩

theorem signed_natAbs (x : Int) : signed (decide (x < 0)) x.natAbs = x := by
  by_cases h : x < 0
  · rw [decide_eq_true h, signed_true]
    omega
  · rw [decide_eq_false h, signed_false]
    omega

theorem scaled_mul (a b : F32) :
    scaled a * scaled b = signed (signBit a != signBit b) (magnitude a * magnitude b) := by
  rw [scaled_eq_signed, scaled_eq_signed]
  cases signBit a <;> cases signBit b <;> simp [signed]

@[simp] theorem scaled_zeroOf (neg : Bool) : scaled (zeroOf neg) = 0 := by cases neg <;> decide

/-- A sum of finite values is an exact zero, or rounded once. -/
theorem fAdd_of_finite {a b : F32} (ha : isFinite a = true) (hb : isFinite b = true) :
    fAdd a b = if scaled a + scaled b = 0 then zeroOf (signBit a && signBit b)
      else roundTo (decide (scaled a + scaled b < 0)) (scaled a + scaled b).natAbs 1 := by
  simp [fAdd, addCore, isNaN_of_isFinite ha, isNaN_of_isFinite hb, isInf_of_isFinite ha, isInf_of_isFinite hb]

theorem fAdd_nearest {a b : F32} (ha : isFinite a = true) (hb : isFinite b = true) (hfin : isFinite (fAdd a b) = true)
    (v : F32) :
    |scaled (fAdd a b) - (scaled a + scaled b)| ≤ |scaled v - (scaled a + scaled b)| ∧
      (|scaled (fAdd a b) - (scaled a + scaled b)| = |scaled v - (scaled a + scaled b)| →
        scaled v ≠ scaled (fAdd a b) → (fAdd a b).getLsbD 0 = false) := by
  rw [fAdd_of_finite ha hb] at hfin ⊢
  generalize scaled a + scaled b = x at *
  split at hfin
  · rename_i hx
    subst hx
    simp only [if_true, scaled_zeroOf, sub_zero, abs_zero]
    exact ⟨abs_nonneg _, fun h0 hne => absurd (abs_eq_zero.1 h0.symm) hne⟩
  · rename_i hx
    rw [if_neg hx]
    simpa only [signed_natAbs, Nat.cast_one, mul_one] using roundTo_nearest Nat.one_pos hfin v

theorem fMul_nearest {a b : F32} (ha : isFinite a = true) (hb : isFinite b = true) (hfin : isFinite (fMul a b) = true)
    (v : F32) :
    |scaled (fMul a b) * 2 ^ 149 - scaled a * scaled b| ≤ |scaled v * 2 ^ 149 - scaled a * scaled b| ∧
      (|scaled (fMul a b) * 2 ^ 149 - scaled a * scaled b| = |scaled v * 2 ^ 149 - scaled a * scaled b| →
        scaled v ≠ scaled (fMul a b) → (fMul a b).getLsbD 0 = false) := by
  rw [fMul_of_finite ha hb] at hfin ⊢
  rw [scaled_mul]
  simpa only [Nat.cast_pow, Nat.cast_ofNat] using roundTo_nearest (Nat.two_pow_pos 149) hfin v

end Sys2Proof.Machine
end

-- ==== Proofs: the invariant ====
section
/-! PROOFS. The machine's invariant (00_scope.md R6, 10_state.md, 20_memory.md) is kept by every step.
It is taken apart by unit (`UnitInv`); what a channel's hooks do to a state is one relation (`HookStep`) that keeps it; and
each control command's one effect is shown to keep it by the units it leaves alone (`KeepsUnit`) and the one it writes. -/

namespace Sys2Proof.Machine
open Sys2Proof.Config

variable {s t : State} {u w : UnitId}

/-! ### The invariant, unit by unit -/

/-- What the invariant says of one unit: its common registers, the layout of its arena, the flags of its channels. -/
structure UnitInv (s : State) (u : UnitId) : Prop where
  regs : lifeRegs (s.regs.get u) u
  layout : lifeSrSet (s.regs.get u).life = true → unitLayout s u
  flags : ∀ ch, channelFlags s u ch

theorem inv_iff : Inv s ↔ hardwareLegal s.hw ∧ Memory.wf s.mem = true ∧ channelCounts s ∧ legalWindow s.win ∧
    ∀ u, UnitInv s u := by
  constructor
  · rintro ⟨hhw, hmem, hcount, hwin, hregs, hlayout, hflags⟩
    exact ⟨hhw, hmem, hcount, hwin, fun u => ⟨hregs u, hlayout u, hflags u⟩⟩
  · rintro ⟨hhw, hmem, hcount, hwin, hunit⟩
    exact ⟨hhw, hmem, hcount, hwin, fun u => (hunit u).regs, fun u => (hunit u).layout, fun u => (hunit u).flags⟩

theorem Inv.unit (h : Inv s) (u : UnitId) : UnitInv s u := by
  obtain ⟨-, -, -, -, hunit⟩ := inv_iff.1 h
  exact hunit u

theorem stValid_congr (h : t.valid = s.valid) (u : UnitId) (ch : Nat) : t.stValid u ch = s.stValid u ch := by
  unfold State.stValid
  rw [h]

theorem binding_congr (h : t.binds = s.binds) (u : UnitId) (ch : Nat) : t.binding u ch = s.binding u ch := by
  unfold State.binding
  rw [h]

theorem lineCap_congr (h : t.coefs = s.coefs) (l : LineRef) : lineCap t l = lineCap s l := by
  cases l <;> simp only [lineCap, h]

theorem lineCap_withMem (s : State) (m : List Host.Cell) (l : LineRef) : lineCap { s with mem := m } l = lineCap s l := by
  cases l <;> rfl

/-- The registers that lay out a unit's arena are the same in two coefficient banks; a unit with no arena has none. -/
def SameArena (c d : Coefs) : UnitId → Prop
  | .delay => d.delay.len = c.delay.len ∧ d.delay.memReq = c.delay.memReq
  | .reverb => d.reverb.cap = c.reverb.cap ∧ d.reverb.off = c.reverb.off ∧ d.reverb.memReq = c.reverb.memReq
  | _ => True

theorem SameArena.refl (c : Coefs) (u : UnitId) : SameArena c c u := by cases u <;> simp [SameArena]

theorem SameArena.of_eq {c d : Coefs} (h : d = c) (u : UnitId) : SameArena c d u := h ▸ .refl c u

theorem SameArena.of_banks {c d : Coefs} (hd : u = .delay → d.delay = c.delay) (hr : u = .reverb → d.reverb = c.reverb) :
    SameArena c d u := by
  cases u <;> simp_all [SameArena]

theorem SameArena.memReq (h : SameArena s.coefs t.coefs u) : t.memReq u = s.memReq u := by
  cases u with
  | delay => exact h.2
  | reverb => exact h.2.2
  | _ => rfl

theorem SameArena.layout (h : SameArena s.coefs t.coefs u) (hl : unitLayout s u) : unitLayout t u := by
  cases u with
  | delay =>
    obtain ⟨hlen, hreq⟩ := h
    simpa only [unitLayout, delayLayout, hlen, hreq] using hl
  | reverb =>
    obtain ⟨hcap, hoff, hreq⟩ := h
    simpa only [unitLayout, reverbLayout, capSum, hcap, hoff, hreq] using hl
  | _ => trivial

/-- The cursors of a unit whose arena and channel registers are the same are where they were. -/
theorem SameArena.cursors (h : SameArena s.coefs t.coefs u) (hd : u = .delay → t.chans.delay = s.chans.delay)
    (hr : u = .reverb → t.chans.reverb = s.chans.reverb) {ch : Nat} (hc : cursorsInside s u ch) :
    cursorsInside t u ch := by
  cases u with
  | delay => simpa only [cursorsInside, lineCursor, lineCap, hd rfl, h.1] using hc
  | reverb => simpa only [cursorsInside, lineCursor, lineCap, hr rfl, h.1] using hc
  | _ => trivial

/-- What two states agree on where a unit's arena and flags stay as they are: nothing becomes valid, and no cursor leaves its
line. -/
structure KeepsUnit (s t : State) (u : UnitId) : Prop where
  life : (t.regs.get u).life = (s.regs.get u).life
  valid : ∀ ch, t.stValid u ch = true → s.stValid u ch = true
  binding : ∀ ch, t.binding u ch = s.binding u ch
  arena : SameArena s.coefs t.coefs u
  cursors : ∀ ch, cursorsInside s u ch → cursorsInside t u ch

theorem UnitInv.of_keeps (h : UnitInv s u) (k : KeepsUnit s t u) (hr : lifeRegs (t.regs.get u) u) : UnitInv t u where
  regs := hr
  layout hl := k.arena.layout (h.layout (k.life ▸ hl))
  flags ch := by
    obtain ⟨hvalid, hbound⟩ := h.flags ch
    unfold channelFlags
    rw [k.life, k.binding ch, k.arena.memReq]
    refine ⟨fun hv => ?_, hbound⟩
    obtain ⟨hlife, hmem⟩ := hvalid (k.valid ch hv)
    refine ⟨hlife, fun hm => ?_⟩
    obtain ⟨hready, hb, hc⟩ := hmem hm
    exact ⟨hready, hb, k.cursors ch hc⟩

/-- A unit with no valid channel and no bound one. -/
theorem UnitInv.of_cleared (hr : lifeRegs (t.regs.get u) u)
    (hl : lifeSrSet (t.regs.get u).life = true → unitLayout t u) (hv : ∀ ch, t.stValid u ch = false)
    (hb : ∀ ch, (t.binding u ch).bound = false) : UnitInv t u where
  regs := hr
  layout := hl
  flags ch := by simp [channelFlags, hv ch, hb ch]

/-! ### Changes outside the block's registers -/

/-- Only the window, data memory, the host's queue and the last answer have changed. -/
structure SameBlock (s t : State) : Prop where
  hw : t.hw = s.hw
  regs : t.regs = s.regs
  valid : t.valid = s.valid
  binds : t.binds = s.binds
  coefs : t.coefs = s.coefs
  chans : t.chans = s.chans

theorem SameBlock.keepsUnit (b : SameBlock s t) (u : UnitId) : KeepsUnit s t u where
  life := by rw [b.regs]
  valid ch := by rw [stValid_congr b.valid]; exact id
  binding := binding_congr b.binds u
  arena := .of_eq b.coefs u
  cursors _ := SameArena.cursors (.of_eq b.coefs u) (fun _ => by rw [b.chans]) fun _ => by rw [b.chans]

theorem Inv.of_sameBlock (h : Inv s) (b : SameBlock s t) (hm : Memory.wf t.mem = true) (hw : legalWindow t.win) :
    Inv t := by
  obtain ⟨hhw, -, hcount, -, hunit⟩ := inv_iff.1 h
  refine inv_iff.2 ⟨b.hw ▸ hhw, hm, ?_, hw, fun u => (hunit u).of_keeps (b.keepsUnit u) ?_⟩
  · simpa only [channelCounts, b.hw, b.valid, b.binds, b.chans] using hcount
  · rw [b.regs]
    exact (hunit u).regs

theorem Inv.mem_wf (h : Inv s) : Memory.wf s.mem = true := by
  obtain ⟨-, hmem, -⟩ := h
  exact hmem

theorem Inv.counts (h : Inv s) : channelCounts s := by
  obtain ⟨-, -, hcount, -⟩ := h
  exact hcount

theorem Inv.window (h : Inv s) : legalWindow s.win := by
  obtain ⟨-, -, -, hwin, -⟩ := h
  exact hwin

theorem inv_withInbox (h : Inv s) (es : List HostEvent) : Inv { s with inbox := es } :=
  h.of_sameBlock ⟨rfl, rfl, rfl, rfl, rfl, rfl⟩ h.mem_wf h.window

theorem inv_answer (h : Inv s) (r : Reply) : Inv (s.answer r) :=
  h.of_sameBlock ⟨rfl, rfl, rfl, rfl, rfl, rfl⟩ h.mem_wf h.window

theorem inv_withMem (h : Inv s) {m : List Host.Cell} (hm : Memory.wf m = true) : Inv { s with mem := m } :=
  h.of_sameBlock ⟨rfl, rfl, rfl, rfl, rfl, rfl⟩ hm h.window

theorem inv_withWindow (h : Inv s) {w : Window} (hw : legalWindow w) : Inv { s with win := w } :=
  h.of_sameBlock ⟨rfl, rfl, rfl, rfl, rfl, rfl⟩ h.mem_wf hw

/-- The window with other operands or results has the same fault registers. -/
theorem legalWindow_congr {w w' : Window} (h : legalWindow w) (hs : w'.status = w.status)
    (hc : w'.faultCmd = w.faultCmd) (h0 : w'.faultInfo0 = w.faultInfo0) (h1 : w'.faultInfo1 = w.faultInfo1) :
    legalWindow w' := by
  unfold legalWindow
  rwa [hs, hc, h0, h1]

theorem inv_enterFault (h : Inv s) (cmd : Word) (c : FaultCode) (a b : Word) : Inv (enterFault cmd c a b s) :=
  inv_withWindow h (.inr ⟨c, rfl⟩)

theorem inv_setRes0 (h : Inv s) (x : Word) : Inv (s.setRes0 x) :=
  inv_withWindow h (legalWindow_congr h.window rfl rfl rfl rfl)

theorem inv_setResults (h : Inv s) (ys : List F32) : Inv (s.setResults ys) := by
  rcases ys with _ | ⟨y, _ | ⟨z, r⟩⟩
  · exact h
  · exact inv_withWindow h (legalWindow_congr h.window rfl rfl rfl rfl)
  · exact inv_withWindow h (legalWindow_congr h.window rfl rfl rfl rfl)

/-- Block reset (70_reset_and_hazards.md R470) leads to a state with the invariant from any with legal parameters. -/
theorem inv_blockReset (h : Inv s) : Inv (blockReset s) := by
  obtain ⟨hhw, hmem, -⟩ := h
  refine inv_iff.2 ⟨hhw, hmem, ?_, .inl ⟨rfl, rfl, rfl, rfl⟩, fun u => .of_cleared ?_ ?_ ?_ ?_⟩
  · simp [channelCounts, blockReset, State.resetOf, Binds.zero, Chans.zero]
  · simp [lifeRegs]
  · simp [lifeSrSet]
  · intro ch
    by_cases hc : ch < s.hw.nCh <;>
      simp [State.stValid, blockReset, State.resetOf, List.getD_eq_getElem?_getD, hc]
  · intro ch
    by_cases hc : ch < s.hw.nCh <;> cases u <;>
      simp [State.binding, blockReset, State.resetOf, Binds.zero, List.getD_eq_getElem?_getD, hc]

/-! ### What a channel's hooks do -/

/-- Whatever a channel's hooks do, only data memory and channel registers change: memory stays in its one form, no list of
channels changes its length, and no cursor leaves its line. -/
structure HookStep (s t : State) : Prop where
  hw : t.hw = s.hw
  win : t.win = s.win
  regs : t.regs = s.regs
  valid : t.valid = s.valid
  binds : t.binds = s.binds
  coefs : t.coefs = s.coefs
  mem : Memory.wf s.mem = true → Memory.wf t.mem = true
  counts : channelCounts s → channelCounts t
  cursors : ∀ l, lineCursor s l < lineCap s l → lineCursor t l < lineCap t l

theorem HookStep.refl (s : State) : HookStep s s := ⟨rfl, rfl, rfl, rfl, rfl, rfl, id, id, fun _ => id⟩

theorem HookStep.trans (s t r : State) (h : HookStep s t) (h' : HookStep t r) : HookStep s r where
  hw := h'.hw.trans h.hw
  win := h'.win.trans h.win
  regs := h'.regs.trans h.regs
  valid := h'.valid.trans h.valid
  binds := h'.binds.trans h.binds
  coefs := h'.coefs.trans h.coefs
  mem hm := h'.mem (h.mem hm)
  counts hc := h'.counts (h.counts hc)
  cursors l hl := h'.cursors l (h.cursors l hl)

theorem HookStep.cursorsInside (k : HookStep s t) {ch : Nat} (hc : cursorsInside s u ch) : cursorsInside t u ch := by
  cases u with
  | delay => exact k.cursors (.delay ch) hc
  | reverb => exact fun j => k.cursors (.reverb ch j) (hc j)
  | _ => trivial

theorem HookStep.keepsUnit (k : HookStep s t) (u : UnitId) : KeepsUnit s t u where
  life := by rw [k.regs]
  valid ch := by rw [stValid_congr k.valid]; exact id
  binding := binding_congr k.binds u
  arena := .of_eq k.coefs u
  cursors _ := k.cursorsInside

theorem HookStep.inv (k : HookStep s t) (h : Inv s) : Inv t := by
  obtain ⟨hhw, hmem, hcount, hwin, hunit⟩ := inv_iff.1 h
  refine inv_iff.2 ⟨k.hw ▸ hhw, k.mem hmem, k.counts hcount, k.win ▸ hwin, fun u => ?_⟩
  refine (hunit u).of_keeps (k.keepsUnit u) ?_
  rw [k.regs]
  exact (hunit u).regs

/-- A change of channel registers that no delay line has a part in. -/
theorem HookStep.of_chans (hhw : t.hw = s.hw) (hwin : t.win = s.win) (hregs : t.regs = s.regs) (hvalid : t.valid = s.valid)
    (hbinds : t.binds = s.binds) (hcoefs : t.coefs = s.coefs) (hmem : t.mem = s.mem)
    (hcount : channelCounts s → channelCounts t) (hc : ∀ l, lineCursor t l = lineCursor s l) : HookStep s t where
  hw := hhw
  win := hwin
  regs := hregs
  valid := hvalid
  binds := hbinds
  coefs := hcoefs
  mem := by rw [hmem]; exact id
  counts := hcount
  cursors l := by rw [hc, lineCap_congr hcoefs]; exact id

theorem hookStep_setOnePoleChan (s : State) (ch : Nat) (st : OnePoleState) : HookStep s (s.setOnePoleChan ch st) := by
  refine .of_chans rfl rfl rfl rfl rfl rfl rfl (fun h => ?_) fun l => by cases l <;> rfl
  simpa [channelCounts, State.setOnePoleChan] using h

theorem hookStep_setMm1Chan (s : State) (u : UnitId) (ch : Nat) (st : Mm1State) : HookStep s (s.setMm1Chan u ch st) := by
  refine .of_chans (by simp) (by simp) (by simp) (by simp) (by simp) (by simp) (by simp) (fun h => ?_) fun l => ?_
  · cases u <;> simpa [channelCounts, State.setMm1Chan] using h
  · cases u <;> cases l <;> rfl

theorem hookStep_setMm2Chan (s : State) (u : UnitId) (ch : Nat) (st : Mm2State) : HookStep s (s.setMm2Chan u ch st) := by
  refine .of_chans (by simp) (by simp) (by simp) (by simp) (by simp) (by simp) (by simp) (fun h => ?_) fun l => ?_
  · cases u <;> simpa [channelCounts, State.setMm2Chan] using h
  · cases u <;> cases l <;> rfl

theorem channelCounts_setCursor (l : LineRef) (k : Nat) (h : channelCounts s) : channelCounts (setCursor s l k) := by
  cases l <;> simpa [channelCounts, setCursor, State.setDelayChan, State.setReverbChan] using h

/-- A REVERB channel's registers written with the cursors they had. -/
theorem hookStep_setReverbChan (s : State) (ch : Nat) {f : ReverbState → ReverbState} (hf : ∀ st, (f st).w = st.w) :
    HookStep s (s.setReverbChan ch (f (s.chans.reverb.getD ch {}))) := by
  refine .of_chans rfl rfl rfl rfl rfl rfl rfl (fun h => ?_) fun l => ?_
  · simpa [channelCounts, State.setReverbChan] using h
  · cases l with
    | delay c => rfl
    | reverb c j =>
      by_cases hc : ch = c
      · subst hc
        by_cases hlen : ch < s.chans.reverb.length <;>
          simp [lineCursor, State.setReverbChan, List.getD_eq_getElem?_getD, hlen, hf]
      · simp [lineCursor, State.setReverbChan, List.getD_eq_getElem?_getD, List.getElem?_set_ne hc]

theorem lineCap_lt (s : State) (l : LineRef) : lineCap s l < 2 ^ 32 := by
  cases l <;> exact BitVec.isLt _

/-- The cursor of a channel the block does not have is not written. -/
theorem setCursor_absent {l : LineRef} (h : ¬l.chan < lineChans s l) (k : Nat) : setCursor s l k = s := by
  cases l with
  | delay ch =>
    have hch : s.chans.delay.length ≤ ch := Nat.not_lt.1 h
    rw [setCursor, State.setDelayChan, List.set_eq_of_length_le hch]
  | reverb ch j =>
    have hch : s.chans.reverb.length ≤ ch := Nat.not_lt.1 h
    rw [setCursor, State.setReverbChan, List.set_eq_of_length_le hch]

/-- A cursor written inside its line leaves every cursor inside its own. -/
theorem hookStep_setCursor (s : State) (l : LineRef) {k : Nat} (hk : lineCursor s l < lineCap s l → k < lineCap s l) :
    HookStep s (setCursor s l k) where
  hw := by simp
  win := by simp
  regs := by simp
  valid := by simp
  binds := by simp
  coefs := by simp
  mem := by simp
  counts := channelCounts_setCursor l k
  cursors l' hl' := by
    rw [lineCap_setCursor]
    by_cases hl : l = l'
    · subst hl
      by_cases hch : l.chan < lineChans s l
      · have := lineCap_lt s l
        rw [lineCursor_setCursor_self hch (by have := hk hl'; omega)]
        exact hk hl'
      · rwa [setCursor_absent hch]
    · rwa [lineCursor_setCursor_other hl]

theorem lineCursor_setCursor_zero (s : State) (l : LineRef) : lineCursor (setCursor s l 0) l = 0 := by
  by_cases h : l.chan < lineChans s l
  · exact lineCursor_setCursor_self h (by decide)
  · rw [setCursor_absent h]
    cases l with
    | delay ch =>
      have hch : s.chans.delay.length ≤ ch := Nat.not_lt.1 h
      simp [lineCursor, List.getD_eq_getElem?_getD, hch]
    | reverb ch j =>
      have hch : s.chans.reverb.length ≤ ch := Nat.not_lt.1 h
      simp [lineCursor, List.getD_eq_getElem?_getD, hch]

theorem hookStep_withMem (s : State) {m : List Host.Cell} (hm : Memory.wf s.mem = true → Memory.wf m = true) :
    HookStep s { s with mem := m } :=
  ⟨rfl, rfl, rfl, rfl, rfl, rfl, hm, id, fun l => by cases l <;> exact id⟩

/-- Every write of a channel's hooks is such a step. -/
theorem channelRel_hookStep : ChannelRel HookStep where
  refl := .refl
  trans := .trans
  onePole := hookStep_setOnePoleChan
  mm1 := hookStep_setMm1Chan
  mm2 := hookStep_setMm2Chan
  reverb s ch _ hf := hookStep_setReverbChan s ch hf
  line s l x _ hr := by
    refine .trans _ _ _ (hookStep_withMem s fun hm => wf_writeWord _ _ x hr hm) (hookStep_setCursor _ l fun hc => ?_)
    rw [lineCap_withMem] at hc ⊢
    exact Nat.mod_lt _ (Nat.zero_lt_of_lt hc)

theorem hookStep_memWrite (a : Nat) (x : Word) : Engine.Keeps HookStep (memWrite a x) :=
  keeps_memWrite .refl fun s _ hr _ => hookStep_withMem s fun hm => wf_writeWord _ _ x hr hm

theorem hookStep_fillWords (a : Nat) (v : F32) (n : Nat) : Engine.Keeps HookStep (fillWords a v n) := by
  induction n generalizing a with
  | zero => exact keeps_pure .refl ()
  | succ n ih => exact keeps_bind .trans (hookStep_memWrite a v) fun _ => ih (a + 4)

/-! ### RESET_STATE: a hook that brings every cursor of its channel inside its line -/

/-- The lines of a unit's channel. -/
def unitLines (u : UnitId) (ch : Nat) : List LineRef :=
  match u with
  | .delay => [.delay ch]
  | .reverb => revLines.map (.reverb ch)
  | _ => []

theorem mem_revLines (j : RevLine) : j ∈ revLines := by cases j <;> decide

theorem cursorsInside_iff (s : State) (u : UnitId) (ch : Nat) :
    cursorsInside s u ch ↔ ∀ l ∈ unitLines u ch, lineCursor s l < lineCap s l := by
  cases u <;> simp [cursorsInside, unitLines, mem_revLines]

theorem lineCap_pos (h : unitLayout s u) {ch : Nat} {l : LineRef} (hl : l ∈ unitLines u ch) : 0 < lineCap s l := by
  cases u with
  | delay =>
    obtain rfl := List.mem_singleton.1 hl
    exact h.1
  | reverb =>
    obtain ⟨j, -, rfl⟩ := List.mem_map.1 hl
    exact h.1 j
  | _ => cases hl

/-- Steps of a channel's hooks have led from `s₀` to `s`, and the lines of a list have their cursors inside. -/
structure Seeded (s₀ : State) (ls : List LineRef) (s : State) : Prop where
  hook : HookStep s₀ s
  inside : ∀ l ∈ ls, lineCursor s l < lineCap s l

/-- A part of a RESET_STATE hook: it takes the seeded lines from one list to another, and where it stops no more than hook
steps have been made. -/
def Engine.Seeds {α : Type} (s₀ : State) (ls ls' : List LineRef) (e : Engine α) : Prop :=
  ∀ s, Seeded s₀ ls s → match e s with
    | .ok _ t => Seeded s₀ ls' t
    | .error _ t => HookStep s₀ t

section
variable {α β : Type} {s₀ : State} {ls ls' ls'' : List LineRef}

theorem seeds_bind {e : Engine α} {k : α → Engine β} (he : Engine.Seeds s₀ ls ls' e)
    (hk : ∀ a, Engine.Seeds s₀ ls' ls'' (k a)) : Engine.Seeds s₀ ls ls'' (e >>= k) := by
  intro s hs
  have h := he s hs
  rw [engine_bind]
  cases hr : e s with
  | ok a t =>
    rw [hr] at h
    exact hk a t h
  | error x t =>
    rw [hr] at h
    exact h

/-- Hook steps keep the lines that are seeded. -/
theorem seeds_of_keeps {e : Engine α} (h : Engine.Keeps HookStep e) : Engine.Seeds s₀ ls ls e := by
  intro s hs
  have hk := h s
  cases hr : e s with
  | ok a t =>
    rw [hr] at hk
    exact ⟨.trans _ _ _ hs.hook hk, fun l hl => hk.cursors l (hs.inside l hl)⟩
  | error x t =>
    rw [hr] at hk
    exact .trans _ _ _ hs.hook hk

theorem seeds_mono {e : Engine α} (h : Engine.Seeds s₀ ls ls' e) (hsub : ls'' ⊆ ls') : Engine.Seeds s₀ ls ls'' e := by
  intro s hs
  have hk := h s hs
  cases hr : e s with
  | ok a t =>
    rw [hr] at hk
    exact ⟨hk.hook, fun l hl => hk.inside l (hsub hl)⟩
  | error x t =>
    rw [hr] at hk
    exact hk

/-- A fill of a line that is not empty seeds it (44_delay.md R343). -/
theorem seeds_dlFill {l : LineRef} (hpos : 0 < lineCap s₀ l) (v : F32) : Engine.Seeds s₀ ls (l :: ls) (dlFill l v) := by
  intro s hs
  unfold dlFill
  rw [engine_bind_get, engine_bind]
  have hfill := hookStep_fillWords (lineBase s l) v (lineCap s l) s
  cases hr : fillWords (lineBase s l) v (lineCap s l) s with
  | error x t =>
    rw [hr] at hfill
    exact .trans _ _ _ hs.hook hfill
  | ok a t =>
    rw [hr] at hfill
    have hst : HookStep s₀ t := .trans _ _ _ hs.hook hfill
    have hcap : 0 < lineCap t l := by rwa [lineCap_congr hst.coefs]
    have hset : HookStep t (setCursor t l 0) := hookStep_setCursor t l fun _ => hcap
    refine ⟨.trans _ _ _ hst hset, fun l' hl' => ?_⟩
    rcases List.mem_cons.1 hl' with rfl | hl'
    · rwa [lineCursor_setCursor_zero, lineCap_setCursor]
    · exact hset.cursors l' (hfill.cursors l' (hs.inside l' hl'))

theorem seeds_modifyReverbChan (ch : Nat) {f : ReverbState → ReverbState} (hf : ∀ st, (f st).w = st.w) :
    Engine.Seeds s₀ ls ls (modifyReverbChan ch f) := seeds_of_keeps (keeps_modifyReverbChan channelRel_hookStep ch hf)

/-- REVERB's RESET_STATE hook fills its thirteen lines in order (45_reverb.md R390). -/
theorem seeds_reverbReset {ch : Nat} (hpos : ∀ j, 0 < lineCap s₀ (.reverb ch j)) (xl xr : F32) :
    Engine.Seeds s₀ [] (unitLines .reverb ch).reverse (reverbReset ch xl xr) := by
  have fill : ∀ j v ls, Engine.Seeds s₀ ls (.reverb ch j :: ls) (dlFill (.reverb ch j) v) :=
    fun j v _ => seeds_dlFill (hpos j) v
  refine seeds_bind (seeds_of_keeps (keeps_get .refl)) fun s => ?_
  refine seeds_bind (fill .pd _ _) fun _ => ?_
  refine seeds_bind (seeds_modifyReverbChan ch fun _ => rfl) fun _ => ?_
  refine seeds_bind (fill .id1 _ _) fun _ => ?_
  refine seeds_bind (fill .id2 _ _) fun _ => ?_
  refine seeds_bind (fill .id3 _ _) fun _ => ?_
  refine seeds_bind (fill .id4 _ _) fun _ => ?_
  refine seeds_bind (fill .dd1 _ _) fun _ => ?_
  refine seeds_bind (fill .dlL1 _ _) fun _ => ?_
  refine seeds_bind (seeds_modifyReverbChan ch fun _ => rfl) fun _ => ?_
  refine seeds_bind (fill .dd2 _ _) fun _ => ?_
  refine seeds_bind (fill .dlL2 _ _) fun _ => ?_
  refine seeds_bind (fill .dd3 _ _) fun _ => ?_
  refine seeds_bind (fill .dlR1 _ _) fun _ => ?_
  refine seeds_bind (seeds_modifyReverbChan ch fun _ => rfl) fun _ => ?_
  refine seeds_bind (fill .dd4 _ _) fun _ => ?_
  refine seeds_bind (fill .dlR2 _ _) fun _ => ?_
  refine seeds_bind (seeds_of_keeps (keeps_of_same .refl (taps_same ch))) fun y => ?_
  exact seeds_of_keeps (keeps_pure .refl [y.1, y.2])

/-- The RESET_STATE hook of any unit seeds every line of its channel. -/
theorem seeds_resetStateHook {u : UnitId} {ch : Nat} (hpos : ∀ l ∈ unitLines u ch, 0 < lineCap s₀ l) (xs : List F32) :
    Engine.Seeds s₀ [] (unitLines u ch) (resetStateHook u ch xs) := by
  have mm1 : ∀ u r, Engine.Seeds s₀ [] [] (answerMm1 u ch r) := fun u r =>
    seeds_of_keeps (keeps_answerMm1 channelRel_hookStep u ch r)
  have mm2 : ∀ u r, Engine.Seeds s₀ [] [] (answerMm2 u ch r) := fun u r =>
    seeds_of_keeps (keeps_answerMm2 channelRel_hookStep u ch r)
  refine seeds_bind (seeds_of_keeps (keeps_get .refl)) fun s => ?_
  cases u with
  | onepole =>
    exact seeds_of_keeps (keeps_bind .trans (keeps_modify fun s => hookStep_setOnePoleChan s ch _) fun _ =>
      keeps_pure .refl [sample0 xs])
  | mm1 => exact mm1 _ _
  | mm2 => exact mm2 _ _
  | hp1 => exact mm1 _ _
  | ls1 => exact mm1 _ _
  | ls2 => exact mm2 _ _
  | ap2 => exact mm2 _ _
  | peak => exact mm2 _ _
  | delay =>
    exact seeds_bind (seeds_dlFill (hpos _ (List.mem_singleton.2 rfl)) _) fun _ =>
      seeds_of_keeps (keeps_pure .refl [sample0 xs])
  | reverb =>
    have hall : ∀ j, 0 < lineCap s₀ (.reverb ch j) := fun j => hpos _ (List.mem_map_of_mem (mem_revLines j))
    exact seeds_mono (seeds_reverbReset hall _ _) fun l hl => List.mem_reverse.2 hl

end

/-! ### Commands that keep the invariant -/

/-- The relation "the invariant is kept". -/
def InvKept (s t : State) : Prop := Inv s → Inv t

theorem InvKept.refl (s : State) : InvKept s s := id

theorem InvKept.trans (s t r : State) (h : InvKept s t) (h' : InvKept t r) : InvKept s r := h' ∘ h

theorem channelRel_invKept : ChannelRel InvKept where
  refl := .refl
  trans := .trans
  onePole s ch st := (channelRel_hookStep.onePole s ch st).inv
  mm1 s u ch st := (channelRel_hookStep.mm1 s u ch st).inv
  mm2 s u ch st := (channelRel_hookStep.mm2 s u ch st).inv
  reverb s ch f hf := (channelRel_hookStep.reverb s ch f hf).inv
  line s l x ha hr := (channelRel_hookStep.line s l x ha hr).inv

theorem invKept_store (s : State) {a : Nat} (x : Word) (hr : a + 4 ≤ 2 ^ 32) :
    InvKept s { s with mem := writeWord s.mem a x } := fun h => inv_withMem h (wf_writeWord _ _ x hr h.mem_wf)

/-- A change to one unit's registers, the others keeping theirs. -/
theorem Inv.of_unit (h : Inv s) (u : UnitId) (hhw : t.hw = s.hw) (hwin : t.win = s.win) (hmem : t.mem = s.mem)
    (hcount : channelCounts t) (hregs : ∀ w, w ≠ u → t.regs.get w = s.regs.get w)
    (hother : ∀ w, w ≠ u → KeepsUnit s t w) (hself : UnitInv t u) : Inv t := by
  refine inv_iff.2 ⟨hhw ▸ h.1, hmem ▸ h.mem_wf, hcount, hwin ▸ h.window, fun w => ?_⟩
  by_cases hw : w = u
  · exact hw ▸ hself
  · refine (h.unit w).of_keeps (hother w hw) ?_
    rw [hregs w hw]
    exact (h.unit w).regs

/-- A unit whose registers, flags, bindings, arena and channels are the same. -/
theorem KeepsUnit.of_same (hlife : (t.regs.get u).life = (s.regs.get u).life)
    (hvalid : t.valid.get u = s.valid.get u) (hbind : ∀ ch, t.binding u ch = s.binding u ch)
    (harena : SameArena s.coefs t.coefs u) (hd : u = .delay → t.chans.delay = s.chans.delay)
    (hr : u = .reverb → t.chans.reverb = s.chans.reverb) : KeepsUnit s t u where
  life := hlife
  valid ch := by
    unfold State.stValid
    rw [hvalid]
    exact id
  binding := hbind
  arena := harena
  cursors _ := harena.cursors hd hr

/-! #### What the control commands leave of the other units -/

theorem binding_unbindAll_other (s : State) (h : w ≠ u) (ch : Nat) : (s.unbindAll u).binding w ch = s.binding w ch := by
  cases u with
  | delay => cases w <;> first | rfl | exact absurd rfl h
  | reverb => cases w <;> first | rfl | exact absurd rfl h
  | _ => rfl

theorem binding_setBinding_other (s : State) (h : w ≠ u) (ch c : Nat) (b : Binding) :
    (s.setBinding u ch b).binding w c = s.binding w c := by
  cases u with
  | delay => cases w <;> first | rfl | exact absurd rfl h
  | reverb => cases w <;> first | rfl | exact absurd rfl h
  | _ => rfl

theorem binding_unbindAll_self (s : State) (u : UnitId) (ch : Nat) : ((s.unbindAll u).binding u ch).bound = false := by
  by_cases hc : ch < s.hw.nCh <;> cases u <;> simp [State.unbindAll, State.binding, List.getD_eq_getElem?_getD, hc]

theorem initHook_delay (h : UnitId.delay ≠ u) (x : F32) (c : Coefs) : (initHook u x c).delay = c.delay := by
  cases u <;> first | rfl | exact absurd rfl h

theorem initHook_reverb (h : UnitId.reverb ≠ u) (x : F32) (c : Coefs) : (initHook u x c).reverb = c.reverb := by
  cases u <;> first | rfl | exact absurd rfl h

theorem setSrHook_delay (h : UnitId.delay ≠ u) (rt : RevTable) (fs : F32) (c : Coefs) :
    (setSrHook rt u fs c).delay = c.delay := by
  cases u <;> first | rfl | exact absurd rfl h

theorem setSrHook_reverb (h : UnitId.reverb ≠ u) (rt : RevTable) (fs : F32) (c : Coefs) :
    (setSrHook rt u fs c).reverb = c.reverb := by
  cases u <;> first | rfl | exact absurd rfl h

/-- UPDATE_CTRL lays out no arena: LEN, MEMREQ, CAP and OFF are SET_SR's (44_delay.md R347, 45_reverb.md R377). -/
theorem sameArena_updateCtrlHook (u w : UnitId) (fs : F32) (m : Word) (c : Coefs) :
    SameArena c (updateCtrlHook u fs m c) w := by
  cases u with
  | delay => cases w <;> by_cases h : dirtyBit m 0 = true <;> simp [SameArena, updateCtrlHook, delayUpdate, h]
  | reverb => cases w <;> simp [SameArena, updateCtrlHook, reverbUpdate]
  | _ => exact .of_banks (fun _ => rfl) fun _ => rfl

theorem sameArena_resetCoeffsHook (u w : UnitId) (fs : F32) (c : Coefs) : SameArena c (resetCoeffsHook u fs c) w := by
  cases u with
  | reverb => cases w <;> simp [SameArena, resetCoeffsHook, reverbResetCoeffs, reverbUpdate]
  | _ => exact sameArena_updateCtrlHook _ w fs _ c

theorem sameArena_updateAudioHook (u w : UnitId) (fs : F32) (c : Coefs) : SameArena c (updateAudioHook u fs c) w := by
  cases u with
  | reverb => cases w <;> simp [SameArena, updateAudioHook, reverbUpdateAudio]
  | _ => exact .refl c w

theorem sameArena_write {write : Word → Coefs → Coefs} (h : WritesOnly u write) (w : UnitId) (v : Word) (c : Coefs) :
    SameArena c (write v c) w := by
  cases w with
  | delay => exact h.delay v c
  | reverb =>
    obtain ⟨hcap, hoff, hreq, -⟩ := h.reverb v c
    exact ⟨hcap, hoff, hreq⟩
  | _ => trivial

theorem zeroChans_delay (h : UnitId.delay ≠ u) (n : Nat) (c : Chans) : (zeroChans u n c).delay = c.delay := by
  cases u <;> first | rfl | exact absurd rfl h

theorem zeroChans_reverb (h : UnitId.reverb ≠ u) (n : Nat) (c : Chans) : (zeroChans u n c).reverb = c.reverb := by
  cases u <;> first | rfl | exact absurd rfl h

/-! #### The counts of channels -/

theorem length_valid_set {n : Nat} {v : PerUnit (List Bool)} (h : ∀ w, (v.get w).length = n) {l : List Bool}
    (hl : l.length = n) (u w : UnitId) : ((v.set u l).get w).length = n := by
  rw [PerUnit.get_set]
  split
  · exact hl
  · exact h w

theorem channelCounts_clearValid (h : channelCounts s) (u : UnitId) : channelCounts (s.clearValid u) :=
  ⟨length_valid_set h.1 (List.length_replicate ..) u, h.2⟩

theorem channelCounts_setStValid (h : channelCounts s) (u : UnitId) (ch : Nat) (b : Bool) :
    channelCounts (s.setStValid u ch b) :=
  ⟨length_valid_set h.1 (List.length_set.trans (h.1 u)) u, h.2⟩

theorem channelCounts_unbindAll (h : channelCounts s) (u : UnitId) : channelCounts (s.unbindAll u) := by
  cases u <;> simp_all [channelCounts, State.unbindAll]

theorem channelCounts_setBinding (h : channelCounts s) (u : UnitId) (ch : Nat) (b : Binding) :
    channelCounts (s.setBinding u ch b) := by
  cases u <;> simp_all [channelCounts, State.setBinding]

theorem channelCounts_zeroChans (h : channelCounts s) (u : UnitId) :
    channelCounts { s with chans := zeroChans u s.hw.nCh s.chans } := by
  cases u <;> simp_all [channelCounts, zeroChans]

/-! #### The control commands' effects -/

/-- INIT (40_protocol.md R142). -/
theorem inv_initUnit (h : Inv s) (u : UnitId) : Inv (initUnit u s) := by
  have hregs : (initUnit u s).regs = s.regs.set u (initRegs u) := by simp [initUnit]
  have hvalid : ∀ w, (initUnit u s).valid.get w = ((s.clearValid u).valid).get w := fun w => by simp [initUnit]
  have hcoefs : (initUnit u s).coefs = initHook u s.win.arg0 s.coefs := by simp [initUnit]
  have hchans : (initUnit u s).chans = zeroChans u s.hw.nCh s.chans := by simp [initUnit]
  refine h.of_unit u (by simp) (by simp) (by simp) ?_ (fun w hw => ?_) (fun w hw => .of_same ?_ ?_ (fun ch => ?_) ?_ ?_ ?_)
    (.of_cleared ?_ ?_ ?_ ?_)
  · refine channelCounts_unbindAll (channelCounts_clearValid ?_ u) u
    exact channelCounts_zeroChans h.counts u
  · rw [hregs, PerUnit.get_set_other _ _ hw]
  · rw [hregs, PerUnit.get_set_other _ _ hw]
  · rw [hvalid, State.clearValid_valid, PerUnit.get_set_other _ _ hw]
  · exact binding_unbindAll_other _ hw ch
  · rw [hcoefs]
    exact .of_banks (fun e => initHook_delay (e ▸ hw) _ _) fun e => initHook_reverb (e ▸ hw) _ _
  · rintro rfl
    rw [hchans, zeroChans_delay hw]
  · rintro rfl
    rw [hchans, zeroChans_reverb hw]
  · rw [hregs, PerUnit.get_set_self]
    exact ⟨by simp [initRegs], rfl, rfl⟩
  · rw [hregs, PerUnit.get_set_self]
    intro hl
    cases hl
  · intro ch
    unfold State.stValid
    rw [hvalid]
    exact State.stValid_clearValid_self s u ch
  · exact fun ch => binding_unbindAll_self _ u ch

@[simp] theorem unbindForRate_regs (u : UnitId) (s : State) : (unbindForRate u s).regs = s.regs := by
  unfold unbindForRate; split <;> simp

@[simp] theorem unbindForRate_coefs (u : UnitId) (s : State) : (unbindForRate u s).coefs = s.coefs := by
  unfold unbindForRate; split <;> simp

theorem unbindForRate_valid_other (s : State) (h : w ≠ u) : (unbindForRate u s).valid.get w = s.valid.get w := by
  unfold unbindForRate; split <;> simp [PerUnit.get_set_other _ _ h]

theorem unbindForRate_binding_other (s : State) (h : w ≠ u) (ch : Nat) :
    (unbindForRate u s).binding w ch = s.binding w ch := by
  unfold unbindForRate
  split
  · exact binding_unbindAll_other s h ch
  · rfl

theorem channelCounts_unbindForRate (h : channelCounts s) (u : UnitId) : channelCounts (unbindForRate u s) := by
  unfold unbindForRate
  split
  · exact channelCounts_clearValid (channelCounts_unbindAll h u) u
  · exact h

theorem binding_of_no_memory (s : State) (h : hasMemory u = false) (ch : Nat) : s.binding u ch = {} := by
  cases u <;> first | rfl | cases h

@[simp] theorem setRate_regs (u : UnitId) (fs : F32) (s : State) :
    (setRate u fs s).regs = s.regs.set u { s.regs.get u with fs := fs, life := .srSet } := by
  simp [setRate]

@[simp] theorem setRate_coefs (u : UnitId) (fs : F32) (s : State) :
    (setRate u fs s).coefs = setSrHook s.hw.revTable u fs s.coefs := by
  simp [setRate]

/-- SET_SR (R143) of a legal rate that lays out a legal arena. -/
theorem inv_setRate (h : Inv s) {u : UnitId} {fs : F32} (hfs : isFinite fs = true) (hmin : fLe fsMin fs = true)
    (hl : unitLayout (setRate u fs s) u) : Inv (setRate u fs s) := by
  have hcount : channelCounts (setRate u fs s) := by
    refine channelCounts_unbindForRate ?_ u
    exact h.counts
  refine h.of_unit u (by simp) (by simp) (by simp) hcount (fun w hw => ?_)
    (fun w hw => .of_same ?_ (unbindForRate_valid_other _ hw) (unbindForRate_binding_other _ hw) ?_ (fun _ => by simp)
      fun _ => by simp) ?_
  · simp [PerUnit.get_set_other _ _ hw]
  · simp [PerUnit.get_set_other _ _ hw]
  · rw [setRate_coefs]
    exact .of_banks (fun e => setSrHook_delay (e ▸ hw) _ _ _) fun e => setSrHook_reverb (e ▸ hw) _ _ _
  · have hregs : lifeRegs ((setRate u fs s).regs.get u) u := by
      rw [setRate_regs, PerUnit.get_set_self]
      exact ⟨(h.unit u).regs.1, hfs, hmin⟩
    by_cases hm : hasMemory u = true
    · refine .of_cleared hregs (fun _ => hl) (fun ch => ?_) fun ch => ?_
      · simp [setRate, unbindForRate, hm]
      · rw [setRate, unbindForRate, if_pos hm, binding_congr (State.clearValid_binds _ u)]
        exact binding_unbindAll_self _ u ch
    · have hm' : hasMemory u = false := by simpa using hm
      have hlife : lifeSrSet ((setRate u fs s).regs.get u).life = true := by simp [lifeSrSet]
      refine ⟨hregs, fun _ => hl, fun ch => ⟨fun _ => ⟨hlife, fun hmem => absurd hmem hm⟩, fun hb => ?_⟩⟩
      rw [binding_of_no_memory _ hm'] at hb
      cases hb

/-- RESET_COEFFS (R144) of a unit whose sample rate is set. -/
theorem inv_resetCoeffs (h : Inv s) {u : UnitId} (hl : lifeSrSet (s.regs.get u).life = true) :
    Inv (resetCoeffs u s) := by
  have hregs : (resetCoeffs u s).regs = s.regs.set u
      { s.regs.get u with dirty := 0, gen := (s.regs.get u).gen + 1, life := .ready } := by simp [resetCoeffs]
  have harena : ∀ w, SameArena s.coefs (resetCoeffs u s).coefs w :=
    fun w => sameArena_resetCoeffsHook u w _ s.coefs
  refine h.of_unit u (by simp) (by simp) (by simp) (channelCounts_clearValid h.counts u) (fun w hw => ?_)
    (fun w hw => .of_same ?_ ?_ (binding_congr (by simp) w) (harena w) (fun _ => by simp) fun _ => by simp)
    ⟨?_, fun _ => (harena u).layout ((h.unit u).layout hl), fun ch => ⟨fun hv => ?_, fun hb => ?_⟩⟩
  · rw [hregs, PerUnit.get_set_other _ _ hw]
  · rw [hregs, PerUnit.get_set_other _ _ hw]
  · simp [resetCoeffs, PerUnit.get_set_other _ _ hw]
  · obtain ⟨-, hrate⟩ := (h.unit u).regs
    rw [hregs, PerUnit.get_set_self]
    refine ⟨by simp, ?_⟩
    rcases (lifeSrSet_eq _).1 hl with hlife | hlife <;> simpa [hlife] using hrate
  · have hv' := State.stValid_clearValid_self { s with coefs := (resetCoeffs u s).coefs } u ch
    exact absurd (hv.symm.trans hv') (by decide)
  · rw [hregs, PerUnit.get_set_self, (harena u).memReq, binding_congr (s := s) (by simp)]
    rw [binding_congr (s := s) (by simp)] at hb
    exact ⟨rfl, (((h.unit u).flags ch).2 hb).2⟩

/-- A DIRTY mask written: within the unit's bits, and 0 before INIT. -/
theorem lifeRegs_withDirty {r : UnitRegs} (h : lifeRegs r u) {d : Word} (hd : d &&& ~~~allDirty u = 0)
    (h0 : r.life = .uninit → d = 0) : lifeRegs { r with dirty := d } u := by
  obtain ⟨-, hlife⟩ := h
  refine ⟨hd, ?_⟩
  cases hl : r.life with
  | uninit =>
    rw [hl] at hlife
    exact ⟨hlife.1, hlife.2.1, h0 hl⟩
  | _ => simpa [hl] using hlife

/-- A change of coefficient registers that lays out no arena, and of one unit's DIRTY mask. -/
theorem Inv.of_coefs (h : Inv s) (u : UnitId) {d : Word} (hhw : t.hw = s.hw) (hwin : t.win = s.win)
    (hmem : t.mem = s.mem) (hvalid : t.valid = s.valid) (hbinds : t.binds = s.binds) (hchans : t.chans = s.chans)
    (harena : ∀ w, SameArena s.coefs t.coefs w) (hregs : t.regs = s.regs.set u { s.regs.get u with dirty := d })
    (hd : d &&& ~~~allDirty u = 0) (h0 : (s.regs.get u).life = .uninit → d = 0) : Inv t := by
  have hcount : channelCounts t := by simpa only [channelCounts, hhw, hvalid, hbinds, hchans] using h.counts
  have hkeeps : ∀ w, (t.regs.get w).life = (s.regs.get w).life → KeepsUnit s t w := fun w hl =>
    .of_same hl (by rw [hvalid]) (binding_congr hbinds w) (harena w) (fun _ => by rw [hchans]) fun _ => by rw [hchans]
  refine h.of_unit u hhw hwin hmem hcount (fun w hw => ?_) (fun w hw => hkeeps w ?_)
    ((h.unit u).of_keeps (hkeeps u ?_) ?_)
  · rw [hregs, PerUnit.get_set_other _ _ hw]
  · rw [hregs, PerUnit.get_set_other _ _ hw]
  · rw [hregs, PerUnit.get_set_self]
  · rw [hregs, PerUnit.get_set_self]
    exact lifeRegs_withDirty (h.unit u).regs hd h0

/-- UPDATE_CTRL (R146). -/
theorem inv_updateCtrl (h : Inv s) (u : UnitId) : Inv (updateCtrl u s) := by
  refine h.of_coefs u (d := 0) rfl rfl rfl rfl rfl rfl (fun w => ?_) rfl (by simp) fun _ => rfl
  show SameArena s.coefs (if (s.regs.get u).dirty = 0 then s.coefs else _) w
  split
  · exact .refl _ w
  · exact sameArena_updateCtrlHook u w _ _ _

theorem PerUnit.set_get_self {α : Type} (p : PerUnit α) (u : UnitId) : p.set u (p.get u) = p :=
  PerUnit.ext_get fun w => by
    rw [PerUnit.get_set]
    split
    · rw [‹w = u›]
    · rfl

/-- UPDATE_AUDIO (R147). -/
theorem inv_updateAudio (h : Inv s) (u : UnitId) : Inv (updateAudio u s) := by
  obtain ⟨hdirty, hlife⟩ := (h.unit u).regs
  refine h.of_coefs u (d := (s.regs.get u).dirty) rfl rfl rfl rfl rfl rfl (sameArena_updateAudioHook u · _ _)
    (PerUnit.set_get_self _ u).symm hdirty fun h0 => ?_
  rw [h0] at hlife
  exact hlife.2.2

/-- SET_PARAM (R149) of a unit that INIT has set up. -/
theorem inv_writeParam (h : Inv s) {u : UnitId} {bits : Word} {write : Word → Coefs → Coefs}
    (hl : isInited (s.regs.get u).life) (hbits : bits &&& ~~~allDirty u = 0) (hw : WritesOnly u write) :
    Inv (writeParam u bits write s) := by
  refine h.of_coefs u (d := (s.regs.get u).dirty ||| bits) rfl rfl rfl rfl rfl rfl (sameArena_write hw · _ _) rfl ?_
    fun h0 => ?_
  · rw [BitVec.and_or_distrib_right, (h.unit u).regs.1, hbits, BitVec.or_self]
  · rw [h0] at hl
    simp [isInited] at hl

theorem stValid_setStValid_self_eq_true {u : UnitId} {ch : Nat} {b : Bool} (h : (s.setStValid u ch b).stValid u ch = true) :
    b = true := by
  by_cases hch : ch < (s.valid.get u).length
  · rwa [State.stValid_setStValid_self s hch] at h
  · simp [State.stValid, List.getD_eq_getElem?_getD, hch] at h

/-- What a channel needs to be marked valid. -/
def MayBeValid (s : State) (u : UnitId) (ch : Nat) : Prop :=
  lifeSrSet (s.regs.get u).life = true ∧
    (hasMemory u = true → (s.regs.get u).life = .ready ∧ (s.binding u ch).bound = true ∧ cursorsInside s u ch)

/-- ST_VALID written (10_state.md R35): cleared, or set where the channel may be valid. -/
theorem inv_setStValid (h : Inv s) {u : UnitId} {ch : Nat} {b : Bool} (hb : b = true → MayBeValid s u ch) :
    Inv (s.setStValid u ch b) := by
  have hbind : ∀ w c, (s.setStValid u ch b).binding w c = s.binding w c := binding_congr (State.setStValid_binds s u ch b)
  refine h.of_unit u rfl rfl rfl (channelCounts_setStValid h.counts u ch b) (fun _ _ => rfl)
    (fun w hw => .of_same rfl ?_ (hbind w) (.refl _ w) (fun _ => rfl) fun _ => rfl)
    ⟨(h.unit u).regs, (h.unit u).layout, fun c => ?_⟩
  · rw [State.setStValid_valid, PerUnit.get_set_other _ _ hw]
  · obtain ⟨hvalid, hbound⟩ := (h.unit u).flags c
    have hsame : SameArena s.coefs (s.setStValid u ch b).coefs u := .refl _ u
    unfold channelFlags
    rw [hbind, hsame.memReq]
    refine ⟨fun hv => ?_, hbound⟩
    have hmay : MayBeValid s u c := by
      by_cases hc : c = ch
      · subst hc
        exact hb (stValid_setStValid_self_eq_true hv)
      · rw [State.stValid_setStValid_other s u u (.inr hc)] at hv
        exact hvalid hv
    refine ⟨hmay.1, fun hm => ?_⟩
    obtain ⟨hready, hbd, hcur⟩ := hmay.2 hm
    exact ⟨hready, hbd, hsame.cursors (fun _ => rfl) (fun _ => rfl) hcur⟩

/-- A binding read after a write: as it was, or the one written. -/
theorem binding_setBinding_cases (s : State) (u : UnitId) (ch c : Nat) (b : Binding) :
    (s.setBinding u ch b).binding u c = s.binding u c ∨ c = ch ∧ (s.setBinding u ch b).binding u c = b := by
  by_cases hc : c = ch
  · subst hc
    cases u with
    | delay =>
      by_cases hlen : c < s.binds.delay.length <;>
        simp [State.setBinding, State.binding, List.getD_eq_getElem?_getD, hlen]
    | reverb =>
      by_cases hlen : c < s.binds.reverb.length <;>
        simp [State.setBinding, State.binding, List.getD_eq_getElem?_getD, hlen]
    | _ => exact .inl rfl
  · refine .inl ?_
    cases u <;> simp [State.setBinding, State.binding, List.getD_eq_getElem?_getD, List.getElem?_set_ne (Ne.symm hc)]

/-- A channel that is not valid bound to an arena that is aligned and does not pass 2^32. -/
theorem inv_setBinding (h : Inv s) {u : UnitId} {ch : Nat} {b : Binding} (hv : s.stValid u ch = false)
    (hl : lifeSrSet (s.regs.get u).life = true) (ha : aligned4 b.base = true)
    (hr : b.base.toNat + (s.memReq u).toNat ≤ 2 ^ 32) : Inv (s.setBinding u ch b) := by
  have hsame : ∀ w, SameArena s.coefs (s.setBinding u ch b).coefs w := .of_eq (by simp)
  have hstv : ∀ w c, (s.setBinding u ch b).stValid w c = s.stValid w c := stValid_congr (by simp)
  refine h.of_unit u (by simp) (by simp) (by simp) (channelCounts_setBinding h.counts u ch b) (fun _ _ => by simp)
    (fun w hw => .of_same (by simp) (by simp) (fun c => binding_setBinding_other s hw ch c b) (hsame w) (fun _ => by simp)
      fun _ => by simp)
    ⟨by simpa using (h.unit u).regs, fun _ => (hsame u).layout ((h.unit u).layout hl), fun c => ?_⟩
  obtain ⟨hvalid, hbound⟩ := (h.unit u).flags c
  unfold channelFlags
  rw [hstv, (hsame u).memReq, State.setBinding_regs]
  rcases binding_setBinding_cases s u ch c b with hb | ⟨rfl, hb⟩ <;> rw [hb]
  · refine ⟨fun hc => ?_, hbound⟩
    obtain ⟨hlife, hm⟩ := hvalid hc
    refine ⟨hlife, fun hmem => ?_⟩
    obtain ⟨hready, hbd, hcur⟩ := hm hmem
    exact ⟨hready, hbd, (hsame u).cursors (fun _ => by simp) (fun _ => by simp) hcur⟩
  · exact ⟨fun hc => absurd (hv.symm.trans hc) (by decide), fun _ => ⟨hl, ha, hr⟩⟩

theorem bindChannel_eq (s : State) (u : UnitId) (ch : Nat) :
    bindChannel u ch s = (s.setStValid u ch false).setBinding u ch { bound := true, base := s.win.arg0 } := by
  cases u <;> rfl

/-- MEM_SET (R151) of an aligned base whose arena does not pass 2^32. -/
theorem inv_bindChannel (h : Inv s) {u : UnitId} {ch : Nat} (hch : ch < s.hw.nCh)
    (hl : lifeSrSet (s.regs.get u).life = true) (ha : aligned4 s.win.arg0 = true)
    (hr : inRange s.win.arg0 (s.memReq u).toNat = true) : Inv (bindChannel u ch s) := by
  have hlen : ch < (s.valid.get u).length := (h.counts.1 u).symm ▸ hch
  have hsame : SameArena s.coefs (s.setStValid u ch false).coefs u := .refl _ u
  rw [bindChannel_eq]
  refine inv_setBinding (inv_setStValid h (by simp)) (State.stValid_setStValid_self s hlen false) hl ha ?_
  rw [hsame.memReq]
  exact (inRange_iff _ _).1 hr

/-! ### The arenas SET_SR lays out -/

/-- DELAY's line has at most 2^24 samples where R345's check passes. -/
theorem delayLayout_setSr {fs : F32} {c : DelayCoefs} (h : fLe (delaySpan fs c) delayMax = true) :
    delayLayout (delaySetSr fs c) := by
  have hmax : scaled delayMax = (16777215 : Nat) * 2 ^ 149 := by decide
  have hspan : scaled (delaySpan fs c) ≤ (16777215 : Nat) * 2 ^ 149 := by
    simp only [fLe, Bool.and_eq_true, decide_eq_true_eq] at h
    exact hmax ▸ h.2
  have hceil := realCeil_le hspan
  unfold delayLayout delaySetSr
  simp only [BitVec.toNat_ofNat]
  omega

/-- The most samples a reverb line can have: 2^19 reference samples at 26 times the reference rate, and the excursion. -/
def revCapMax : Nat := 2 ^ 19 * 26 + 209

/-- Every line of a legal REV_TABLE has from 1 to `revCapMax` samples at a rate R143 admits (45_reverb.md R375). -/
theorem revCap_bounds {rt : RevTable} (ht : ∀ j, rt.length.get j ≤ 2 ^ 19) {fs : F32} (hfs : reverbRateLegal fs)
    (j : RevLine) : 1 ≤ revCap rt fs (fDiv fs hz29761) (fMul f8 (fDiv fs hz29761)) j ∧
      revCap rt fs (fDiv fs hz29761) (fMul f8 (fDiv fs hz29761)) j ≤ revCapMax := by
  obtain ⟨hfin, hlo, hhi⟩ := hfs
  have hrate : AtMost fs 768000 := ⟨hfin, by rw [magnitude_eq_natAbs]; omega⟩
  have hratio : AtMost (fDiv fs hz29761) 26 :=
    atMost_fDiv (y := 29761) hrate (by decide) (by decide) (by decide) (by decide) (by decide) (by decide)
  have hexc : AtMost (fMul f8 (fDiv fs hz29761)) 208 :=
    atMost_fMul (x := 8) ⟨by decide, by decide⟩ hratio (by decide) (by decide)
  have hpd : AtMost (fMul f01 fs) 768000 :=
    atMost_fMul (x := 1) ⟨by decide, by decide⟩ hrate (by decide) (by decide)
  have hn : j ≠ .pd → 1 ≤ revN rt (fDiv fs hz29761) j ∧ revN rt (fDiv fs hz29761) j ≤ 2 ^ 19 * 26 := by
    intro hj
    have hlen := ht j
    have hprod : AtMost (fMul (toF32 (rt.length.get j)) (fDiv fs hz29761)) (2 ^ 19 * 26) :=
      atMost_fMul (atMost_toF32 (by omega)) hratio (by decide) (Nat.mul_le_mul_right _ hlen)
    have := realRound_toNat_le hprod
    rw [revN, if_neg hj, scaledLength]
    omega
  have hceil := realCeil_toNat_le hexc
  have hceil0 := realCeil_toNat_le hpd
  unfold revCap revCapMax
  by_cases hj : j = .pd
  · rw [if_pos hj]
    omega
  · rw [if_neg hj]
    have := hn hj
    split <;> omega

/-- Lines of bounded capacity, one after the other, keep to 32-bit offsets. -/
theorem capSum_le {cap : RevLine → Nat} (h : ∀ j, cap j ≤ revCapMax) {ls : List RevLine} (hl : ls.length ≤ 13) :
    4 * (ls.map cap).sum < 2 ^ 32 := by
  have hs : (ls.map cap).sum ≤ ls.length * revCapMax := by
    have := List.sum_le_card_nsmul (ls.map cap) revCapMax fun x hx => by
      obtain ⟨j, -, rfl⟩ := List.mem_map.1 hx
      exact h j
    simpa using this
  have : ls.length * revCapMax ≤ 13 * revCapMax := Nat.mul_le_mul_right _ hl
  unfold revCapMax at *
  omega

theorem length_linesBefore (j : RevLine) : (linesBefore j).length ≤ 13 := by cases j <;> decide

theorem revOff_eq (cap : RevLine → Nat) (j : RevLine) : revOff cap j = 4 * ((linesBefore j).map cap).sum :=
  List.sum_map_mul_left ..

theorem revMemReq_eq (cap : RevLine → Nat) : revMemReq cap = 4 * (revLines.map cap).sum := by
  have hlast : revLines = linesBefore .dlR2 ++ [.dlR2] := rfl
  rw [revMemReq, revOff_eq, hlast, List.map_append, List.sum_append, Nat.mul_add]
  rfl

/-- REVERB's arena is laid out without overflow at a rate R143 admits. -/
theorem reverbLayout_setSr {rt : RevTable} (ht : ∀ j, rt.length.get j ≤ 2 ^ 19) {fs : F32} (hfs : reverbRateLegal fs)
    (c : ReverbCoefs) : reverbLayout (reverbSetSr rt fs c) := by
  have hb := revCap_bounds ht hfs
  generalize hcap : revCap rt fs (fDiv fs hz29761) (fMul f8 (fDiv fs hz29761)) = cap at hb
  have hget : ∀ j, ((reverbSetSr rt fs c).cap.get j).toNat = cap j := by
    intro j
    have := hb j
    simp only [reverbSetSr, hcap, PerLine.get_of, BitVec.toNat_ofNat]
    unfold revCapMax at this
    omega
  have hsum : ∀ ls, capSum (reverbSetSr rt fs c) ls = (ls.map cap).sum := by
    intro ls
    simp only [capSum, hget]
  refine ⟨fun j => ?_, fun j => ?_, ?_⟩
  · rw [hget]
    exact (hb j).1
  · rw [hsum, ← revOff_eq]
    have := capSum_le (fun j => (hb j).2) (length_linesBefore j)
    simp only [reverbSetSr, hcap, PerLine.get_of, BitVec.toNat_ofNat]
    rw [revOff_eq, Nat.mod_eq_of_lt this]
  · rw [hsum, ← revMemReq_eq]
    have := capSum_le (fun j => (hb j).2) (ls := revLines) (by decide)
    simp only [reverbSetSr, hcap, BitVec.toNat_ofNat]
    rw [revMemReq_eq, Nat.mod_eq_of_lt this]

/-! ### Every command keeps the invariant -/

theorem keeps_of_inv {α : Type} {e : Engine α} (h : ∀ s, Inv s → match e s with
    | .ok _ t => Inv t
    | .error _ t => Inv t) : Engine.Keeps InvKept e := by
  intro s
  have hs := h s
  cases hr : e s with
  | ok a t =>
    rw [hr] at hs
    exact hs
  | error x t =>
    rw [hr] at hs
    exact hs

theorem invKept_cmdInit (u : UnitId) : Engine.Keeps InvKept (cmdInit u) := fun s => by
  rw [cmdInit_run]
  split_ifs
  · exact fun h => inv_initUnit h u
  · exact id

/-- The arena SET_SR lays out for a rate it accepts (44_delay.md R345, 45_reverb.md R375). -/
theorem unitLayout_setRate (h : Inv s) {u : UnitId} {fs : F32} (hfs : isFinite fs = true)
    (hok : okUnitRate u fs s.coefs = true) : unitLayout (setRate u fs s) u := by
  obtain ⟨⟨-, -, -, -, hlen, -⟩, -⟩ := h
  cases u with
  | delay => exact delayLayout_setSr hok
  | reverb => exact reverbLayout_setSr hlen ((okReverbRate_iff hfs s.coefs).1 hok) s.coefs.reverb
  | _ => trivial

theorem invKept_cmdSetSr (u : UnitId) : Engine.Keeps InvKept (cmdSetSr u) := fun s => by
  rw [cmdSetSr_run]
  split_ifs with hlife hrate hok
  · obtain ⟨hfs, hmin⟩ := Bool.and_eq_true_iff.1 hrate
    exact fun h => inv_setRate h hfs hmin (unitLayout_setRate h hfs hok)
  all_goals exact id

theorem invKept_cmdResetCoeffs (u : UnitId) : Engine.Keeps InvKept (cmdResetCoeffs u) := fun s => by
  rw [cmdResetCoeffs_run]
  split_ifs with hlife
  · exact fun h => inv_resetCoeffs h hlife
  · exact id

theorem invKept_cmdUpdateCtrl (u : UnitId) : Engine.Keeps InvKept (cmdUpdateCtrl u) := fun s => by
  rw [cmdUpdateCtrl_run]
  split_ifs
  · exact fun h => inv_updateCtrl h u
  · exact id

theorem invKept_cmdUpdateAudio (u : UnitId) : Engine.Keeps InvKept (cmdUpdateAudio u) := fun s => by
  rw [cmdUpdateAudio_run]
  split_ifs
  · exact fun h => inv_updateAudio h u
  · exact id

theorem invKept_cmdSetParam {u : UnitId} {ok : Word → Bool} {bits : Word} {write : Word → Coefs → Coefs}
    (hbits : bits &&& ~~~allDirty u = 0) (hw : WritesOnly u write) :
    Engine.Keeps InvKept (cmdSetParam u ok bits write) := fun s => by
  rw [cmdSetParam_run]
  split_ifs with hlife
  · exact fun h => inv_writeParam h ((lifeInited_eq _).1 hlife) hbits hw
  all_goals exact id

theorem invKept_cmdMemReq (u : UnitId) : Engine.Keeps InvKept (cmdMemReq u) := fun s => by
  rw [cmdMemReq_run]
  split_ifs
  · exact fun h => inv_setRes0 h _
  · exact id

theorem invKept_cmdMemSet (u : UnitId) (ch : BitVec 6) : Engine.Keeps InvKept (cmdMemSet u ch) := fun s => by
  rw [cmdMemSet_run]
  split_ifs with hch hlife ha hr
  · exact fun h => inv_bindChannel h hch hlife ha hr
  all_goals exact id

theorem invKept_cmdReadState (ch : BitVec 6) (reg : State → Nat → Word) : Engine.Keeps InvKept (cmdReadState ch reg) :=
  fun s => by
    rw [cmdReadState_run]
    split_ifs
    · exact fun h => inv_setRes0 h _
    · exact id

/-- RESET_STATE fails a check with nothing changed, or its channel passes them all. -/
theorem cmdResetState_cases (u : UnitId) (ch : BitVec 6) (s : State) :
    (∃ x, cmdResetState u ch s = .error x s) ∨
    (ch.toNat < s.hw.nCh ∧ (s.regs.get u).life = .ready ∧
      (hasMemory u = true → (s.binding u ch.toNat).bound = true) ∧ ∀ v ∈ sampleArgs u s.win, isFinite v = true) := by
  rw [cmdResetState, engine_check (requireChannel_run ch s)]
  by_cases hch : ch.toNat < s.hw.nCh
  · rw [if_pos hch, engine_check (requireLife_run u _ s)]
    by_cases hlife : lifeReady (s.regs.get u).life = true
    · rw [if_pos hlife, engine_check (requireBound_run u ch.toNat s)]
      by_cases hbound : hasMemory u = true → (s.binding u ch.toNat).bound = true
      · rw [if_pos hbound, engine_bind_get]
        rcases requireFinite_cases s (sampleArgs u s.win) with ⟨-, hfin⟩ | ⟨v, -, -, herr⟩
        · exact .inr ⟨hch, (lifeReady_eq _).1 hlife, hbound, hfin⟩
        · exact .inl ⟨_, engine_bind_error herr⟩
      · exact .inl ⟨_, if_neg hbound⟩
    · exact .inl ⟨_, if_neg hlife⟩
  · exact .inl ⟨_, if_neg hch⟩

/-- RESET_STATE (R145): the channel may be marked valid, because its hook has seeded every line. -/
theorem invKept_cmdResetState (u : UnitId) (ch : BitVec 6) : Engine.Keeps InvKept (cmdResetState u ch) :=
  keeps_of_inv fun s h => by
    rcases cmdResetState_cases u ch s with ⟨x, hx⟩ | ⟨hch, hlife, hbound, hfin⟩
    · rw [hx]
      exact h
    · have hstart : Inv (s.beforeSeed u ch.toNat) := inv_setStValid h fun hb => by
        obtain ⟨hv, hm⟩ := Bool.and_eq_true_iff.1 hb
        obtain ⟨hsr, -⟩ := ((h.unit u).flags ch.toNat).1 hv
        exact ⟨hsr, fun hmem => by simp [hmem] at hm⟩
      have hsr : lifeSrSet (s.regs.get u).life = true := (lifeSrSet_eq _).2 (.inr hlife)
      have hpos : ∀ l ∈ unitLines u ch.toNat, 0 < lineCap (s.beforeSeed u ch.toNat) l :=
        fun l hl => lineCap_pos ((hstart.unit u).layout hsr) hl
      have hseed := seeds_resetStateHook hpos (sampleArgs u s.win) _ ⟨.refl _, fun l hl => by cases hl⟩
      rw [cmdResetState_run u ch s hch hlife hbound hfin]
      cases hr : resetStateHook u ch.toNat (sampleArgs u s.win) (s.beforeSeed u ch.toNat) with
      | error x t =>
        rw [hr] at hseed
        exact hseed.inv hstart
      | ok ys t =>
        rw [hr] at hseed
        obtain ⟨hook, hin⟩ := hseed
        refine inv_setResults (inv_setStValid (hook.inv hstart) fun _ => ⟨?_, fun hm => ⟨?_, ?_, ?_⟩⟩) ys
        · rw [hook.regs]
          exact hsr
        · rw [hook.regs]
          exact hlife
        · rw [binding_congr hook.binds]
          exact hbound hm
        · exact (cursorsInside_iff t u ch.toNat).2 hin

theorem invKept_cmdProcess1 (u : UnitId) (ch : BitVec 6) : Engine.Keeps InvKept (cmdProcess1 u ch) :=
  keeps_bind .trans (keeps_admitChannel .refl u ch) fun _ => keeps_bind .trans (keeps_get .refl) fun _ =>
    keeps_bind .trans (keeps_requireFinite .refl _) fun _ =>
      keeps_bind .trans (keeps_process1Hook channelRel_invKept u ch.toNat _) fun ys =>
        keeps_modify fun _ h => inv_setResults h ys

theorem invKept_cmdDelayRead (ch : BitVec 6) : Engine.Keeps InvKept (cmdDelayRead ch) :=
  keeps_bind .trans (keeps_admitChannel .refl .delay ch) fun _ => keeps_bind .trans (keeps_get .refl) fun _ =>
    keeps_bind .trans (keeps_require .refl _ _ _) fun _ => keeps_bind .trans (keeps_require .refl _ _ _) fun _ =>
      keeps_bind .trans (keeps_dlRead .refl _ _ _) fun v => keeps_modify fun _ h => inv_setRes0 h v

theorem invKept_cmdDelayWrite (ch : BitVec 6) : Engine.Keeps InvKept (cmdDelayWrite ch) :=
  keeps_bind .trans (keeps_admitChannel .refl .delay ch) fun _ => keeps_bind .trans (keeps_get .refl) fun _ =>
    keeps_bind .trans (keeps_require .refl _ _ _) fun _ => keeps_dlWrite channelRel_invKept _ _

/-- PROCESS (R156): each sample's stores, audio-rate update and hook keep the invariant. -/
theorem invKept_cmdProcess (u : UnitId) (ch : BitVec 6) : Engine.Keeps InvKept (cmdProcess u ch) :=
  keeps_bind .trans (keeps_admitChannel .refl u ch) fun _ => keeps_bind .trans (keeps_get .refl) fun _ =>
    keeps_bind .trans (keeps_requireBuffers .refl _ _) fun _ =>
      keeps_bind .trans (keeps_modify fun _ h => inv_updateCtrl h u) fun _ =>
        keeps_forSamples .refl .trans fun _ _ _ =>
          keeps_processSample channelRel_invKept (fun _ h => inv_updateAudio h u) fun _ _ s y _ hr => invKept_store s y hr

theorem invKept_multiSample (u : UnitId) (m : Nat) (pin pout : List (List Word)) (i : Nat) :
    Engine.Keeps InvKept (multiSample u m pin pout i) :=
  keeps_bind .trans (keeps_of_same .refl (loadChannels_same _ _ _ _)) fun _ =>
    keeps_bind .trans (keeps_requireFinite .refl _) fun _ =>
      keeps_bind .trans (keeps_modify fun _ h => inv_updateAudio h u) fun _ =>
        keeps_processChannels channelRel_invKept fun _ _ _ _ _ s y _ hr => invKept_store s y hr

/-- PROCESS_MULTI (R157). -/
theorem invKept_cmdProcessMulti (u : UnitId) : Engine.Keeps InvKept (cmdProcessMulti u) :=
  keeps_bind .trans (keeps_requireLife .refl u _) fun _ => keeps_bind .trans (keeps_get .refl) fun _ =>
    keeps_bind .trans (keeps_require .refl _ _ _) fun _ =>
      keeps_bind .trans (keeps_of_same .refl (requireChannels_same _ _ _)) fun _ =>
        keeps_bind .trans (keeps_requireBuffers .refl _ _) fun _ =>
          keeps_bind .trans (keeps_of_same .refl (readTables_same _ _)) fun _ =>
            keeps_bind .trans (keeps_requireBuffers .refl _ _) fun _ =>
              keeps_bind .trans (keeps_modify fun _ h => inv_updateCtrl h u) fun _ =>
                keeps_forSamples .refl .trans fun i _ _ => invKept_multiSample u _ _ _ i

/-- Whatever a command's computation answers, it keeps the invariant. -/
theorem invKept_command {i : Instr} {e : Engine Unit} (h : CommandShape i e) : Engine.Keeps InvKept e := by
  cases h with
  | nop => exact keeps_pure .refl ()
  | init u => exact invKept_cmdInit u
  | setSr u => exact invKept_cmdSetSr u
  | resetCoeffs u => exact invKept_cmdResetCoeffs u
  | resetState u ch => exact invKept_cmdResetState u ch
  | updateCtrl u => exact invKept_cmdUpdateCtrl u
  | updateAudio u => exact invKept_cmdUpdateAudio u
  | process1 u ch => exact invKept_cmdProcess1 u ch
  | process u ch => exact invKept_cmdProcess u ch
  | processMulti u => exact invKept_cmdProcessMulti u
  | setParam _ u ok bits write opc unit mask only => exact invKept_cmdSetParam mask only
  | memReqDelay => exact invKept_cmdMemReq .delay
  | memReqReverb => exact invKept_cmdMemReq .reverb
  | memSetDelay ch => exact invKept_cmdMemSet .delay ch
  | memSetReverb ch => exact invKept_cmdMemSet .reverb ch
  | delayRead ch => exact invKept_cmdDelayRead ch
  | delayWrite ch => exact invKept_cmdDelayWrite ch
  | readCoef _ u reg opc unit reads => exact keeps_modify fun _ h => inv_setRes0 h _
  | readState _ u ch reg opc unit channel reads => exact invKept_cmdReadState ch reg

theorem inv_exec {i : Instr} (h : Inv s) (hx : exec i s = .next t) : Inv t := by
  obtain ⟨e, hshape, hexec⟩ := exec_shape i
  have hkeeps := invKept_command hshape
  rw [hexec] at hx
  rcases runCommand_next hx with hok | ⟨c, a, b, r, herr, rfl⟩
  · exact keeps_ok hkeeps hok h
  · exact inv_enterFault (keeps_error hkeeps herr h) _ c a b

/-! ### Every host access keeps the invariant -/

/-- Where a host access leads, the invariant holds: in the next state, or in the one its command runs from. -/
def Fetched.HasInv : Fetched → Prop
  | .done (.next t) => Inv t
  | .done _ => True
  | .run _ t => Inv t

/-- A write to CMD (10_state.md R29). -/
theorem hasInv_writeCmd (h : Inv s) (x : Word) : (writeCmd x s).HasInv := by
  unfold writeCmd
  split
  · exact h
  · split
    · exact inv_enterFault h x .illegal 0 0
    · exact h

theorem hasInv_writeWindow (h : Inv s) (r : WindowReg) (x : Word) : (writeWindow r x s).HasInv := by
  have arg : ∀ w : Window, w.status = s.win.status → w.faultCmd = s.win.faultCmd → w.faultInfo0 = s.win.faultInfo0 →
      w.faultInfo1 = s.win.faultInfo1 → Inv { s with win := w } := fun w hs hc h0 h1 =>
    inv_withWindow h (legalWindow_congr h.window hs hc h0 h1)
  cases r with
  | cmd => exact hasInv_writeCmd h x
  | ctrl =>
    show Inv (if x.getLsbD 0 then blockReset s else s)
    split
    · exact inv_blockReset h
    · exact h
  | arg0 | arg1 | arg2 | arg3 | arg4 | arg5 => exact arg _ rfl rfl rfl rfl
  | _ => exact h

/-- A host access to data memory answers the state the access makes, or an error (20_memory.md R81). -/
theorem hasInv_hostAccess (h : Inv s) {a : Word} {n : Nat} {k : State} (hk : a.toNat + n ≤ 2 ^ 32 → Inv k) :
    (Fetched.done (hostAccess a n s k)).HasInv := by
  unfold hostAccess
  split
  · trivial
  · split
    · exact inv_answer h _
    · trivial
    · exact hk (by omega)

theorem hasInv_hostStep (h : Inv s) (e : HostEvent) : (hostStep e s).HasInv := by
  cases e with
  | store a size x =>
    unfold hostStep
    dsimp only
    split
    · exact hasInv_writeWindow (inv_answer h _) _ x
    · exact inv_answer h _
  | load a size =>
    unfold hostStep
    dsimp only
    split <;> exact inv_answer h _
  | memStore a x =>
    exact hasInv_hostAccess h fun hr => inv_answer (inv_withMem h (wf_writeWord _ _ x hr h.mem_wf)) _
  | memLoad a => exact hasInv_hostAccess h fun _ => inv_answer h _
  | memStoreByte a b =>
    exact hasInv_hostAccess h fun hr => inv_answer (inv_withMem h (wf_writeByte _ _ b (by omega) h.mem_wf)) _
  | memLoadByte a => exact hasInv_hostAccess h fun _ => inv_answer h _
  | resetInput => exact inv_blockReset h

theorem hasInv_fetch (h : Inv s) : (fetch s).HasInv := by
  unfold fetch
  split
  · exact h
  · exact hasInv_hostStep (inv_withInbox h _) _

/-- Settles O58: the invariant is kept by the host access of the step, and by the command it starts. -/
theorem everyStepKeepsInv : Obligations.EveryStepKeepsInv := by
  intro s t h hstep
  have hf := hasInv_fetch h
  unfold step at hstep
  cases hr : fetch s with
  | done o =>
    rw [hr] at hf hstep
    subst hstep
    exact hf
  | run i r =>
    rw [hr] at hf hstep
    exact inv_exec hf hstep

end Sys2Proof.Machine
end

-- ==== Proofs: the arithmetic ====
section
/-! PROOFS. The statements of the arithmetic: the numeric services have the properties the model imposes on them
(00_scope.md R10), and a sum or a product is rounded to a nearest value, the even one of two (R8). -/

namespace Sys2Proof.Machine
open Sys2Proof.Config

/-! ### The numeric services (00_scope.md R10) -/

/-- A free value with a property imposed on it where a condition holds: `d`, which has the property, stands in for a value
that has not. -/
theorem imposed {c : Bool} {p : F32 → Bool} {d x : F32} (hc : c = true) (hd : p d = true) :
    p (if c && !p x then d else x) = true := by
  cases hx : p x <;> simp [hc, hd, hx]

/-- P-EXP1 as the model checks it. -/
def expValue (x : F32) : Bool := isFinite x && fLe f0 x && fLe x f1

/-- P-TAN1 as the model checks it. -/
def tanValue (x : F32) : Bool := isFinite x && fLe f0 x

/-- P-POW2 as the model checks it. -/
def pow2Value (x : F32) : Bool := isFinite x && fLt f0 x

/-- P-SIN as the model checks it. -/
def sinValue (x : F32) : Bool := isFinite x && fLe fm1 x && fLe x f1

theorem scaled_fm1 : scaled fm1 = -(2 ^ 149) := by decide

theorem fLe_f1_iff {x : F32} (hx : isNaN x = false) : fLe x f1 = true ↔ scaled x ≤ 2 ^ 149 := by
  rw [fLe_iff hx, scaled_f1]
  simp

theorem fm1_fLe_iff {x : F32} (hx : isNaN x = false) : fLe fm1 x = true ↔ -(2 ^ 149) ≤ scaled x := by
  rw [fLe_iff (by decide), scaled_fm1]
  simp [hx]

theorem expValue_iff (x : F32) : expValue x = true ↔ isFinite x = true ∧ 0 ≤ scaled x ∧ scaled x ≤ 2 ^ 149 := by
  rw [expValue, Bool.and_eq_true, Bool.and_eq_true, f0_fLe_iff]
  constructor
  · rintro ⟨⟨hfin, hnan, h0⟩, h1⟩
    exact ⟨hfin, h0, (fLe_f1_iff hnan).1 h1⟩
  · rintro ⟨hfin, h0, h1⟩
    have hnan := isNaN_of_isFinite hfin
    exact ⟨⟨hfin, hnan, h0⟩, (fLe_f1_iff hnan).2 h1⟩

theorem sinValue_iff (x : F32) :
    sinValue x = true ↔ isFinite x = true ∧ -(2 ^ 149) ≤ scaled x ∧ scaled x ≤ 2 ^ 149 := by
  rw [sinValue, Bool.and_eq_true, Bool.and_eq_true]
  constructor
  · rintro ⟨⟨hfin, h0⟩, h1⟩
    have hnan := isNaN_of_isFinite hfin
    exact ⟨hfin, (fm1_fLe_iff hnan).1 h0, (fLe_f1_iff hnan).1 h1⟩
  · rintro ⟨hfin, h0, h1⟩
    have hnan := isNaN_of_isFinite hfin
    exact ⟨⟨hfin, (fm1_fLe_iff hnan).2 h0⟩, (fLe_f1_iff hnan).2 h1⟩

/-- P-EXP1: on the negative half line the exponential is in [0, 1]. -/
theorem expValue_numExp {v : F32} (hv : isFinite v = true) (h : scaled v ≤ 0) : expValue (numExp v) = true := by
  unfold numExp
  split
  · decide
  · have hle : fLe v f0 = true := (fLe_iff (isNaN_of_isFinite hv)).2 ⟨isNaN_f0, by rwa [scaled_f0]⟩
    exact imposed (p := expValue) (by rw [hv, hle]; rfl) (by decide)

/-- P-TAN1: on [0, THETA_MAX] the tangent is finite and not negative. -/
theorem tanValue_numTan {v : F32} (hv : isNaN v = false) (h0 : 0 ≤ scaled v) (h : scaled v ≤ scaled thetaMax) :
    tanValue (numTan v) = true := by
  unfold numTan
  split
  · decide
  · have hlo : fLe f0 v = true := (f0_fLe_iff v).2 ⟨hv, h0⟩
    have hhi : fLe v thetaMax = true := (fLe_iff hv).2 ⟨by decide, h⟩
    exact imposed (p := tanValue) (by rw [hlo, hhi]; rfl) (by decide)

/-- P-POW2: on [-100, 100] the power of two is finite and positive. -/
theorem pow2Value_numPow2 {v : F32} (hv : isFinite v = true) (hlo : -(100 * 2 ^ 149) ≤ scaled v)
    (hhi : scaled v ≤ 100 * 2 ^ 149) : pow2Value (numPow2 v) = true := by
  have hmin : scaled (fNeg f100) = -(100 * 2 ^ 149) := by decide
  have hmax : scaled f100 = 100 * 2 ^ 149 := by decide
  have hnan := isNaN_of_isFinite hv
  have h1 : fLe (fNeg f100) v = true := (fLe_iff (by decide)).2 ⟨hnan, by rwa [hmin]⟩
  have h2 : fLe v f100 = true := (fLe_iff hnan).2 ⟨by decide, by rwa [hmax]⟩
  exact imposed (p := pow2Value) (by rw [hv, h1, h2]; rfl) (by decide)

/-- P-SIN: on [0, 1) the sine is in [-1, 1]. -/
theorem sinValue_numSin2pi {v : F32} (hv : isNaN v = false) (h0 : 0 ≤ scaled v) (h : scaled v < 2 ^ 149) :
    sinValue (numSin2pi v) = true := by
  have h1 : fLe f0 v = true := (f0_fLe_iff v).2 ⟨hv, h0⟩
  have h2 : fLt v f1 = true := (fLt_iff hv).2 ⟨isNaN_f1, by rwa [scaled_f1]⟩
  exact imposed (p := sinValue) (by rw [h1, h2]; rfl) (by decide)

/-- Settles O29: each service has its properties because the model imposes them on its free value. -/
theorem numericServices : Obligations.NumericServices := by
  refine ⟨if_pos (by decide), if_pos (by decide), fun v hv h => ?_, if_pos rfl, fun v hv h0 h => ?_,
    fun v hv hlo hhi => ?_, fun v hv h0 h => ?_⟩
  · exact (expValue_iff _).1 (expValue_numExp hv h)
  · exact (okNonneg_iff _).1 (tanValue_numTan hv h0 h)
  · exact (okPositive_iff _).1 (pow2Value_numPow2 hv hlo hhi)
  · exact (sinValue_iff _).1 (sinValue_numSin2pi hv h0 h)

/-! ### Sums and products (R8) -/

/-- Settles O30: both operations round their exact result once. -/
theorem sumAndProductAreNearest : Obligations.SumAndProductAreNearest := fun _ _ v ha hb _ =>
  ⟨fun hfin => fAdd_nearest ha hb hfin v, fun hfin => fMul_nearest ha hb hfin v⟩

end Sys2Proof.Machine
end

-- ==== Proofs: the window and the step ====
section
/-! PROOFS. The register window and the host's accesses (10_state.md R22 to R29, 20_memory.md R88 to R90): what a step
comes to is said once for an access that reaches a register and once for one that reaches none. -/

namespace Sys2Proof.Machine
open Sys2Proof.Config

/-! ### A step, by the access it performs -/

/-- What a step answers once its host access is made. -/
def Fetched.outcome : Fetched → Host.Outcome State Fault Refusal
  | .done o => o
  | .run i s => exec i s

theorem step_eq_outcome (s : State) : step s = (fetch s).outcome := by
  unfold step
  cases fetch s <;> rfl

/-- A word at a 4-aligned offset from BASE reaches the register of that offset (R23, R89). -/
theorem accessedReg_offset (b off : Nat) (hoff : off % 4 = 0) :
    accessedReg b (b + off) .word = windowRegs[off / 4]? := by
  rw [← accessedReg_at b (off / 4), Nat.mul_div_cancel' (Nat.dvd_of_mod_eq_zero hoff)]

section
variable (s : State) (rest : List HostEvent)

/-- A store of a word at a register's offset writes that register. -/
theorem step_store_reg {off : Nat} {r : WindowReg} (hoff : off % 4 = 0) (hr : windowRegs[off / 4]? = some r)
    (w : Word) : step { s with inbox := .store (s.hw.base + off) .word w :: rest } =
      (writeWindow r w { s with inbox := rest, reply := .stored }).outcome := by
  have hreg := (accessedReg_offset s.hw.base off hoff).trans hr
  simp only [step_eq_outcome, fetch, hostStep, hreg]
  rfl

/-- A load of a word at a register's offset answers the register, with no other effect. -/
theorem step_load_reg {off : Nat} {r : WindowReg} (hoff : off % 4 = 0) (hr : windowRegs[off / 4]? = some r) :
    step { s with inbox := .load (s.hw.base + off) .word :: rest } =
      .next { s with inbox := rest, reply := .data (readWindow s r) } := by
  have hreg := (accessedReg_offset s.hw.base off hoff).trans hr
  simp only [step_eq_outcome, fetch, hostStep, hreg]
  cases r <;> rfl

/-- An access that reaches no register changes none, and is answered so. -/
theorem step_missed {a : Nat} {size : AccessSize} {r : Reply}
    (h : accessedReg s.hw.base a size = none ∧ missedReply s.hw.base a size = r) (w : Word) :
    step { s with inbox := .store a size w :: rest } = .next { s with inbox := rest, reply := r } ∧
      step { s with inbox := .load a size :: rest } = .next { s with inbox := rest, reply := r } := by
  obtain ⟨hreg, rfl⟩ := h
  constructor <;> simp only [step_eq_outcome, fetch, hostStep, hreg] <;> rfl

/-! ### The write to CMD (R29) -/

theorem outcome_writeCmd {s : State} {w : Word} {i : Instr} (hd : decode w = .ok i)
    (hf : statusFault s.win.status = false) : (writeCmd w s).outcome = exec i s := by
  simp [writeCmd, hf, hd, Fetched.outcome]

theorem outcome_writeCmd_faulted {s : State} {w : Word} (hf : statusFault s.win.status = true) :
    (writeCmd w s).outcome = .next s := by
  simp [writeCmd, hf, Fetched.outcome]

theorem step_store_cmd (w : Word) : step { s with inbox := .store s.hw.base .word w :: rest } =
    (writeCmd w { s with inbox := rest, reply := .stored }).outcome :=
  step_store_reg s rest (off := 0) (r := .cmd) rfl rfl w

/-- A write to CMD runs the command it names. -/
theorem step_store_cmd_run {w : Word} {i : Instr} (hd : decode w = .ok i) (hf : statusFault s.win.status = false) :
    step { s with inbox := .store s.hw.base .word w :: rest } = exec i { s with inbox := rest, reply := .stored } :=
  (step_store_cmd s rest w).trans (outcome_writeCmd hd hf)

theorem withFetchWord_eq (w : Word) :
    s.withFetchWord 32 w.toNat = { s with inbox := .store s.hw.base .word w :: s.inbox } := by
  simp [State.withFetchWord, queueCommand, Nat.mod_eq_of_lt w.isLt]

end

/-- Settles O5: a write to CMD is a store to the register at offset 0. -/
theorem cmdWriteRunsCommand : Obligations.CmdWriteRunsCommand := by
  refine ⟨fun s w rest i hd hf => step_store_cmd_run s rest hd hf, fun s w rest hf => ?_, fun s rest => ?_,
    fun s w i hd hf => ?_⟩
  · exact (step_store_cmd s rest w).trans (outcome_writeCmd_faulted hf)
  · exact step_load_reg s rest (off := 0) (r := .cmd) rfl rfl
  · rw [withFetchWord_eq]
    exact step_store_cmd_run s s.inbox hd hf

/-- Settles O7: an access of the window by the register it reaches, any other by where it misses. -/
theorem windowAccess : Obligations.WindowAccess := by
  intro s rest
  have load {off : Nat} {r : WindowReg} := step_load_reg s rest (off := off) (r := r)
  have store {off : Nat} {r : WindowReg} := step_store_reg s rest (off := off) (r := r)
  refine ⟨fun a size w hb hlt hgt h => ?_, ?_, ?_, fun w => ?_, fun w hw => ?_, fun a size w h => ?_⟩
  · exact step_missed s rest (missed_touching _ a size hb hlt hgt h) w
  · simp only [List.forall_mem_cons]
    exact ⟨load (r := .cmd) rfl rfl, load (r := .status) rfl rfl, load (r := .faultCmd) rfl rfl,
      load (r := .faultInfo0) rfl rfl, load (r := .faultInfo1) rfl rfl, load (r := .ctrl) rfl rfl,
      load (r := .id) rfl rfl, load (r := .nch) rfl rfl, load (r := .arg0) rfl rfl, load (r := .arg1) rfl rfl,
      load (r := .arg2) rfl rfl, load (r := .arg3) rfl rfl, load (r := .arg4) rfl rfl, load (r := .arg5) rfl rfl,
      load (r := .res0) rfl rfl, load (r := .res1) rfl rfl, List.forall_mem_nil _⟩
  · simp only [List.forall_mem_cons]
    exact ⟨store (r := .status) rfl rfl, store (r := .faultCmd) rfl rfl, store (r := .faultInfo0) rfl rfl,
      store (r := .faultInfo1) rfl rfl, store (r := .id) rfl rfl, store (r := .nch) rfl rfl,
      store (r := .res0) rfl rfl, store (r := .res1) rfl rfl, List.forall_mem_nil _⟩
  · simp only [List.forall_mem_cons]
    exact ⟨store (r := .arg0) rfl rfl w, store (r := .arg1) rfl rfl w, store (r := .arg2) rfl rfl w,
      store (r := .arg3) rfl rfl w, store (r := .arg4) rfl rfl w, store (r := .arg5) rfl rfl w, List.forall_mem_nil _⟩
  · rw [store (off := 0x14) (r := .ctrl) rfl rfl w, writeWindow, hw]
    rfl
  · exact step_missed s rest (missed_elsewhere _ a size h) w

end Sys2Proof.Machine
end

-- ==== Proofs: what a command leaves ====
section
/-! PROOFS. What a command leaves as it was (10_state.md R22, R30, R37 to R44, 20_memory.md R80, 40_protocol.md R149).
Each unit's hooks keep to its own channels (`HookFrame`), and each command to its own unit, to no operand, and to the
parameter registers, the lifecycle and the memory it may write (`CommandFrame`). LIFE is then followed through the three
commands that write it. -/

namespace Sys2Proof.Machine
open Sys2Proof.Config

variable {s t r : State} {u w : UnitId} {i : Instr}

/-! ### What a register read depends on -/

/-- A unit's coefficient registers are read from its common registers and the coefficient banks alone. -/
theorem coefReg_congr (hregs : t.regs.get w = s.regs.get w)
    (hcoefs : coefReg { s with coefs := t.coefs } w = coefReg s w) : coefReg t w = coefReg s w := by
  rw [← hcoefs]
  funext sel
  simp only [coefReg, commonReg, hregs]
  rfl

/-- A unit's channel registers are read from its flags, its bindings and the channel banks alone. -/
theorem stateReg_congr (hvalid : t.valid.get w = s.valid.get w) (hbind : ∀ ch, t.binding w ch = s.binding w ch)
    (hchans : stateReg { s with chans := t.chans } w = stateReg s w) : stateReg t w = stateReg s w := by
  rw [← hchans]
  funext ch sel
  simp only [stateReg, flagReg, State.stValid, hvalid, hbind]
  rfl

/-- The parameter registers of the ten units (10_state.md R37 to R43), every other coefficient register 0. The inner
banks are UPDATE_CTRL's. -/
def Coefs.params (c : Coefs) : Coefs where
  onepole := { c.onepole with kExp := 0, aUp := 0, aDown := 0, st2 := 0, modeAct := 0 }
  mm1 := { c.mm1 with kPi := 0, g := 0, g1 := 0, cxAct := 0, clpAct := 0 }
  mm2 := { c.mm2 with kPi := 0, g := 0, k := 0, gk := 0, hpD := 0, cxAct := 0, clpAct := 0, cbpAct := 0, chpAct := 0 }
  hp1 := { c.hp1 with inner := {}, innerDirty := 0 }
  ls1 := { c.ls1 with g := 0, inner := {}, innerDirty := 0 }
  ls2 := { c.ls2 with g := 0, ki := 0, inner := {}, innerDirty := 0 }
  ap2 := { c.ap2 with ki := 0, inner := {}, innerDirty := 0 }
  peak := { c.peak with g := 0, qu := 0, qi := 0, ki := 0, inner := {}, innerDirty := 0 }
  delay := { delay := c.delay.delay, maxDelay := c.delay.maxDelay }
  reverb := { predelay := c.reverb.predelay, bandwidth := c.reverb.bandwidth, damping := c.reverb.damping
              decay := c.reverb.decay }

theorem commonReg_of_lt (s : State) (u : UnitId) {sel : BitVec 8} (h : sel.toNat < 0x40) :
    commonReg s u sel = none := by
  unfold commonReg
  split <;> first | rfl | exact absurd h (by decide)

theorem innerReg_of_lt (bank : BitVec 8 → Option Word) (d : Word) {sel : BitVec 8} (h : sel.toNat < 0x40) :
    innerReg bank d sel = none := by
  unfold innerReg
  rw [if_neg (by rintro rfl; exact absurd h (by decide)), if_neg (by omega)]

/-- Below 0x40, where the selects of parameters stand (R37 to R43), a read sees the parameters alone: there every named
select is a parameter's, and REVERB's tables (`reverbReg`'s last branch) start at 0x60. -/
theorem coefReg_params (s : State) (u : UnitId) {sel : BitVec 8} (h : sel.toNat < 0x40) :
    coefReg s u sel = coefReg { State.reset with coefs := s.coefs.params } u sel := by
  cases u <;> simp only [coefReg, commonReg_of_lt _ _ h, innerReg_of_lt _ _ h, onePoleReg.eq_def, mm1Reg.eq_def,
    mm2Reg.eq_def, hp1Reg.eq_def, ls1Reg.eq_def, ls2Reg.eq_def, ap2Reg.eq_def, peakReg.eq_def, delayReg.eq_def,
    reverbReg.eq_def]
  case reverb =>
    split
    case h_24 => split_ifs <;> first | omega | rfl
    all_goals first | rfl | exact absurd h (by decide)
  all_goals split <;> first | rfl | exact absurd h (by decide)

theorem coefReg_of_params (h : t.coefs.params = s.coefs.params) (u : UnitId) {sel : BitVec 8}
    (hsel : sel.toNat < 0x40) : coefReg t u sel = coefReg s u sel := by
  rw [coefReg_params t u hsel, coefReg_params s u hsel, h]

/-! ### The coefficient hooks keep to their unit, and to derived registers -/

theorem coefReg_initHook (s : State) (h : w ≠ u) (x : F32) :
    coefReg { s with coefs := initHook u x s.coefs } w = coefReg s w := by
  cases u <;> cases w <;> first | rfl | exact absurd rfl h

theorem coefReg_setSrHook (s : State) (h : w ≠ u) (rt : RevTable) (fs : F32) :
    coefReg { s with coefs := setSrHook rt u fs s.coefs } w = coefReg s w := by
  cases u <;> cases w <;> first | rfl | exact absurd rfl h

theorem coefReg_updateCtrlHook (s : State) (h : w ≠ u) (fs : F32) (m : Word) :
    coefReg { s with coefs := updateCtrlHook u fs m s.coefs } w = coefReg s w := by
  cases u <;> cases w <;> first | rfl | exact absurd rfl h

theorem coefReg_resetCoeffsHook (s : State) (h : w ≠ u) (fs : F32) :
    coefReg { s with coefs := resetCoeffsHook u fs s.coefs } w = coefReg s w := by
  cases u <;> cases w <;> first | rfl | exact absurd rfl h

theorem coefReg_updateAudioHook (s : State) (h : w ≠ u) (fs : F32) :
    coefReg { s with coefs := updateAudioHook u fs s.coefs } w = coefReg s w := by
  cases u <;> cases w <;> first | rfl | exact absurd rfl h

theorem params_setSrHook (rt : RevTable) (u : UnitId) (fs : F32) (c : Coefs) :
    (setSrHook rt u fs c).params = c.params := by cases u <;> rfl

theorem params_updateCtrlHook (u : UnitId) (fs : F32) (m : Word) (c : Coefs) :
    (updateCtrlHook u fs m c).params = c.params := by
  cases u with
  | delay => by_cases h : dirtyBit m 0 = true <;> simp [Coefs.params, updateCtrlHook, delayUpdate, h]
  | _ => rfl

theorem params_resetCoeffsHook (u : UnitId) (fs : F32) (c : Coefs) : (resetCoeffsHook u fs c).params = c.params := by
  cases u with
  | reverb => rfl
  | _ => exact params_updateCtrlHook _ fs _ c

theorem params_updateAudioHook (u : UnitId) (fs : F32) (c : Coefs) : (updateAudioHook u fs c).params = c.params := by
  cases u <;> rfl

/-! ### What a unit's hooks leave -/

/-- The unit whose line it is. -/
def LineRef.unit : LineRef → UnitId
  | .delay _ => .delay
  | .reverb _ _ => .reverb

theorem hasMemory_unit (l : LineRef) : hasMemory l.unit = true := by cases l <;> rfl

/-- Whatever a unit's hooks do, only channel registers of the unit change, and data memory where the unit has arenas. -/
structure HookFrame (u : UnitId) (s t : State) : Prop where
  hw : t.hw = s.hw
  win : t.win = s.win
  regs : t.regs = s.regs
  valid : t.valid = s.valid
  binds : t.binds = s.binds
  coefs : t.coefs = s.coefs
  inbox : t.inbox = s.inbox
  reply : t.reply = s.reply
  others : ∀ w, w ≠ u → stateReg t w = stateReg s w
  mem : hasMemory u = false → t.mem = s.mem

theorem HookFrame.refl (s : State) : HookFrame u s s :=
  ⟨rfl, rfl, rfl, rfl, rfl, rfl, rfl, rfl, fun _ _ => rfl, fun _ => rfl⟩

theorem HookFrame.trans (s t r : State) (h : HookFrame u s t) (h' : HookFrame u t r) : HookFrame u s r where
  hw := h'.hw.trans h.hw
  win := h'.win.trans h.win
  regs := h'.regs.trans h.regs
  valid := h'.valid.trans h.valid
  binds := h'.binds.trans h.binds
  coefs := h'.coefs.trans h.coefs
  inbox := h'.inbox.trans h.inbox
  reply := h'.reply.trans h.reply
  others w hw := (h'.others w hw).trans (h.others w hw)
  mem hm := (h'.mem hm).trans (h.mem hm)

/-- A change of channel registers that no other unit reads. -/
theorem HookFrame.of_chans (h : t = { s with chans := t.chans })
    (others : ∀ w, w ≠ u → stateReg t w = stateReg s w) : HookFrame u s t where
  hw := by rw [h]
  win := by rw [h]
  regs := by rw [h]
  valid := by rw [h]
  binds := by rw [h]
  coefs := by rw [h]
  inbox := by rw [h]
  reply := by rw [h]
  others := others
  mem _ := by rw [h]

theorem hookFrame_setOnePoleChan (s : State) (ch : Nat) (st : OnePoleState) :
    HookFrame .onepole s (s.setOnePoleChan ch st) :=
  .of_chans rfl fun w h => by cases w <;> first | rfl | exact absurd rfl h

theorem hookFrame_setMm1Chan (s : State) (u : UnitId) (ch : Nat) (st : Mm1State) :
    HookFrame u s (s.setMm1Chan u ch st) :=
  .of_chans (by cases u <;> rfl) fun w h => by cases u <;> cases w <;> first | rfl | exact absurd rfl h

theorem hookFrame_setMm2Chan (s : State) (u : UnitId) (ch : Nat) (st : Mm2State) :
    HookFrame u s (s.setMm2Chan u ch st) :=
  .of_chans (by cases u <;> rfl) fun w h => by cases u <;> cases w <;> first | rfl | exact absurd rfl h

theorem hookFrame_setReverbChan (s : State) (ch : Nat) (st : ReverbState) :
    HookFrame .reverb s (s.setReverbChan ch st) :=
  .of_chans rfl fun w h => by cases w <;> first | rfl | exact absurd rfl h

theorem hookFrame_setCursor (s : State) (l : LineRef) (k : Nat) : HookFrame l.unit s (setCursor s l k) :=
  .of_chans (by cases l <;> rfl) fun w h => by cases l <;> cases w <;> first | rfl | exact absurd rfl h

theorem hookFrame_memWrite (hm : hasMemory u = true) (a : Nat) (x : Word) :
    Engine.Keeps (HookFrame u) (memWrite a x) :=
  keeps_memWrite .refl fun s _ _ _ =>
    ⟨rfl, rfl, rfl, rfl, rfl, rfl, rfl, rfl, fun _ _ => rfl, fun h => absurd (hm.symm.trans h) (by decide)⟩

/-! #### Lines -/

theorem hookFrame_dlWrite (l : LineRef) (x : F32) : Engine.Keeps (HookFrame l.unit) (dlWrite l x) :=
  keeps_bind .trans (keeps_get .refl) fun _ =>
    keeps_bind .trans (hookFrame_memWrite (hasMemory_unit l) _ x) fun _ =>
      keeps_modify fun s => hookFrame_setCursor s l _

theorem hookFrame_fillWords (hm : hasMemory u = true) (a : Nat) (v : F32) (n : Nat) :
    Engine.Keeps (HookFrame u) (fillWords a v n) := by
  induction n generalizing a with
  | zero => exact keeps_pure .refl ()
  | succ n ih => exact keeps_bind .trans (hookFrame_memWrite hm a v) fun _ => ih (a + 4)

theorem hookFrame_dlFill (l : LineRef) (v : F32) : Engine.Keeps (HookFrame l.unit) (dlFill l v) :=
  keeps_bind .trans (keeps_get .refl) fun _ =>
    keeps_bind .trans (hookFrame_fillWords (hasMemory_unit l) _ v _) fun _ =>
      keeps_modify fun s => hookFrame_setCursor s l 0

/-! #### REVERB's hooks -/

theorem hookFrame_modifyReverbChan (ch : Nat) (f : ReverbState → ReverbState) :
    Engine.Keeps (HookFrame .reverb) (modifyReverbChan ch f) :=
  keeps_modify fun s => hookFrame_setReverbChan s ch _

theorem hookFrame_allpassAt (l : LineRef) (d : Nat) (f x g : F32) :
    Engine.Keeps (HookFrame l.unit) (allpassAt l d f x g) :=
  keeps_bind .trans (keeps_dlRead .refl l d f) fun _ =>
    keeps_bind .trans (hookFrame_dlWrite l _) fun _ => keeps_pure .refl _

theorem hookFrame_ap (ch : Nat) (j : RevLine) (x g : F32) : Engine.Keeps (HookFrame .reverb) (ap ch j x g) :=
  keeps_bind .trans (keeps_get .refl) fun _ => hookFrame_allpassAt (.reverb ch j) _ _ x g

theorem hookFrame_dly (ch : Nat) (j : RevLine) (x : F32) : Engine.Keeps (HookFrame .reverb) (dly ch j x) :=
  keeps_bind .trans (keeps_get .refl) fun _ => keeps_bind .trans (keeps_dlRead .refl _ _ _) fun z =>
    keeps_bind .trans (hookFrame_dlWrite (.reverb ch j) x) fun _ => keeps_pure .refl z

theorem hookFrame_tankHalf (ch : Nat) (j1 j2 j3 j4 : RevLine) (x : F32) (di : Word) (df : F32)
    (yp : ReverbState → F32) (put : F32 → ReverbState → ReverbState) :
    Engine.Keeps (HookFrame .reverb) (tankHalf ch j1 j2 j3 j4 x di df yp put) :=
  keeps_bind .trans (keeps_get .refl) fun _ =>
    keeps_bind .trans (hookFrame_allpassAt (.reverb ch j1) _ df x _) fun _ =>
      keeps_bind .trans (hookFrame_dly ch j2 _) fun _ => keeps_bind .trans (keeps_get .refl) fun _ =>
        keeps_bind .trans (hookFrame_modifyReverbChan ch _) fun _ =>
          keeps_bind .trans (hookFrame_ap ch j3 _ _) fun _ => hookFrame_dlWrite (.reverb ch j4) _

theorem hookFrame_reverbStep (ch : Nat) (xl xr : F32) : Engine.Keeps (HookFrame .reverb) (reverbStep ch xl xr) :=
  keeps_bind .trans (keeps_of_same .refl (taps_same ch)) fun y =>
    keeps_bind .trans (keeps_get .refl) fun _ => keeps_bind .trans (keeps_dlRead .refl _ _ _) fun _ =>
      keeps_bind .trans (keeps_dlRead .refl _ _ _) fun _ =>
        keeps_bind .trans (hookFrame_dlWrite (.reverb ch .pd) _) fun _ =>
          keeps_bind .trans (keeps_dlRead .refl _ _ _) fun _ => keeps_bind .trans (keeps_get .refl) fun _ =>
            keeps_bind .trans (hookFrame_modifyReverbChan ch _) fun _ =>
              keeps_bind .trans (hookFrame_ap ch .id1 _ _) fun _ =>
                keeps_bind .trans (hookFrame_ap ch .id2 _ _) fun _ =>
                  keeps_bind .trans (hookFrame_ap ch .id3 _ _) fun _ =>
                    keeps_bind .trans (hookFrame_ap ch .id4 _ _) fun _ =>
                      keeps_bind .trans (hookFrame_tankHalf ch _ _ _ _ _ _ _ _ _) fun _ =>
                        keeps_bind .trans (hookFrame_tankHalf ch _ _ _ _ _ _ _ _ _) fun _ =>
                          keeps_pure .refl [y.1, y.2]

theorem hookFrame_reverbReset (ch : Nat) (xl xr : F32) : Engine.Keeps (HookFrame .reverb) (reverbReset ch xl xr) := by
  have fill : ∀ j v, Engine.Keeps (HookFrame .reverb) (dlFill (.reverb ch j) v) :=
    fun j => hookFrame_dlFill (.reverb ch j)
  have put := hookFrame_modifyReverbChan ch
  refine keeps_bind .trans (keeps_get .refl) fun _ => ?_
  refine keeps_bind .trans (fill .pd _) fun _ => keeps_bind .trans (put _) fun _ => ?_
  refine keeps_bind .trans (fill .id1 _) fun _ => keeps_bind .trans (fill .id2 _) fun _ => ?_
  refine keeps_bind .trans (fill .id3 _) fun _ => keeps_bind .trans (fill .id4 _) fun _ => ?_
  refine keeps_bind .trans (fill .dd1 _) fun _ => keeps_bind .trans (fill .dlL1 _) fun _ => ?_
  refine keeps_bind .trans (put _) fun _ => ?_
  refine keeps_bind .trans (fill .dd2 _) fun _ => keeps_bind .trans (fill .dlL2 _) fun _ => ?_
  refine keeps_bind .trans (fill .dd3 _) fun _ => keeps_bind .trans (fill .dlR1 _) fun _ => ?_
  refine keeps_bind .trans (put _) fun _ => ?_
  refine keeps_bind .trans (fill .dd4 _) fun _ => keeps_bind .trans (fill .dlR2 _) fun _ => ?_
  exact keeps_bind .trans (keeps_of_same .refl (taps_same ch)) fun y => keeps_pure .refl [y.1, y.2]

/-! #### The hooks of every unit -/

theorem hookFrame_answerMm1 (u : UnitId) (ch : Nat) (x : F32 × Mm1State) :
    Engine.Keeps (HookFrame u) (answerMm1 u ch x) :=
  keeps_bind .trans (keeps_modify fun s => hookFrame_setMm1Chan s u ch x.2) fun _ => keeps_pure .refl [x.1]

theorem hookFrame_answerMm2 (u : UnitId) (ch : Nat) (x : F32 × Mm2State) :
    Engine.Keeps (HookFrame u) (answerMm2 u ch x) :=
  keeps_bind .trans (keeps_modify fun s => hookFrame_setMm2Chan s u ch x.2) fun _ => keeps_pure .refl [x.1]

theorem hookFrame_process1Hook (u : UnitId) (ch : Nat) (xs : List F32) :
    Engine.Keeps (HookFrame u) (process1Hook u ch xs) := by
  refine keeps_bind .trans (keeps_get .refl) fun s => ?_
  cases u with
  | onepole =>
    exact keeps_bind .trans (keeps_modify fun s' => hookFrame_setOnePoleChan s' ch _) fun _ => keeps_pure .refl [_]
  | mm1 | hp1 | ls1 => exact hookFrame_answerMm1 _ ch _
  | mm2 | ls2 | ap2 | peak => exact hookFrame_answerMm2 _ ch _
  | delay =>
    exact keeps_bind .trans (hookFrame_dlWrite (.delay ch) _) fun _ => keeps_bind .trans (keeps_get .refl) fun _ =>
      keeps_bind .trans (keeps_dlRead .refl _ _ _) fun y => keeps_pure .refl [y]
  | reverb => exact hookFrame_reverbStep ch _ _

theorem hookFrame_resetStateHook (u : UnitId) (ch : Nat) (xs : List F32) :
    Engine.Keeps (HookFrame u) (resetStateHook u ch xs) := by
  refine keeps_bind .trans (keeps_get .refl) fun s => ?_
  cases u with
  | onepole =>
    exact keeps_bind .trans (keeps_modify fun s' => hookFrame_setOnePoleChan s' ch _) fun _ => keeps_pure .refl [_]
  | mm1 | hp1 | ls1 => exact hookFrame_answerMm1 _ ch _
  | mm2 | ls2 | ap2 | peak => exact hookFrame_answerMm2 _ ch _
  | delay => exact keeps_bind .trans (hookFrame_dlFill (.delay ch) _) fun _ => keeps_pure .refl [_]
  | reverb => exact hookFrame_reverbReset ch _ _

/-- A weaker relation is kept too. -/
theorem keeps_mono {α : Type} {R Q : State → State → Prop} {e : Engine α} (h : Engine.Keeps R e)
    (hRQ : ∀ s t, R s t → Q s t) : Engine.Keeps Q e := by
  intro s
  have hs := h s
  cases he : e s <;> rw [he] at hs <;> exact hRQ _ _ hs

/-! ### What a command leaves -/

/-- The operand registers (10_state.md R23). -/
def operands (w : Window) : List Word := [w.arg0, w.arg1, w.arg2, w.arg3, w.arg4, w.arg5]

/-- The commands that may write data memory (20_memory.md R80): PROCESS and PROCESS_MULTI their output buffers, and the
commands that write a line the arena of a unit that has one. -/
def MayStore (i : Instr) : Prop :=
  i.fields.opc = 0x08#6 ∨ i.fields.opc = 0x09#6 ∨ ∃ u, unitOfInstr i = some u ∧ hasMemory u = true ∧
    (i.fields.opc = 0x04#6 ∨ i.fields.opc = 0x07#6 ∨ i.fields.opc = 0x0E#6)

/-- Whatever a command does, it leaves the block's parameters, the host's queue, the operands and the other units; LIFE,
the parameter registers and data memory change by the commands that write them only. -/
structure CommandFrame (i : Instr) (s t : State) : Prop where
  hw : t.hw = s.hw
  inbox : t.inbox = s.inbox
  reply : t.reply = s.reply
  args : operands t.win = operands s.win
  others : ∀ w, unitOfInstr i ≠ some w → sameUnit s t w
  life : ∀ w, i ≠ initOf w → i ≠ setSrOf w → i ≠ resetCoeffsOf w → (t.regs.get w).life = (s.regs.get w).life
  params : i.fields.opc ≠ 0x01#6 → i.fields.opc ≠ 0x0A#6 → t.coefs.params = s.coefs.params
  mem : ¬MayStore i → t.mem = s.mem

theorem sameUnit_of_eq (hcoef : coefReg t w = coefReg s w) (hstate : stateReg t w = stateReg s w) : sameUnit s t w :=
  ⟨congrFun hcoef, fun ch => congrFun (congrFun hstate ch)⟩

theorem CommandFrame.refl (s : State) : CommandFrame i s s :=
  ⟨rfl, rfl, rfl, rfl, fun _ _ => sameUnit_of_eq rfl rfl, fun _ _ _ _ => rfl, fun _ _ => rfl, fun _ => rfl⟩

theorem CommandFrame.trans (s t r : State) (h : CommandFrame i s t) (h' : CommandFrame i t r) : CommandFrame i s r where
  hw := h'.hw.trans h.hw
  inbox := h'.inbox.trans h.inbox
  reply := h'.reply.trans h.reply
  args := h'.args.trans h.args
  others w hw := by
    obtain ⟨hcoef, hstate⟩ := h.others w hw
    obtain ⟨hcoef', hstate'⟩ := h'.others w hw
    exact ⟨fun sel => (hcoef' sel).trans (hcoef sel), fun ch sel => (hstate' ch sel).trans (hstate ch sel)⟩
  life w h1 h2 h3 := (h'.life w h1 h2 h3).trans (h.life w h1 h2 h3)
  params h1 h2 := (h'.params h1 h2).trans (h.params h1 h2)
  mem hm := (h'.mem hm).trans (h.mem hm)

/-! #### Writes of the window and of data memory -/

theorem commandFrame_withWindow (s : State) {w : Window} (h : operands w = operands s.win) :
    CommandFrame i s { s with win := w } where
  __ := CommandFrame.refl (i := i) s
  args := h

theorem commandFrame_enterFault (s : State) (cmd : Word) (c : FaultCode) (a b : Word) :
    CommandFrame i s (enterFault cmd c a b s) := commandFrame_withWindow s rfl

theorem commandFrame_setRes0 (s : State) (x : Word) : CommandFrame i s (s.setRes0 x) := commandFrame_withWindow s rfl

theorem commandFrame_setResults (s : State) (ys : List F32) : CommandFrame i s (s.setResults ys) := by
  rcases ys with _ | ⟨y, _ | ⟨z, zs⟩⟩
  · exact .refl s
  · exact commandFrame_withWindow s rfl
  · exact commandFrame_withWindow s rfl

theorem commandFrame_store (h : MayStore i) (s : State) (m : List Host.Cell) :
    CommandFrame i s { s with mem := m } where
  __ := CommandFrame.refl (i := i) s
  mem hm := absurd h hm

/-! #### Writes of the command's own unit -/

/-- A change of the registers of the command's unit alone. -/
theorem CommandFrame.of_unit (hu : unitOfInstr i = some u) (hhw : t.hw = s.hw) (hinbox : t.inbox = s.inbox)
    (hreply : t.reply = s.reply) (hwin : t.win = s.win) (hmem : t.mem = s.mem)
    (hcoef : ∀ w, w ≠ u → coefReg t w = coefReg s w) (hstate : ∀ w, w ≠ u → stateReg t w = stateReg s w)
    (hlife : ∀ w, i ≠ initOf w → i ≠ setSrOf w → i ≠ resetCoeffsOf w → (t.regs.get w).life = (s.regs.get w).life)
    (hparams : i.fields.opc ≠ 0x01#6 → i.fields.opc ≠ 0x0A#6 → t.coefs.params = s.coefs.params) :
    CommandFrame i s t where
  hw := hhw
  inbox := hinbox
  reply := hreply
  args := by rw [hwin]
  others w hw := by
    have hne : w ≠ u := fun e => hw (e ▸ hu)
    exact sameUnit_of_eq (hcoef w hne) (hstate w hne)
  life := hlife
  params := hparams
  mem _ := hmem

theorem HookFrame.commandFrame (h : HookFrame u s t) (hu : unitOfInstr i = some u)
    (hstore : hasMemory u = true → MayStore i) : CommandFrame i s t where
  hw := h.hw
  inbox := h.inbox
  reply := h.reply
  args := by rw [h.win]
  others w hw := by
    refine sameUnit_of_eq (coefReg_congr (by rw [h.regs]) (by rw [h.coefs])) (h.others w fun e => hw (e ▸ hu))
  life _ _ _ _ := by rw [h.regs]
  params _ _ := by rw [h.coefs]
  mem hm := h.mem (by simpa using mt hstore hm)

theorem commandFrame_setStValid (hu : unitOfInstr i = some u) (s : State) (ch : Nat) (b : Bool) :
    CommandFrame i s (s.setStValid u ch b) :=
  .of_unit hu rfl rfl rfl rfl rfl (fun _ _ => rfl)
    (fun w hw => stateReg_congr (by rw [State.setStValid_valid, PerUnit.get_set_other _ _ hw]) (fun _ => rfl) rfl)
    (fun _ _ _ _ => rfl) fun _ _ => rfl

/-- MEM_SET (40_protocol.md R151). -/
theorem commandFrame_bindChannel (hu : unitOfInstr i = some u) (s : State) (ch : Nat) :
    CommandFrame i s (bindChannel u ch s) := by
  rw [bindChannel_eq]
  refine .trans _ _ _ (commandFrame_setStValid hu s ch false) ?_
  refine .of_unit hu (by simp) (by simp) (by simp) (by simp) (by simp) (fun w _ => ?_) (fun w hw => ?_)
    (fun _ _ _ _ => by simp) fun _ _ => by simp
  · exact coefReg_congr (by simp) (by rw [State.setBinding_coefs])
  · exact stateReg_congr (by simp) (fun c => binding_setBinding_other _ hw ch c _) (by rw [State.setBinding_chans])

/-- A change of the coefficient bank of the command's unit, and of its common registers but for LIFE. -/
theorem commandFrame_coefs (hu : unitOfInstr i = some u) (s : State) {c : Coefs} {f : UnitRegs → UnitRegs}
    (hcoef : ∀ w, w ≠ u → coefReg { s with coefs := c } w = coefReg s w)
    (hlife : (f (s.regs.get u)).life = (s.regs.get u).life)
    (hparams : i.fields.opc ≠ 0x0A#6 → c.params = s.coefs.params) :
    CommandFrame i s (State.updRegs { s with coefs := c } u f) := by
  refine .of_unit hu rfl rfl rfl rfl rfl (fun w hw => coefReg_congr ?_ (hcoef w hw)) (fun _ _ => rfl)
    (fun w _ _ _ => ?_) fun _ h => hparams h
  · exact PerUnit.get_set_other _ _ hw
  · rw [State.updRegs_regs, PerUnit.get_set]
    split
    · exact ‹w = u› ▸ hlife
    · rfl

/-- UPDATE_CTRL (R146). -/
theorem commandFrame_updateCtrl (hu : unitOfInstr i = some u) (s : State) : CommandFrame i s (updateCtrl u s) := by
  refine commandFrame_coefs hu s (f := fun r => { r with dirty := 0 }) (fun w hw => ?_) rfl fun _ => ?_
  · split
    · rfl
    · exact coefReg_updateCtrlHook s hw _ _
  · split
    · rfl
    · exact params_updateCtrlHook u _ _ _

/-- UPDATE_AUDIO (R147). -/
theorem commandFrame_updateAudio (hu : unitOfInstr i = some u) (s : State) : CommandFrame i s (updateAudio u s) :=
  .of_unit hu rfl rfl rfl rfl rfl (fun _ hw => coefReg_updateAudioHook s hw _) (fun _ _ => rfl) (fun _ _ _ _ => rfl)
    fun _ _ => params_updateAudioHook u _ _

/-- SET_PARAM (R149). -/
theorem commandFrame_writeParam (hu : unitOfInstr i = some u) (hopc : i.fields.opc = 0x0A#6) {bits : Word}
    {write : Word → Coefs → Coefs} (hw : WritesOnly u write) (s : State) :
    CommandFrame i s (writeParam u bits write s) :=
  commandFrame_coefs hu s (f := fun r => { r with dirty := r.dirty ||| bits }) (hw.others s s.win.arg0) rfl
    fun h => absurd hopc h

/-- INIT (R142). -/
theorem commandFrame_initUnit (u : UnitId) (s : State) : CommandFrame (initOf u) s (initUnit u s) := by
  have hregs : ∀ w, w ≠ u → (initUnit u s).regs.get w = s.regs.get w := fun w hw => by
    simp [initUnit, PerUnit.get_set_other _ _ hw]
  refine .of_unit (unit_initOf u) (by simp) (by simp) (by simp) (by simp) (by simp) (fun w hw => ?_) (fun w hw => ?_)
    (fun w hw _ _ => ?_) fun h => absurd (opc_initOf u) h
  · refine coefReg_congr (hregs w hw) ?_
    simpa [initUnit] using coefReg_initHook s hw s.win.arg0
  · refine stateReg_congr ?_ (binding_unbindAll_other _ hw) ?_
    · simp [initUnit, PerUnit.get_set_other _ _ hw]
    · cases u <;> cases w <;> first | rfl | exact absurd rfl hw
  · rw [hregs w fun e => hw (e ▸ rfl)]

/-- SET_SR (R143). -/
theorem commandFrame_setRate (u : UnitId) (fs : F32) (s : State) : CommandFrame (setSrOf u) s (setRate u fs s) := by
  have hregs : ∀ w, w ≠ u → (setRate u fs s).regs.get w = s.regs.get w := fun w hw => by
    simp [PerUnit.get_set_other _ _ hw]
  refine .of_unit (unit_setSrOf u) (by simp) (by simp) (by simp) (by simp) (by simp) (fun w hw => ?_) (fun w hw => ?_)
    (fun w _ hw _ => ?_) fun _ _ => ?_
  · refine coefReg_congr (hregs w hw) ?_
    simpa using coefReg_setSrHook s hw s.hw.revTable fs
  · exact stateReg_congr (unbindForRate_valid_other _ hw) (unbindForRate_binding_other _ hw) (by simp)
  · rw [hregs w fun e => hw (e ▸ rfl)]
  · rw [setRate_coefs, params_setSrHook]

/-- RESET_COEFFS (R144). -/
theorem commandFrame_resetCoeffs (u : UnitId) (s : State) : CommandFrame (resetCoeffsOf u) s (resetCoeffs u s) := by
  have hregs : ∀ w, w ≠ u → (resetCoeffs u s).regs.get w = s.regs.get w := fun w hw => by
    simp [resetCoeffs, PerUnit.get_set_other _ _ hw]
  refine .of_unit (unit_resetCoeffsOf u) (by simp) (by simp) (by simp) (by simp) (by simp) (fun w hw => ?_)
    (fun w hw => ?_) (fun w _ _ hw => ?_) fun _ _ => params_resetCoeffsHook u _ _
  · exact coefReg_congr (hregs w hw) (coefReg_resetCoeffsHook s hw _)
  · exact stateReg_congr (by simp [resetCoeffs, PerUnit.get_set_other _ _ hw]) (fun _ => rfl) rfl
  · rw [hregs w fun e => hw (e ▸ rfl)]

/-! ### Every command -/

theorem commandFrame_hook {α : Type} {e : Engine α} (h : Engine.Keeps (HookFrame u) e) (hu : unitOfInstr i = some u)
    (hstore : hasMemory u = true → MayStore i) : Engine.Keeps (CommandFrame i) e :=
  keeps_mono h fun _ _ hf => hf.commandFrame hu hstore

theorem commandFrame_storeSamples (h : MayStore i) (k : Nat) (bs : List Word) (ys : List F32) :
    Engine.Keeps (CommandFrame i) (storeSamples k bs ys) :=
  keeps_storeSamples .refl .trans (fun _ _ s _ _ _ => commandFrame_store h s _) ys

theorem commandFrame_processSample (hu : unitOfInstr i = some u) (h : MayStore i) (ch : Nat) (ins outs : List Word)
    (k : Nat) : Engine.Keeps (CommandFrame i) (processSample u ch ins outs k) :=
  keeps_bind .trans (keeps_of_same .refl (loadSamples_same k ins)) fun xs =>
    keeps_bind .trans (keeps_requireFinite .refl xs) fun _ =>
      keeps_bind .trans (keeps_modify (commandFrame_updateAudio hu)) fun _ =>
        keeps_bind .trans (commandFrame_hook (hookFrame_process1Hook u ch xs) hu fun _ => h) fun ys =>
          commandFrame_storeSamples h k outs ys

theorem commandFrame_processChannels (hu : unitOfInstr i = some u) (h : MayStore i) (pout : List (List Word))
    (k c : Nat) (xss : List (List F32)) : Engine.Keeps (CommandFrame i) (processChannels u pout k c xss) := by
  induction xss generalizing c with
  | nil => exact keeps_pure .refl ()
  | cons xs xss ih =>
    exact keeps_bind .trans (commandFrame_hook (hookFrame_process1Hook u c xs) hu fun _ => h) fun ys =>
      keeps_bind .trans (commandFrame_storeSamples h k _ ys) fun _ => ih (c + 1)

theorem commandFrame_multiSample (hu : unitOfInstr i = some u) (h : MayStore i) (m : Nat) (pin pout : List (List Word))
    (k : Nat) : Engine.Keeps (CommandFrame i) (multiSample u m pin pout k) :=
  keeps_bind .trans (keeps_of_same .refl (loadChannels_same pin k 0 m)) fun xss =>
    keeps_bind .trans (keeps_requireFinite .refl _) fun _ =>
      keeps_bind .trans (keeps_modify (commandFrame_updateAudio hu)) fun _ =>
        commandFrame_processChannels hu h pout k 0 xss

theorem mayStore_of_unit (hu : unitOfInstr i = some u)
    (hopc : i.fields.opc = 0x04#6 ∨ i.fields.opc = 0x07#6 ∨ i.fields.opc = 0x0E#6) (hm : hasMemory u = true) :
    MayStore i := .inr (.inr ⟨u, hu, hm, hopc⟩)

theorem commandFrame_cmdResetState (u : UnitId) (ch : BitVec 6) :
    Engine.Keeps (CommandFrame (resetStateOf u ch)) (cmdResetState u ch) := by
  have hu := unit_resetStateOf u ch
  refine keeps_bind .trans (keeps_requireChannel .refl ch) fun _ => ?_
  refine keeps_bind .trans (keeps_requireLife .refl u _) fun _ => ?_
  refine keeps_bind .trans (keeps_requireBound .refl u _) fun _ => keeps_bind .trans (keeps_get .refl) fun s => ?_
  refine keeps_bind .trans (keeps_requireFinite .refl (sampleArgs u s.win)) fun _ => ?_
  refine keeps_bind .trans (keeps_modify fun s => commandFrame_setStValid hu s ch.toNat _) fun _ => ?_
  refine keeps_bind .trans (commandFrame_hook (hookFrame_resetStateHook u ch.toNat _) hu ?_) fun ys => ?_
  · exact mayStore_of_unit hu (.inl (opc_resetStateOf u ch))
  · exact keeps_modify fun s =>
      .trans _ _ _ (commandFrame_setStValid hu s ch.toNat true) (commandFrame_setResults _ ys)

theorem commandFrame_cmdProcess1 (u : UnitId) (ch : BitVec 6) :
    Engine.Keeps (CommandFrame (process1Of u ch)) (cmdProcess1 u ch) := by
  have hu := unit_process1Of u ch
  refine keeps_bind .trans (keeps_admitChannel .refl u ch) fun _ => keeps_bind .trans (keeps_get .refl) fun s => ?_
  refine keeps_bind .trans (keeps_requireFinite .refl (sampleArgs u s.win)) fun _ => ?_
  refine keeps_bind .trans (commandFrame_hook (hookFrame_process1Hook u ch.toNat _) hu ?_) fun ys => ?_
  · exact mayStore_of_unit hu (.inr (.inl (opc_process1Of u ch)))
  · exact keeps_modify fun s => commandFrame_setResults s ys

theorem commandFrame_cmdProcess (u : UnitId) (ch : BitVec 6) :
    Engine.Keeps (CommandFrame (processOf u ch)) (cmdProcess u ch) := by
  have hu := unit_processOf u ch
  refine keeps_bind .trans (keeps_admitChannel .refl u ch) fun _ => keeps_bind .trans (keeps_get .refl) fun _ => ?_
  refine keeps_bind .trans (keeps_requireBuffers .refl _ _) fun _ => ?_
  refine keeps_bind .trans (keeps_modify (commandFrame_updateCtrl hu)) fun _ => ?_
  exact keeps_forSamples .refl .trans fun k _ _ =>
    commandFrame_processSample hu (.inl (opc_processOf u ch)) ch.toNat _ _ k

theorem commandFrame_cmdProcessMulti (u : UnitId) :
    Engine.Keeps (CommandFrame (processMultiOf u)) (cmdProcessMulti u) := by
  have hu := unit_processMultiOf u
  refine keeps_bind .trans (keeps_requireLife .refl u _) fun _ => keeps_bind .trans (keeps_get .refl) fun _ => ?_
  refine keeps_bind .trans (keeps_require .refl _ _ _) fun _ => ?_
  refine keeps_bind .trans (keeps_of_same .refl (requireChannels_same u _ _)) fun _ => ?_
  refine keeps_bind .trans (keeps_requireBuffers .refl _ _) fun _ => ?_
  refine keeps_bind .trans (keeps_of_same .refl (readTables_same _ _)) fun _ => ?_
  refine keeps_bind .trans (keeps_requireBuffers .refl _ _) fun _ => ?_
  refine keeps_bind .trans (keeps_modify (commandFrame_updateCtrl hu)) fun _ => ?_
  exact keeps_forSamples .refl .trans fun k _ _ =>
    commandFrame_multiSample hu (.inr (.inl (opc_processMultiOf u))) _ _ _ k

theorem commandFrame_cmdInit (u : UnitId) : Engine.Keeps (CommandFrame (initOf u)) (cmdInit u) :=
  keeps_bind .trans (keeps_get .refl) fun _ => keeps_bind .trans (keeps_require .refl _ _ _) fun _ =>
    keeps_modify (commandFrame_initUnit u)

theorem commandFrame_cmdSetSr (u : UnitId) : Engine.Keeps (CommandFrame (setSrOf u)) (cmdSetSr u) :=
  keeps_bind .trans (keeps_requireLife .refl u _) fun _ => keeps_bind .trans (keeps_get .refl) fun _ =>
    keeps_bind .trans (keeps_require .refl _ _ _) fun _ => keeps_bind .trans (keeps_require .refl _ _ _) fun _ =>
      keeps_modify (commandFrame_setRate u _)

theorem commandFrame_cmdMemSet (hu : unitOfInstr i = some u) (ch : BitVec 6) :
    Engine.Keeps (CommandFrame i) (cmdMemSet u ch) :=
  keeps_bind .trans (keeps_requireChannel .refl ch) fun _ => keeps_bind .trans (keeps_requireLife .refl u _) fun _ =>
    keeps_bind .trans (keeps_get .refl) fun _ => keeps_bind .trans (keeps_require .refl _ _ _) fun _ =>
      keeps_bind .trans (keeps_require .refl _ _ _) fun _ =>
        keeps_modify fun s => commandFrame_bindChannel hu s ch.toNat

/-- A command that passes a check of the lifecycle and then makes one effect. -/
theorem commandFrame_afterLife (u : UnitId) (ok : Life → Bool) {f : State → State} (h : ∀ s, CommandFrame i s (f s)) :
    Engine.Keeps (CommandFrame i) (do requireLife u ok; modify f) :=
  keeps_bind .trans (keeps_requireLife .refl u ok) fun _ => keeps_modify h

theorem commandFrame_cmdDelayRead (ch : BitVec 6) : Engine.Keeps (CommandFrame i) (cmdDelayRead ch) :=
  keeps_bind .trans (keeps_admitChannel .refl .delay ch) fun _ => keeps_bind .trans (keeps_get .refl) fun _ =>
    keeps_bind .trans (keeps_require .refl _ _ _) fun _ => keeps_bind .trans (keeps_require .refl _ _ _) fun _ =>
      keeps_bind .trans (keeps_dlRead .refl _ _ _) fun v => keeps_modify fun s => commandFrame_setRes0 s v

theorem commandFrame_cmdDelayWrite (ch : BitVec 6) :
    Engine.Keeps (CommandFrame (.delayWriteDelay ch)) (cmdDelayWrite ch) := by
  have hu := unit_delayWriteDelay ch
  refine keeps_bind .trans (keeps_admitChannel .refl .delay ch) fun _ => keeps_bind .trans (keeps_get .refl) fun _ => ?_
  refine keeps_bind .trans (keeps_require .refl _ _ _) fun _ => ?_
  exact commandFrame_hook (hookFrame_dlWrite (.delay ch.toNat) _) hu
    (mayStore_of_unit hu (.inr (.inr (opc_delayWriteDelay ch))))

/-- Whatever a command's computation answers, it keeps to what the command may write. -/
theorem commandFrame_command {e : Engine Unit} (h : CommandShape i e) : Engine.Keeps (CommandFrame i) e := by
  cases h with
  | nop => exact keeps_pure .refl ()
  | init u => exact commandFrame_cmdInit u
  | setSr u => exact commandFrame_cmdSetSr u
  | resetCoeffs u => exact commandFrame_afterLife u _ (commandFrame_resetCoeffs u)
  | resetState u ch => exact commandFrame_cmdResetState u ch
  | updateCtrl u => exact commandFrame_afterLife u _ (commandFrame_updateCtrl (unit_updateCtrlOf u))
  | updateAudio u => exact commandFrame_afterLife u _ (commandFrame_updateAudio (unit_updateAudioOf u))
  | process1 u ch => exact commandFrame_cmdProcess1 u ch
  | process u ch => exact commandFrame_cmdProcess u ch
  | processMulti u => exact commandFrame_cmdProcessMulti u
  | setParam _ u ok bits write opc unit mask only =>
    exact keeps_bind .trans (keeps_requireLife .refl u _) fun _ => keeps_bind .trans (keeps_get .refl) fun _ =>
      keeps_bind .trans (keeps_require .refl _ _ _) fun _ => keeps_modify (commandFrame_writeParam unit opc only)
  | memReqDelay | memReqReverb => exact commandFrame_afterLife _ _ fun s => commandFrame_setRes0 s _
  | memSetDelay ch => exact commandFrame_cmdMemSet (unit_memSetDelay ch) ch
  | memSetReverb ch => exact commandFrame_cmdMemSet (unit_memSetReverb ch) ch
  | delayRead ch => exact commandFrame_cmdDelayRead ch
  | delayWrite ch => exact commandFrame_cmdDelayWrite ch
  | readCoef _ u reg opc unit reads => exact keeps_modify fun s => commandFrame_setRes0 s _
  | readState _ u ch reg opc unit channel reads =>
    exact keeps_bind .trans (keeps_requireChannel .refl ch) fun _ => keeps_modify fun s => commandFrame_setRes0 s _

/-- A command that answers a next state keeps to what it may write, a fault's entry included. -/
theorem exec_commandFrame (hx : exec i s = .next t) : CommandFrame i s t := by
  obtain ⟨e, hshape, hexec⟩ := exec_shape i
  have hkeeps := commandFrame_command hshape
  rw [hexec] at hx
  rcases runCommand_next hx with hok | ⟨c, a, b, r, herr, rfl⟩
  · exact keeps_ok hkeeps hok
  · exact .trans _ _ _ (keeps_error hkeeps herr) (commandFrame_enterFault r _ c a b)

/-- Settles O57: the frame of every command, field by field. -/
theorem commandsKeepToTheirOwn : Obligations.CommandsKeepToTheirOwn := by
  intro i s t hx
  have hf := exec_commandFrame hx
  have hargs := hf.args
  simp only [operands, List.cons.injEq, and_true] at hargs
  obtain ⟨h0, h1, h2, h3, h4, h5⟩ := hargs
  refine ⟨hf.others, h0, h1, h2, h3, h4, h5, hf.hw, hf.inbox, hf.reply, fun hinit hset u sel hsel => ?_,
    fun h8 h9 hline a => ?_⟩
  · exact coefReg_of_params (hf.params hinit hset) u hsel
  · have hno : ¬MayStore i := by
      rintro (h | h | ⟨u, hu, hm, h⟩)
      · exact h8 h
      · exact h9 h
      · obtain ⟨h4, h7, hE⟩ := hline u hu hm
        rcases h with h | h | h
        · exact h4 h
        · exact h7 h
        · exact hE h
    rw [hf.mem hno]

/-! ### The lifecycle -/

theorem regs_of_error {e : Engine Unit} {x : Stop} (he : e s = .error x s) (h : runCommand i e s = .next t) :
    t.regs = s.regs := by
  unfold runCommand at h
  rw [he] at h
  cases x <;> cases h
  rfl

/-- INIT makes its effect, or stops with nothing changed. -/
theorem cmdInit_cases (u : UnitId) (s : State) :
    cmdInit u s = .ok () (initUnit u s) ∨ ∃ x, cmdInit u s = .error x s := by
  rw [cmdInit_run]
  split
  · exact .inl rfl
  · exact .inr ⟨_, rfl⟩

/-- SET_SR makes its effect from an accepting lifecycle, or stops with nothing changed. -/
theorem cmdSetSr_cases (u : UnitId) (s : State) :
    (isInited (s.regs.get u).life ∧ cmdSetSr u s = .ok () (setRate u s.win.arg0 s)) ∨
      ∃ x, cmdSetSr u s = .error x s := by
  rw [cmdSetSr_run]
  split_ifs with hlife
  · exact .inl ⟨(lifeInited_eq _).1 hlife, rfl⟩
  all_goals exact .inr ⟨_, rfl⟩

/-- RESET_COEFFS makes its effect from an accepting lifecycle, or stops with nothing changed. -/
theorem cmdResetCoeffs_cases (u : UnitId) (s : State) :
    (((s.regs.get u).life = .srSet ∨ (s.regs.get u).life = .ready) ∧
      cmdResetCoeffs u s = .ok () (resetCoeffs u s)) ∨ ∃ x, cmdResetCoeffs u s = .error x s := by
  rw [cmdResetCoeffs_run]
  split_ifs with hlife
  · exact .inl ⟨(lifeSrSet_eq _).1 hlife, rfl⟩
  · exact .inr ⟨_, rfl⟩

theorem life_of_init (hx : exec (initOf u) s = .next t) : t.regs = s.regs ∨ (t.regs.get u).life = .inited := by
  rw [exec_initOf] at hx
  rcases cmdInit_cases u s with hok | ⟨x, herr⟩
  · cases (runCommand_ok hok).symm.trans hx
    exact .inr (by simp [initUnit, initRegs])
  · exact .inl (regs_of_error herr hx)

theorem life_of_setSr (hx : exec (setSrOf u) s = .next t) :
    t.regs = s.regs ∨ isInited (s.regs.get u).life ∧ (t.regs.get u).life = .srSet := by
  rw [exec_setSrOf] at hx
  rcases cmdSetSr_cases u s with ⟨hlife, hok⟩ | ⟨x, herr⟩
  · cases (runCommand_ok hok).symm.trans hx
    exact .inr ⟨hlife, by simp⟩
  · exact .inl (regs_of_error herr hx)

theorem life_of_resetCoeffs (hx : exec (resetCoeffsOf u) s = .next t) :
    t.regs = s.regs ∨ ((s.regs.get u).life = .srSet ∨ (s.regs.get u).life = .ready) ∧
      (t.regs.get u).life = .ready := by
  rw [exec_resetCoeffsOf] at hx
  rcases cmdResetCoeffs_cases u s with ⟨hlife, hok⟩ | ⟨x, herr⟩
  · cases (runCommand_ok hok).symm.trans hx
    exact .inr ⟨hlife, by simp [resetCoeffs]⟩
  · exact .inl (regs_of_error herr hx)

/-- Settles O56: the three commands that write LIFE by their own runs, every other by its frame. -/
theorem lifecycleTransitions : Obligations.LifecycleTransitions := by
  intro i s t u hx
  have same : t.regs = s.regs → (t.regs.get u).life = (s.regs.get u).life := fun h => by rw [h]
  by_cases hinit : i = initOf u
  · subst hinit
    exact (life_of_init hx).imp same fun h => .inl ⟨rfl, h⟩
  by_cases hset : i = setSrOf u
  · subst hset
    exact (life_of_setSr hx).imp same fun h => .inr (.inl ⟨rfl, h⟩)
  by_cases hreset : i = resetCoeffsOf u
  · subst hreset
    exact (life_of_resetCoeffs hx).imp same fun h => .inr (.inr ⟨rfl, h⟩)
  exact .inl ((exec_commandFrame hx).life u hinit hset hreset)

end Sys2Proof.Machine
end

-- ==== Proofs: data memory ====
section
/-! PROOFS. Data memory as the engine and the host see it (20_memory.md R82 to R84, R95): a word is its four bytes, the
lowest first, and a host access to ordinary memory is one store or one load of it. -/

namespace Sys2Proof.Machine
open Sys2Proof.Config

/-! ### The bytes of a word -/

/-- Byte `k` of a word is its bits [8k+7:8k]. -/
theorem extractLsb'_byte (w : Word) (k : Nat) : w.extractLsb' (8 * k) 8 = (w >>> (8 * k)).setWidth 8 := by
  ext i hi
  simp

/-- Byte `k` of four bytes put together, the highest first. -/
theorem byte_of_append (b3 b2 b1 b0 : Byte) {k : Nat} (hk : k < 4) :
    (b3 ++ b2 ++ b1 ++ b0 : Word).extractLsb' (8 * k) 8 = [b0, b1, b2, b3][k] := by
  apply BitVec.eq_of_getElem_eq
  intro i hi
  rw [BitVec.getElem_extractLsb', BitVec.getLsbD_eq_getElem (by omega)]
  simp only [BitVec.getElem_append]
  obtain rfl | rfl | rfl | rfl : k = 0 ∨ k = 1 ∨ k = 2 ∨ k = 3 := by omega
  · simp [hi]
  · simp [hi]
  · simp [show ¬16 + i < 8 by omega, show 16 + i - 8 - 8 = i by omega, show ¬16 + i - 8 < 8 by omega, hi]
  · simp [show ¬24 + i < 8 by omega, show 24 + i - 8 - 8 - 8 = i by omega, show ¬24 + i - 8 < 8 by omega,
      show ¬24 + i - 8 - 8 < 8 by omega]

/-- The word an address reads as has the byte `k` further on as its byte `k`. -/
theorem readWord_byte (m : List Host.Cell) (a : Nat) {k : Nat} (hk : k < 4) :
    (readWord m a >>> (8 * k)).setWidth 8 = readByte m (a + k) := by
  rw [← extractLsb'_byte, readWord, byte_of_append _ _ _ _ hk]
  obtain rfl | rfl | rfl | rfl : k = 0 ∨ k = 1 ∨ k = 2 ∨ k = 3 := by omega
  all_goals rfl

/-! ### The host's accesses -/

theorem step_cons (s : State) (rest : List HostEvent) (e : HostEvent) :
    step { s with inbox := e :: rest } = (hostStep e { s with inbox := rest }).outcome := step_eq_outcome _

/-- Settles O8: the host's store is the engine's store of the same bytes, its load the engine's load. -/
theorem wordsAreLittleEndian : Obligations.WordsAreLittleEndian := by
  have bytes {m : List Host.Cell} {a : Nat} (w : Word) (hm : Memory.wf m = true) (ha : a + 4 ≤ 2 ^ 32) :
      ∀ k, k < 4 → readByte (writeWord m a w) (a + k) = (w >>> (8 * k)).setWidth 8 := fun k hk => by
    rw [readByte_writeWord m a k w hm ha hk, extractLsb'_byte]
  refine ⟨fun m a w hm _ ha => ⟨readWord_writeWord_self m a w hm ha, bytes w hm ha,
    fun b hb => readByte_writeWord_other m a b w hb, wf_writeWord m a w ha hm⟩, fun s rest a hm => ⟨fun ha ho => ?_,
    fun ho => ?_⟩⟩
  · refine ⟨fun w => ⟨writeWord s.mem a.toNat w, ?_, bytes w hm ha, fun b hb => readByte_writeWord_other _ _ b w hb,
      wf_writeWord _ _ w ha hm⟩, readWord s.mem a.toNat, ?_, fun k hk => readWord_byte s.mem a.toNat hk⟩
    · exact (step_cons s rest _).trans (hostAccess_ok _ ha ho)
    · exact (step_cons s rest _).trans (hostAccess_ok _ ha ho)
  · have ha : a.toNat + 1 ≤ 2 ^ 32 := a.isLt
    refine ⟨fun v => ⟨writeByte s.mem a.toNat v, ?_, readByte_writeByte_self _ _ v 0 hm,
      fun b hb => readByte_writeByte_other _ _ b v hb, wf_writeByte _ _ v ha hm⟩, ?_⟩
    · exact (step_cons s rest _).trans (hostAccess_ok _ ha ho)
    · exact (step_cons s rest _).trans (hostAccess_ok _ ha ho)

end Sys2Proof.Machine
end

-- ==== Proofs: the accesses of a command ====
section
/-! PROOFS. A command's computation by the words of data memory it accesses (20_memory.md R81, R84): what it comes to is
the list of its accesses, each with the state as it stands before it, and the end it reaches where memory answers them all.
A bus error then ends it at the first access that fails, with that state (60_exceptions.md R440). -/

namespace Sys2Proof.Machine
open Sys2Proof.Config

/-! ### Computations as lists of accesses -/

/-- What a computation comes to that accesses the words at these addresses in turn, each from the state given with it,
and ends as `r` where ordinary memory answers them all. -/
def runAccesses {α : Type} (rs : List Region) :
    List (Nat × State) → EStateM.Result Stop State α → EStateM.Result Stop State α
  | [], r => r
  | (a, s) :: rest, r =>
    match regionAt rs a 4 with
    | none => runAccesses rs rest r
    | some .busError => .error (.trap .busError (BitVec.ofNat 32 a) 0) s
    | some .sideEffect => .error (.refuse (.sideEffectMemory a)) s

section
variable {α β : Type} {rs : List Region} {accs before after : List (Nat × State)} {a : Nat} {s t : State}

@[simp] theorem runAccesses_nil (r : EStateM.Result Stop State α) : runAccesses rs [] r = r := rfl

theorem runAccesses_cons_ordinary (h : regionAt rs a 4 = none) (r : EStateM.Result Stop State α) :
    runAccesses rs ((a, s) :: accs) r = runAccesses rs accs r := by simp only [runAccesses, h]

theorem runAccesses_cons_busError (h : regionAt rs a 4 = some .busError) (r : EStateM.Result Stop State α) :
    runAccesses rs ((a, s) :: accs) r = .error (.trap .busError (BitVec.ofNat 32 a) 0) s := by
  simp only [runAccesses, h]

theorem runAccesses_cons_sideEffect (h : regionAt rs a 4 = some .sideEffect) (r : EStateM.Result Stop State α) :
    runAccesses rs ((a, s) :: accs) r = .error (.refuse (.sideEffectMemory a)) s := by simp only [runAccesses, h]

theorem runAccesses_append (before after : List (Nat × State)) (r : EStateM.Result Stop State α) :
    runAccesses rs (before ++ after) r = runAccesses rs before (runAccesses rs after r) := by
  induction before with
  | nil => rfl
  | cons p before ih =>
    obtain ⟨a, s⟩ := p
    cases h : regionAt rs a 4 with
    | none => rw [List.cons_append, runAccesses_cons_ordinary h, runAccesses_cons_ordinary h, ih]
    | some k =>
      cases k
      · rw [List.cons_append, runAccesses_cons_busError h, runAccesses_cons_busError h]
      · rw [List.cons_append, runAccesses_cons_sideEffect h, runAccesses_cons_sideEffect h]

/-- Accesses that ordinary memory answers leave the end alone. -/
theorem runAccesses_ordinary (h : ∀ p ∈ accs, regionAt rs p.1 4 = none) (r : EStateM.Result Stop State α) :
    runAccesses rs accs r = r := by
  induction accs with
  | nil => rfl
  | cons p accs ih =>
    rw [runAccesses_cons_ordinary (h p (by simp))]
    exact ih fun q hq => h q (by simp [hq])

/-- The first access that the bus answers with an error ends the computation where it stands. -/
theorem runAccesses_busError (ho : ∀ p ∈ before, regionAt rs p.1 4 = none) (hb : regionAt rs a 4 = some .busError)
    (r : EStateM.Result Stop State α) :
    runAccesses rs (before ++ (a, s) :: after) r = .error (.trap .busError (BitVec.ofNat 32 a) 0) s := by
  rw [runAccesses_append, runAccesses_ordinary ho, runAccesses_cons_busError hb]

/-- A computation in two parts makes the accesses of the first, and goes on from where that ends. -/
theorem runAccesses_bind {e : Engine α} {x : α} (h : e s = runAccesses rs accs (.ok x t)) (k : α → Engine β) :
    (e >>= k) s = runAccesses rs accs (k x t) := by
  induction accs generalizing e s with
  | nil => exact engine_bind_ok h
  | cons p accs ih =>
    obtain ⟨a, r⟩ := p
    cases hr : regionAt rs a 4 with
    | none =>
      rw [runAccesses_cons_ordinary hr] at h ⊢
      exact ih h
    | some kind =>
      cases kind
      · rw [runAccesses_cons_busError hr] at h ⊢
        exact engine_bind_error h
      · rw [runAccesses_cons_sideEffect hr] at h ⊢
        exact engine_bind_error h

/-- Two parts, each by its accesses. -/
theorem runAccesses_bind_run {e : Engine α} {x : α} {k : α → Engine β} {accs' : List (Nat × State)}
    {r : EStateM.Result Stop State β} (h : e s = runAccesses rs accs (.ok x t)) (hk : k x t = runAccesses rs accs' r) :
    (e >>= k) s = runAccesses rs (accs ++ accs') r := by
  rw [runAccesses_bind h, hk, runAccesses_append]

/-- A command whose computation makes these accesses, the first failing one among them. -/
theorem runCommand_busError {i : Instr} {e : Engine Unit} {r : EStateM.Result Stop State Unit}
    (h : e s = runAccesses rs (before ++ (a, t) :: after) r) (ho : ∀ p ∈ before, regionAt rs p.1 4 = none)
    (hb : regionAt rs a 4 = some .busError) :
    runCommand i e s = .next (enterFault (encode i) .busError (BitVec.ofNat 32 a) 0 t) :=
  runCommand_trap (h.trans (runAccesses_busError ho hb r))

/-! ### Loads, stores and lines -/

/-- The bus check of an address that exists is one access. -/
theorem busCheck_run (h4 : a % 4 = 0) (hr : a + 4 ≤ 2 ^ 32) :
    busCheck a s = runAccesses s.hw.regions [(a, s)] (.ok () s) := by
  have hok : ¬(a % 4 ≠ 0 ∨ 2 ^ 32 < a + 4) := by omega
  simp only [busCheck, engine_bind_get, if_neg hok, runAccesses]
  cases regionAt s.hw.regions a 4 with
  | none => rfl
  | some kind => cases kind <;> rfl

theorem memRead_run (h4 : a % 4 = 0) (hr : a + 4 ≤ 2 ^ 32) :
    memRead a s = runAccesses s.hw.regions [(a, s)] (.ok (readWord s.mem a) s) :=
  runAccesses_bind (busCheck_run h4 hr) _

theorem memWrite_run (h4 : a % 4 = 0) (hr : a + 4 ≤ 2 ^ 32) (w : Word) :
    memWrite a w s = runAccesses s.hw.regions [(a, s)] (.ok () { s with mem := writeWord s.mem a w }) :=
  runAccesses_bind (busCheck_run h4 hr) _

end

section
variable {s : State} {l : LineRef}

/-- The addresses a read of a line accesses (44_delay.md R342). -/
def readAddrs (s : State) (l : LineRef) (d : Nat) (f : F32) : List Nat :=
  lineAddr s l (lineIndex s l d) :: if fEq f f0 then [] else [lineAddr s l (lineIndex s l (d + 1))]

/-- Each address of a list, from one state. -/
def accessFrom (s : State) (as : List Nat) : List (Nat × State) := as.map fun a => (a, s)

@[simp] theorem accessFrom_nil (s : State) : accessFrom s [] = [] := rfl

@[simp] theorem accessFrom_cons (s : State) (a : Nat) (as : List Nat) :
    accessFrom s (a :: as) = (a, s) :: accessFrom s as := rfl

@[simp] theorem accessFrom_append (s : State) (as bs : List Nat) :
    accessFrom s (as ++ bs) = accessFrom s as ++ accessFrom s bs := List.map_append

theorem lineRead_run (h : LineOk s l) (d : Nat) :
    memRead (lineAddr s l (lineIndex s l d)) s = runAccesses s.hw.regions [(lineAddr s l (lineIndex s l d), s)]
      (.ok (readWord s.mem (lineAddr s l (lineIndex s l d))) s) :=
  memRead_run (lineAddr_mod h _) (lineAddr_top h (lineIndex_lt h d))

theorem dlRead_run (h : LineOk s l) (d : Nat) (f : F32) :
    dlRead l d f s = runAccesses s.hw.regions (accessFrom s (readAddrs s l d f)) (.ok (dlValue s l d f) s) := by
  unfold dlRead readAddrs dlValue
  rw [engine_bind_get, runAccesses_bind (lineRead_run h d)]
  by_cases hf : fEq f f0 = true
  · simp only [hf, if_true]
    rfl
  · simp only [hf, if_false, Bool.false_eq_true]
    rw [runAccesses_bind (lineRead_run h (d + 1)), ← runAccesses_append]
    rfl

theorem dlWrite_run (h : LineOk s l) (x : F32) :
    dlWrite l x s = runAccesses s.hw.regions [(lineAddr s l (lineCursor s l), s)] (.ok () (afterWrite s l x)) := by
  unfold dlWrite
  rw [engine_bind_get, runAccesses_bind (memWrite_run (lineAddr_mod h _) (lineAddr_top h h.cursor) x), engine_modify]
  cases l <;> rfl

/-- The accesses of a fill: each word from the state in which the words before it are filled (R343). -/
def fillAccesses (s : State) (a : Nat) (v : F32) (n : Nat) : List (Nat × State) :=
  (List.range n).map fun k => (a + 4 * k, { s with mem := fillMem s.mem a v k })

theorem fillWords_run (a : Nat) (v : F32) (n : Nat) (s : State) (h4 : a % 4 = 0) (hr : a + 4 * n ≤ 2 ^ 32) :
    fillWords a v n s =
      runAccesses s.hw.regions (fillAccesses s a v n) (.ok () { s with mem := fillMem s.mem a v n }) := by
  induction n generalizing a s with
  | zero => rfl
  | succ n ih =>
    have hsplit : fillAccesses s a v (n + 1) =
        [(a, s)] ++ fillAccesses { s with mem := writeWord s.mem a v } (a + 4) v n := by
      simp only [fillAccesses, List.range_succ_eq_map, List.map_cons, List.map_map, List.singleton_append]
      congr 1
      refine List.map_congr_left fun k _ => Prod.ext ?_ rfl
      simp only [Function.comp_apply]
      omega
    rw [hsplit]
    exact runAccesses_bind_run (memWrite_run h4 (by omega) v) (ih (a + 4) _ (by omega) (by omega))

theorem dlFill_run (h4 : lineBase s l % 4 = 0) (hr : lineBase s l + 4 * lineCap s l ≤ 2 ^ 32) (v : F32) :
    dlFill l v s = runAccesses s.hw.regions (fillAccesses s (lineBase s l) v (lineCap s l))
      (.ok () (setCursor { s with mem := fillMem s.mem (lineBase s l) v (lineCap s l) } l 0)) := by
  unfold dlFill
  rw [engine_bind_get, runAccesses_bind (fillWords_run _ v _ s h4 hr)]
  rfl

/-! ### The lines of a channel in use -/

/-- Lines of a channel whose unit's arena is laid out and bound are aligned and inside the address space, wherever their
cursors stand. -/
theorem line_laid (h : Inv s) {u : UnitId} {ch : Nat} (hb : (s.binding u ch).bound = true) (hl : l ∈ unitLines u ch) :
    lineBase s l % 4 = 0 ∧ lineBase s l + 4 * lineCap s l ≤ 2 ^ 32 := by
  have hsr := (((h.unit u).flags ch).2 hb).1
  have hpos : 0 < lineCap s l := lineCap_pos ((h.unit u).layout hsr) hl
  have hseek : HookStep s (setCursor s l 0) := hookStep_setCursor s l fun _ => hpos
  have hb' : ((setCursor s l 0).binding u ch).bound = true := by rwa [binding_congr hseek.binds]
  have hcur : lineCursor (setCursor s l 0) l < lineCap (setCursor s l 0) l := by
    rwa [lineCursor_setCursor_zero, lineCap_setCursor]
  have hok : LineOk (setCursor s l 0) l := by
    cases u with
    | delay =>
      obtain rfl := List.mem_singleton.1 hl
      exact lineOk_delay (hseek.inv h) hb' hcur
    | reverb =>
      obtain ⟨j, -, rfl⟩ := List.mem_map.1 hl
      exact lineOk_reverb (hseek.inv h) hb' j hcur
    | _ => cases hl
  rw [← lineBase_setCursor l 0, ← lineCap_setCursor l 0]
  exact ⟨hok.base, hok.top⟩

/-- Every line of an admitted channel is in range, its cursor inside (R340). -/
theorem lineOk_of_admitted (h : Inv s) {u : UnitId} {ch : Nat} (ha : admitted s u ch) (hl : l ∈ unitLines u ch) :
    LineOk s l := by
  obtain ⟨-, -, hbound, hvalid⟩ := ha
  have hm : hasMemory u = true := by cases u <;> first | rfl | cases hl
  obtain ⟨hbase, htop⟩ := line_laid h (hbound hm) hl
  obtain ⟨-, -, hin⟩ := ((((h.unit u).flags ch).1 hvalid).2 hm)
  exact ⟨hbase, htop, (cursorsInside_iff s u ch).1 hin l hl⟩

end

end Sys2Proof.Machine
end

-- ==== Proofs: bus errors of DELAY ====
section
/-! PROOFS. The accesses of DELAY's commands (44_delay.md R350 to R353), and of any command around its channel's hook. -/

namespace Sys2Proof.Machine
open Sys2Proof.Config

variable {s t : State} {u : UnitId} {ch : BitVec 6} {rs : List Region} {accs : List (Nat × State)}

/-! ### The commands around the hooks -/

/-- PROCESS1 of an admitted channel and finite samples accesses what its hook accesses. -/
theorem cmdProcess1_accesses (h : admitted s u ch.toNat) (hf : ∀ v ∈ sampleArgs u s.win, isFinite v = true)
    {ys : List F32}
    (hhook : process1Hook u ch.toNat (sampleArgs u s.win) s = runAccesses rs accs (.ok ys t)) :
    cmdProcess1 u ch s = runAccesses rs accs (.ok () (t.setResults ys)) := by
  rw [cmdProcess1, engine_bind_ok (admitChannel_pass u ch s h), engine_bind_get,
    engine_bind_ok (requireFinite_pass s hf), runAccesses_bind hhook]
  rfl

/-- RESET_STATE of a channel that passes its checks accesses what its hook accesses. -/
theorem cmdResetState_accesses (hc : ch.toNat < s.hw.nCh) (hl : (s.regs.get u).life = .ready)
    (hb : hasMemory u = true → (s.binding u ch.toNat).bound = true) (hf : ∀ v ∈ sampleArgs u s.win, isFinite v = true)
    {ys : List F32}
    (hhook : resetStateHook u ch.toNat (sampleArgs u s.win) (s.beforeSeed u ch.toNat) =
      runAccesses rs accs (.ok ys t)) :
    cmdResetState u ch s = runAccesses rs accs (.ok () ((t.setStValid u ch.toNat true).setResults ys)) := by
  rw [cmdResetState, engine_check (requireChannel_run ch s), if_pos hc, engine_check (requireLife_run u _ s),
    if_pos ((lifeReady_eq _).2 hl), engine_check (requireBound_run u ch.toNat s), if_pos hb, engine_bind_get,
    engine_bind_ok (requireFinite_pass s hf), engine_bind_modify]
  exact runAccesses_bind hhook _

/-- The state RESET_STATE's hook starts from has the invariant: where the channel has memory, it is marked invalid. -/
theorem inv_beforeSeed (h : Inv s) (u : UnitId) (ch : Nat) : Inv (s.beforeSeed u ch) :=
  inv_setStValid h fun hb => by
    obtain ⟨hv, hm⟩ := Bool.and_eq_true_iff.1 hb
    obtain ⟨hsr, -⟩ := ((h.unit u).flags ch).1 hv
    exact ⟨hsr, fun hmem => by simp [hmem] at hm⟩

theorem beforeSeed_delay (s : State) (ch : Nat) :
    s.beforeSeed .delay ch = { s with valid := { s.valid with delay := s.valid.delay.set ch false } } := by
  simp [State.beforeSeed, hasMemory, State.setStValid, PerUnit.set, PerUnit.get]

theorem beforeSeed_reverb (s : State) (ch : Nat) :
    s.beforeSeed .reverb ch = { s with valid := { s.valid with reverb := s.valid.reverb.set ch false } } := by
  simp [State.beforeSeed, hasMemory, State.setStValid, PerUnit.set, PerUnit.get]

/-! ### DELAY's hooks -/

/-- A write keeps a line in range: the cursor advances inside it (R341). -/
theorem lineOk_afterWrite {l : LineRef} (h : LineOk s l) (x : F32) : LineOk (afterWrite s l x) l := by
  have hcap : 0 < lineCap s l := Nat.zero_lt_of_lt h.cursor
  have hstep := channelRel_hookStep.line s l x (lineAddr_mod h _) (lineAddr_top h h.cursor)
  refine ⟨?_, ?_, hstep.cursors l h.cursor⟩
  · rw [afterWrite, lineBase_setCursor]
    cases l <;> exact h.base
  · rw [afterWrite, lineBase_setCursor, lineCap_setCursor]
    cases l <;> exact h.top

theorem delayStep_run {ch : Nat} (h : LineOk s (.delay ch)) (x : F32) :
    delayStep ch x s = runAccesses s.hw.regions
      ((lineAddr s (.delay ch) (lineCursor s (.delay ch)), s) ::
        accessFrom (afterWrite s (.delay ch) x)
          (readAddrs (afterWrite s (.delay ch) x) (.delay ch) (s.coefs.delay.di.toNat + 1) s.coefs.delay.df))
      (.ok [dlValue (afterWrite s (.delay ch) x) (.delay ch) (s.coefs.delay.di.toNat + 1) s.coefs.delay.df]
        (afterWrite s (.delay ch) x)) := by
  have hread := dlRead_run (lineOk_afterWrite h x) (s.coefs.delay.di.toNat + 1) s.coefs.delay.df
  refine runAccesses_bind_run (dlWrite_run h x) ?_
  rw [engine_bind_get]
  exact runAccesses_bind hread _

theorem delayReset_run {ch : Nat} (h4 : lineBase s (.delay ch) % 4 = 0)
    (hr : lineBase s (.delay ch) + 4 * lineCap s (.delay ch) ≤ 2 ^ 32) (x : F32) :
    delayReset ch x s = runAccesses s.hw.regions
      (fillAccesses s (lineBase s (.delay ch)) x (lineCap s (.delay ch)))
      (.ok [x] (setCursor { s with mem := fillMem s.mem (lineBase s (.delay ch)) x (lineCap s (.delay ch)) }
        (.delay ch) 0)) :=
  runAccesses_bind (dlFill_run h4 hr x) _

/-! ### DELAY's commands -/

theorem delayLineOk (h : Inv s) {ch : Nat} (ha : admitted s .delay ch) : LineOk s (.delay ch) :=
  lineOk_of_admitted h ha (List.mem_singleton.2 rfl)

theorem cmdDelayWrite_accesses (h : Inv s) (ha : admitted s .delay ch.toNat) (hf : isFinite s.win.arg0 = true) :
    cmdDelayWrite ch s = runAccesses s.hw.regions
      [(lineAddr s (.delay ch.toNat) (lineCursor s (.delay ch.toNat)), s)]
      (.ok () (afterWrite s (.delay ch.toNat) s.win.arg0)) := by
  rw [cmdDelayWrite, engine_bind_ok (admitChannel_pass .delay ch s ha), engine_bind_get, hf, require_true,
    engine_bind_pure, dlWrite_run (delayLineOk h ha)]

theorem okFraction_iff {f : F32} (hf : isFinite f = true) :
    okFraction f = true ↔ 0 ≤ scaled f ∧ scaled f < 2 ^ 149 := by
  have hnan := isNaN_of_isFinite hf
  rw [okFraction, hf, Bool.true_and, Bool.and_eq_true, f0_fLe_iff, fLt_iff hnan, scaled_f1]
  exact ⟨fun h => ⟨h.1.2, h.2.2⟩, fun h => ⟨⟨hnan, h.1⟩, isNaN_f1, h.2⟩⟩

theorem fEq_f0_iff {f : F32} (hf : isFinite f = true) : fEq f f0 = true ↔ scaled f = 0 := by
  rw [fEq_iff (isNaN_of_isFinite hf), scaled_f0]
  exact ⟨fun h => h.2, fun h => ⟨isNaN_f0, h⟩⟩

theorem cmdDelayRead_accesses (h : Inv s) (ha : admitted s .delay ch.toNat) (hf : okFraction s.win.arg1 = true)
    (hlo : 1 ≤ s.win.arg0.toNat) (hhi : s.win.arg0.toNat ≤ readLimit s.coefs.delay.len s.win.arg1) :
    cmdDelayRead ch s = runAccesses s.hw.regions
      (accessFrom s (readAddrs s (.delay ch.toNat) s.win.arg0.toNat s.win.arg1))
      (.ok () (s.setRes0 (dlValue s (.delay ch.toNat) s.win.arg0.toNat s.win.arg1))) := by
  rw [cmdDelayRead, engine_bind_ok (admitChannel_pass .delay ch s ha), engine_bind_get, hf, require_true,
    engine_bind_pure, decide_eq_true hlo, decide_eq_true hhi, Bool.and_true, require_true, engine_bind_pure]
  exact runAccesses_bind (dlRead_run (delayLineOk h ha) _ _) _

/-! ### The accesses that fail -/

/-- A word of a read that fails, its first or, that one answered, its second. -/
theorem readAddrs_split {l : LineRef} {d : Nat} {f : F32} {a : Nat}
    (ha : a = lineAddr s l (lineIndex s l d) ∨ (fEq f f0 = false ∧ ordinary s (lineAddr s l (lineIndex s l d)) 4 ∧
      a = lineAddr s l (lineIndex s l (d + 1)))) :
    ∃ before after, accessFrom s (readAddrs s l d f) = before ++ (a, s) :: after ∧
      ∀ p ∈ before, ordinary s p.1 4 := by
  rcases ha with rfl | ⟨hf, ho, rfl⟩
  · exact ⟨[], _, rfl, fun _ h => nomatch h⟩
  · refine ⟨[(lineAddr s l (lineIndex s l d), s)], [], ?_, fun p hp => ?_⟩
    · simp [readAddrs, hf]
    · rw [List.mem_singleton.1 hp]
      exact ho

/-- Word `k` of a fill fails, the words before it answered (R343). -/
theorem fillAccesses_split (s : State) (a : Nat) (v : F32) {n k : Nat} (hk : k < n) :
    ∃ after, fillAccesses s a v n = fillAccesses s a v k ++ (a + 4 * k, { s with mem := fillMem s.mem a v k }) :: after := by
  obtain ⟨d, rfl⟩ : ∃ d, n = k + (d + 1) := ⟨n - k - 1, by omega⟩
  rw [fillAccesses, List.range_add, List.map_append, List.range_succ_eq_map, List.map_cons, List.map_cons]
  exact ⟨_, rfl⟩

theorem fillAccesses_ordinary {rs : List Region} {a n : Nat} {v : F32}
    (h : ∀ k, k < n → regionAt rs (a + 4 * k) 4 = none) : ∀ p ∈ fillAccesses s a v n, regionAt rs p.1 4 = none := by
  intro p hp
  obtain ⟨k, hk, rfl⟩ := List.mem_map.1 hp
  exact h k (List.mem_range.1 hk)

/-- DELAY_WRITE and PROCESS1 of DELAY at their store (44_delay.md R351, R353). -/
theorem delayStore_busError (h : Inv s) (hf : isFinite s.win.arg0 = true) (ha : admitted s .delay ch.toNat)
    (hb : busFails s (lineAddr s (.delay ch.toNat) (lineCursor s (.delay ch.toNat)))) {i : Instr}
    (hi : i = .delayWriteDelay ch ∨ i = .process1Delay ch) :
    exec i s = .next (enterFault (encode i) .busError
      (BitVec.ofNat 32 (lineAddr s (.delay ch.toNat) (lineCursor s (.delay ch.toNat)))) 0 s) := by
  have none_before : ∀ p ∈ ([] : List (Nat × State)), regionAt s.hw.regions p.1 4 = none := fun _ h => nomatch h
  rcases hi with rfl | rfl
  · exact runCommand_busError (cmdDelayWrite_accesses h ha hf) none_before hb
  · have hargs : ∀ v ∈ sampleArgs .delay s.win, isFinite v = true := sampleArgs_finite .delay s.win hf (nomatch ·)
    have hhook := cmdProcess1_accesses ha hargs (delayStep_run (delayLineOk h ha) _)
    exact runCommand_busError hhook none_before hb

/-- DELAY_READ at a load (R352). -/
theorem delayRead_busError (h : Inv s) (ha : admitted s .delay ch.toNat) (hf : okFraction s.win.arg1 = true)
    (hlo : 1 ≤ s.win.arg0.toNat) (hhi : s.win.arg0.toNat ≤ readLimit s.coefs.delay.len s.win.arg1) {a : Nat}
    (hb : busFails s a)
    (hsplit : a = lineAddr s (.delay ch.toNat) (lineIndex s (.delay ch.toNat) s.win.arg0.toNat) ∨
      (fEq s.win.arg1 f0 = false ∧
        ordinary s (lineAddr s (.delay ch.toNat) (lineIndex s (.delay ch.toNat) s.win.arg0.toNat)) 4 ∧
        a = lineAddr s (.delay ch.toNat) (lineIndex s (.delay ch.toNat) (s.win.arg0.toNat + 1)))) :
    exec (.delayReadDelay ch) s =
      .next (enterFault (encode (.delayReadDelay ch)) .busError (BitVec.ofNat 32 a) 0 s) := by
  obtain ⟨before, after, haccs, ho⟩ := readAddrs_split hsplit
  have hrun := cmdDelayRead_accesses h ha hf hlo hhi
  rw [haccs] at hrun
  exact runCommand_busError hrun ho hb

/-- PROCESS1 of DELAY at a load: its word is stored and its cursor advanced (R351). -/
theorem delayLoad_busError (h : Inv s) (hf : isFinite s.win.arg0 = true) (ha : admitted s .delay ch.toNat)
    (hstore : ordinary s (lineAddr s (.delay ch.toNat) (lineCursor s (.delay ch.toNat))) 4) {a : Nat}
    (hb : busFails s a) {d : Nat} (hd : d = s.coefs.delay.di.toNat + 1)
    (hsplit : a = lineAddr (afterWrite s (.delay ch.toNat) s.win.arg0) (.delay ch.toNat)
        (lineIndex (afterWrite s (.delay ch.toNat) s.win.arg0) (.delay ch.toNat) d) ∨
      (fEq s.coefs.delay.df f0 = false ∧
        ordinary (afterWrite s (.delay ch.toNat) s.win.arg0)
          (lineAddr (afterWrite s (.delay ch.toNat) s.win.arg0) (.delay ch.toNat)
            (lineIndex (afterWrite s (.delay ch.toNat) s.win.arg0) (.delay ch.toNat) d)) 4 ∧
        a = lineAddr (afterWrite s (.delay ch.toNat) s.win.arg0) (.delay ch.toNat)
          (lineIndex (afterWrite s (.delay ch.toNat) s.win.arg0) (.delay ch.toNat) (d + 1)))) :
    exec (.process1Delay ch) s = .next (enterFault (encode (.process1Delay ch)) .busError (BitVec.ofNat 32 a) 0
      (afterWrite s (.delay ch.toNat) s.win.arg0)) := by
  subst hd
  obtain ⟨before, after, haccs, ho⟩ := readAddrs_split hsplit
  have hargs : ∀ v ∈ sampleArgs .delay s.win, isFinite v = true := sampleArgs_finite .delay s.win hf (nomatch ·)
  have hrun := cmdProcess1_accesses ha hargs (delayStep_run (delayLineOk h ha) s.win.arg0)
  rw [haccs, ← List.cons_append] at hrun
  exact runCommand_busError hrun (List.forall_mem_cons.2 ⟨hstore, ho⟩) hb

/-- RESET_STATE of DELAY at word `k` of its line (R350; 40_protocol.md R145). -/
theorem delayFill_busError (h : Inv s) (hf : isFinite s.win.arg0 = true) (hc : ch.toNat < s.hw.nCh)
    (hl : s.regs.delay.life = .ready) (hbound : (s.binding .delay ch.toNat).bound = true) {k : Nat}
    (hk : k < s.coefs.delay.len.toNat) (ho : ∀ j, j < k → ordinary s (arenaBase s .delay ch.toNat + 4 * j) 4)
    (hb : busFails s (arenaBase s .delay ch.toNat + 4 * k)) :
    exec (.resetStateDelay ch) s = .next (enterFault (encode (.resetStateDelay ch)) .busError
      (BitVec.ofNat 32 (arenaBase s .delay ch.toNat + 4 * k)) 0
      { s with
        mem := fillMem s.mem (arenaBase s .delay ch.toNat) s.win.arg0 k
        valid := { s.valid with delay := s.valid.delay.set ch.toNat false } }) := by
  have hstart := inv_beforeSeed h .delay ch.toNat
  have hargs : ∀ v ∈ sampleArgs .delay s.win, isFinite v = true := sampleArgs_finite .delay s.win hf (nomatch ·)
  obtain ⟨h4, hr⟩ := line_laid hstart (u := .delay) (ch := ch.toNat) hbound (List.mem_singleton.2 rfl)
  have hrun := cmdResetState_accesses (u := .delay) hc hl (fun _ => hbound) hargs (delayReset_run h4 hr s.win.arg0)
  obtain ⟨after, hsplit⟩ := fillAccesses_split (s.beforeSeed .delay ch.toNat)
    (lineBase (s.beforeSeed .delay ch.toNat) (.delay ch.toNat)) s.win.arg0
    (show k < lineCap (s.beforeSeed .delay ch.toNat) (.delay ch.toNat) from hk)
  rw [hsplit] at hrun
  refine (runCommand_busError hrun (fillAccesses_ordinary ho) hb).trans ?_
  rw [beforeSeed_delay]
  rfl

end Sys2Proof.Machine
end

-- ==== Proofs: RESET_STATE of REVERB ====
section
/-! PROOFS. The accesses of RESET_STATE of REVERB (45_reverb.md R390): its thirteen fills one after the other, each with
the filter state that R390 writes after it. -/

namespace Sys2Proof.Machine
open Sys2Proof.Config

variable {s : State}

/-! ### The taps -/

theorem dlRead_f0_run {ch : Nat} {j : RevLine} (h : LineOk s (.reverb ch j)) (d : Nat) :
    dlRead (.reverb ch j) d f0 s = runAccesses s.hw.regions [(lineAt s ch j d, s)] (.ok (lineWord s ch j d) s) :=
  dlRead_run h d f0

/-- The addresses of the taps of one output (R391). -/
def tapAddrs (s : State) (ch : Nat) (tap : PerTap RevTap) (k : PerTap Word) (ts : List TapIx) : List Nat :=
  ts.map fun x => lineAt s ch (tap.get x).line (k.get x).toNat

theorem readTaps_run {ch : Nat} (h : ∀ j, LineOk s (.reverb ch j)) (tap : PerTap RevTap) (k : PerTap Word)
    (ts : List TapIx) :
    readTaps ch tap k ts s = runAccesses s.hw.regions (accessFrom s (tapAddrs s ch tap k ts))
      (.ok (ts.map fun x => ((tap.get x).plus, lineWord s ch (tap.get x).line (k.get x).toNat)) s) := by
  induction ts with
  | nil => rfl
  | cons x ts ih =>
    refine runAccesses_bind_run (dlRead_f0_run (h _) _) ?_
    exact runAccesses_bind ih _

/-- The addresses of the taps of both outputs. -/
def allTapAddrs (s : State) (ch : Nat) : List Nat :=
  tapAddrs s ch s.hw.revTable.tapL s.coefs.reverb.tapLK tapOrder ++
    tapAddrs s ch s.hw.revTable.tapR s.coefs.reverb.tapRK tapOrder

theorem taps_run {ch : Nat} (h : ∀ j, LineOk s (.reverb ch j)) :
    taps ch s = runAccesses s.hw.regions (accessFrom s (allTapAddrs s ch))
      (.ok (tapMix (lineWord s ch) s.hw.revTable.tapL s.coefs.reverb.tapLK,
        tapMix (lineWord s ch) s.hw.revTable.tapR s.coefs.reverb.tapRK) s) := by
  rw [taps, engine_bind_get, runAccesses_bind (readTaps_run h _ _ tapOrder),
    runAccesses_bind (readTaps_run h _ _ tapOrder), ← runAccesses_append, ← accessFrom_append]
  rfl

/-! ### The hook, line by line -/

/-- The filter state R390 writes once a line is filled, if it writes one. -/
def seedFilter (ch : Nat) (v : PerLine F32) : RevLine → Engine Unit
  | .pd => modifyReverbChan ch fun st => { st with bwZ1 := v.pd }
  | .dlL1 => modifyReverbChan ch fun st => { st with dlZ1 := v.dlL1 }
  | .dlR1 => modifyReverbChan ch fun st => { st with drZ1 := v.dlR1 }
  | _ => pure ()

/-- The fill of a line, and the filter state after it. -/
def seedLine (ch : Nat) (v : PerLine F32) (j : RevLine) : Engine Unit := do
  dlFill (.reverb ch j) (v.get j)
  seedFilter ch v j

/-- The fills of a list of lines in order. -/
def seedLines (ch : Nat) (v : PerLine F32) : List RevLine → Engine Unit
  | [] => pure ()
  | j :: js => do
    seedLine ch v j
    seedLines ch v js

/-- RESET_STATE's hook is the thirteen fills, then the taps. -/
theorem reverbReset_eq (ch : Nat) (xl xr : F32) (s : State) :
    reverbReset ch xl xr s = (do
      seedLines ch (reverbSeed s.coefs.reverb xl xr) revLines
      let y ← taps ch
      pure [y.1, y.2] : Engine (List F32)) s := by
  unfold reverbReset
  rw [engine_bind_get]
  simp only [revLines, seedLines, seedLine, seedFilter, bind_assoc, bind_pure_unit]
  rfl

/-! ### The state after some fills -/

theorem set_self_chan (s : State) (ch : Nat) :
    s.chans.reverb.set ch (s.chans.reverb.getD ch {}) = s.chans.reverb := by
  by_cases hc : ch < s.chans.reverb.length
  · simp [List.getD_eq_getElem?_getD, hc]
  · exact List.set_eq_of_length_le (Nat.not_lt.1 hc)

/-- A channel's registers once the lines of a list are filled (R390). -/
def seedOf (v : PerLine F32) (st : ReverbState) (ls : List RevLine) : ReverbState where
  bwZ1 := if .pd ∈ ls then v.pd else st.bwZ1
  dlZ1 := if .dlL1 ∈ ls then v.dlL1 else st.dlZ1
  drZ1 := if .dlR1 ∈ ls then v.dlR1 else st.drZ1
  w := PerLine.of fun l => if l ∈ ls then 0 else st.w.get l

/-- The memory with a line filled. -/
def fillLine (s : State) (ch : Nat) (v : PerLine F32) (m : List Host.Cell) (j : RevLine) : List Host.Cell :=
  fillMem m (lineBase s (.reverb ch j)) (v.get j) (lineCap s (.reverb ch j))

/-- The state once the lines of a list are filled. -/
def seeded (s : State) (ch : Nat) (v : PerLine F32) (ls : List RevLine) : State :=
  { s with
    mem := ls.foldl (fillLine s ch v) s.mem
    chans := { s.chans with reverb := s.chans.reverb.set ch (seedOf v (s.chans.reverb.getD ch {}) ls) } }

theorem PerLine.set_of {α : Type} (f : RevLine → α) (j : RevLine) (x : α) :
    (PerLine.of f).set j x = PerLine.of fun l => if l = j then x else f l := by cases j <;> rfl

/-- One more line filled: its cursor at 0, and the filter state that follows it. -/
theorem seedFilter_seeded (s : State) (ch : Nat) (v : PerLine F32) (ls : List RevLine) (j : RevLine)
    (hc : ch < s.chans.reverb.length) :
    seedFilter ch v j (setCursor { seeded s ch v ls with
      mem := fillLine s ch v (seeded s ch v ls).mem j } (.reverb ch j) 0) = .ok () (seeded s ch v (ls ++ [j])) := by
  cases j <;> simp [seedFilter, modifyReverbChan, setCursor, State.setReverbChan, seeded, seedOf,
    List.getD_eq_getElem?_getD, hc, PerLine.set_of, or_comm, ite_or]

section
variable {s : State} {ch : Nat} {v : PerLine F32}

theorem seeded_nil (s : State) (ch : Nat) (v : PerLine F32) : seeded s ch v [] = s := by
  have hst : seedOf v (s.chans.reverb.getD ch {}) [] = s.chans.reverb.getD ch {} := rfl
  rw [seeded, hst, set_self_chan]
  rfl

/-- The accesses of the fill of a line after the fills of others. -/
def seedLineAccesses (s : State) (ch : Nat) (v : PerLine F32) (done : List RevLine) (j : RevLine) :
    List (Nat × State) :=
  fillAccesses (seeded s ch v done) (lineBase s (.reverb ch j)) (v.get j) (lineCap s (.reverb ch j))

/-- The accesses of the fills of a list of lines after the fills of others. -/
def seedAccesses (s : State) (ch : Nat) (v : PerLine F32) (done : List RevLine) : List RevLine → List (Nat × State)
  | [] => []
  | j :: js => seedLineAccesses s ch v done j ++ seedAccesses s ch v (done ++ [j]) js

/-- The lines of a REVERB channel are aligned and inside the address space. -/
def LinesLaid (s : State) (ch : Nat) : Prop :=
  ∀ j, lineBase s (.reverb ch j) % 4 = 0 ∧ lineBase s (.reverb ch j) + 4 * lineCap s (.reverb ch j) ≤ 2 ^ 32

theorem seedLine_run (hlaid : LinesLaid s ch) (hc : ch < s.chans.reverb.length) (done : List RevLine) (j : RevLine) :
    seedLine ch v j (seeded s ch v done) =
      runAccesses s.hw.regions (seedLineAccesses s ch v done j) (.ok () (seeded s ch v (done ++ [j]))) := by
  obtain ⟨h4, hr⟩ := hlaid j
  rw [seedLine, runAccesses_bind (dlFill_run (s := seeded s ch v done) (l := .reverb ch j) h4 hr (v.get j))]
  exact congrArg _ (seedFilter_seeded s ch v done j hc)

theorem seedLines_run (hlaid : LinesLaid s ch) (hc : ch < s.chans.reverb.length) (done js : List RevLine) :
    seedLines ch v js (seeded s ch v done) =
      runAccesses s.hw.regions (seedAccesses s ch v done js) (.ok () (seeded s ch v (done ++ js))) := by
  induction js generalizing done with
  | nil => rw [List.append_nil]; rfl
  | cons j js ih =>
    rw [← List.singleton_append, ← List.append_assoc]
    exact runAccesses_bind_run (seedLine_run hlaid hc done j) (ih (done ++ [j]))

theorem seedAccesses_append (done js ks : List RevLine) :
    seedAccesses s ch v done (js ++ ks) = seedAccesses s ch v done js ++ seedAccesses s ch v (done ++ js) ks := by
  induction js generalizing done with
  | nil => rw [List.append_nil]; rfl
  | cons j js ih =>
    rw [List.cons_append, seedAccesses, seedAccesses, ih, List.append_assoc, List.append_assoc]
    rfl

theorem seedAccesses_ordinary {rs : List Region} {js : List RevLine} (done : List RevLine)
    (h : ∀ l ∈ js, ∀ k, k < lineCap s (.reverb ch l) → regionAt rs (lineBase s (.reverb ch l) + 4 * k) 4 = none) :
    ∀ p ∈ seedAccesses s ch v done js, regionAt rs p.1 4 = none := by
  induction js generalizing done with
  | nil => exact fun _ hp => nomatch hp
  | cons j js ih =>
    refine fun p hp => (List.mem_append.1 hp).elim (fun hp => ?_) fun hp => ?_
    · exact fillAccesses_ordinary (h j (by simp)) p hp
    · exact ih _ (fun l hl => h l (by simp [hl])) p hp

/-! ### The memory after some fills -/

theorem wf_fillLine (hlaid : LinesLaid s ch) (m : List Host.Cell) (j : RevLine) (hm : Memory.wf m = true) :
    Memory.wf (fillLine s ch v m j) = true := wf_fillMem _ _ _ _ (hlaid j).2 hm

theorem wf_fillLines (hlaid : LinesLaid s ch) (ls : List RevLine) (m : List Host.Cell) (hm : Memory.wf m = true) :
    Memory.wf (ls.foldl (fillLine s ch v) m) = true := by
  induction ls generalizing m with
  | nil => exact hm
  | cons j js ih => exact ih _ (wf_fillLine hlaid m j hm)

/-- A byte outside the lines filled reads as before. -/
theorem readByte_fillLines_other {ls : List RevLine} {a : Nat} (m : List Host.Cell)
    (h : ∀ l ∈ ls, a < lineBase s (.reverb ch l) ∨ lineBase s (.reverb ch l) + 4 * lineCap s (.reverb ch l) ≤ a) :
    readByte (ls.foldl (fillLine s ch v) m) a = readByte m a := by
  induction ls generalizing m with
  | nil => rfl
  | cons j js ih =>
    rw [List.foldl_cons, ih _ fun l hl => h l (by simp [hl]), fillLine, readByte_fillMem_other _ _ _ _ _ (h j (by simp))]

/-- A word of a line that is not filled reads as before. -/
theorem readWord_fillLines_other (hlay : reverbLayout s.coefs.reverb) {ls : List RevLine} {k : RevLine} {x : Nat}
    (m : List Host.Cell) (hx : x < lineCap s (.reverb ch k)) (hk : k ∉ ls) :
    readWord (ls.foldl (fillLine s ch v) m) (lineBase s (.reverb ch k) + 4 * x) =
      readWord m (lineBase s (.reverb ch k) + 4 * x) := by
  induction ls generalizing m with
  | nil => rfl
  | cons j js ih =>
    obtain ⟨hne, hk⟩ := not_or.1 (fun h => hk (List.mem_cons.2 h))
    have hapart := reverb_lines_apart (s := s) hlay ch hne
    rw [List.foldl_cons, ih _ hk, fillLine, readWord_fillMem_other _ _ _ _ _ (by omega)]

/-- A word of a line that is filled reads as the line's value. -/
theorem readWord_fillLines (hlay : reverbLayout s.coefs.reverb) (hlaid : LinesLaid s ch) {ls : List RevLine}
    {k : RevLine} {x : Nat} (m : List Host.Cell) (hm : Memory.wf m = true) (hx : x < lineCap s (.reverb ch k))
    (hk : k ∈ ls) : readWord (ls.foldl (fillLine s ch v) m) (lineBase s (.reverb ch k) + 4 * x) = v.get k := by
  induction ls generalizing m with
  | nil => cases hk
  | cons j js ih =>
    rw [List.foldl_cons]
    by_cases hmem : k ∈ js
    · exact ih _ (wf_fillLine hlaid m j hm) hmem
    · obtain rfl : k = j := (List.mem_cons.1 hk).resolve_right hmem
      rw [readWord_fillLines_other hlay _ hx hmem]
      exact readWord_fillMem _ _ m _ x (hlaid k).2 hm hx

end

/-! ### The command -/

theorem linesLaid (h : Inv s) {ch : Nat} (hb : (s.binding .reverb ch).bound = true) : LinesLaid s ch :=
  fun j => line_laid h hb (List.mem_map_of_mem (mem_revLines j))

theorem reverbLayout_of_bound (h : Inv s) {ch : Nat} (hb : (s.binding .reverb ch).bound = true) :
    reverbLayout s.coefs.reverb := (h.unit .reverb).layout (((h.unit .reverb).flags ch).2 hb).1

theorem mem_linesBefore_prefix : ∀ j ∈ revLines, ∀ l ∈ linesBefore j, linesBefore l ++ [l] <+: linesBefore j := by decide

/-- A line before another ends before it begins (R375). -/
theorem line_before (hlay : reverbLayout s.coefs.reverb) (ch : Nat) {j l : RevLine} (hl : l ∈ linesBefore j) :
    lineBase s (.reverb ch l) + 4 * lineCap s (.reverb ch l) ≤ lineBase s (.reverb ch j) := by
  obtain ⟨r, hr⟩ := mem_linesBefore_prefix j (mem_revLines j) l hl
  obtain ⟨-, hoff, -⟩ := hlay
  show _ + (s.coefs.reverb.off.get l).toNat + 4 * (s.coefs.reverb.cap.get l).toNat ≤
    _ + (s.coefs.reverb.off.get j).toNat
  have hsum : capSum s.coefs.reverb (linesBefore j) =
      capSum s.coefs.reverb (linesBefore l) + (s.coefs.reverb.cap.get l).toNat + capSum s.coefs.reverb r := by
    rw [← hr]
    simp [capSum, Nat.add_assoc]
  rw [hoff, hoff]
  omega

theorem revLines_split : ∀ j ∈ revLines, linesBefore j ++ j :: revLines.drop ((linesBefore j).length + 1) = revLines := by
  decide

theorem lineCursor_seeded {ch : Nat} (hc : ch < s.chans.reverb.length) (v : PerLine F32) (ls : List RevLine)
    (j : RevLine) :
    lineCursor (seeded s ch v ls) (.reverb ch j) = if j ∈ ls then 0 else lineCursor s (.reverb ch j) := by
  have hget : ((seeded s ch v ls).chans.reverb.getD ch {}) = seedOf v (s.chans.reverb.getD ch {}) ls := by
    simp [seeded, List.getD_eq_getElem?_getD, hc]
  rw [lineCursor, hget, seedOf, PerLine.get_of]
  split <;> rfl

/-- RESET_STATE's hook, by its accesses: every fill, then the taps of the lines filled. -/
theorem reverbReset_run {ch : Nat} (hlay : reverbLayout s.coefs.reverb) (hlaid : LinesLaid s ch)
    (hc : ch < s.chans.reverb.length) (xl xr : F32) :
    ∃ ys, reverbReset ch xl xr s = runAccesses s.hw.regions
      (seedAccesses s ch (reverbSeed s.coefs.reverb xl xr) [] revLines ++
        accessFrom (seeded s ch (reverbSeed s.coefs.reverb xl xr) revLines)
          (allTapAddrs (seeded s ch (reverbSeed s.coefs.reverb xl xr) revLines) ch))
      (.ok ys (seeded s ch (reverbSeed s.coefs.reverb xl xr) revLines)) := by
  have hlines := seedLines_run (v := reverbSeed s.coefs.reverb xl xr) hlaid hc [] revLines
  rw [seeded_nil] at hlines
  have hok : ∀ j, LineOk (seeded s ch (reverbSeed s.coefs.reverb xl xr) revLines) (.reverb ch j) := by
    intro j
    obtain ⟨h4, hr⟩ := hlaid j
    refine ⟨h4, hr, ?_⟩
    rw [lineCursor_seeded hc, if_pos (mem_revLines j)]
    exact hlay.1 j
  rw [reverbReset_eq]
  exact ⟨_, runAccesses_bind_run hlines (runAccesses_bind (taps_run hok) _)⟩

/-- RESET_STATE's hook at word `k` of line `j`: the lines before it are filled, and so are its own first words. -/
theorem reverbReset_busError {ch : Nat} (hlay : reverbLayout s.coefs.reverb) (hlaid : LinesLaid s ch)
    (hc : ch < s.chans.reverb.length) (xl xr : F32) {v : PerLine F32} (hv : v = reverbSeed s.coefs.reverb xl xr)
    (j : RevLine) {k : Nat} (hk : k < lineCap s (.reverb ch j))
    (hbefore : ∀ l ∈ linesBefore j, ∀ x, x < lineCap s (.reverb ch l) →
      ordinary s (lineBase s (.reverb ch l) + 4 * x) 4)
    (hown : ∀ x, x < k → ordinary s (lineBase s (.reverb ch j) + 4 * x) 4)
    (hb : busFails s (lineBase s (.reverb ch j) + 4 * k)) :
    reverbReset ch xl xr s =
      .error (.trap .busError (BitVec.ofNat 32 (lineBase s (.reverb ch j) + 4 * k)) 0)
        { seeded s ch v (linesBefore j) with
          mem := fillMem (seeded s ch v (linesBefore j)).mem (lineBase s (.reverb ch j)) (v.get j) k } := by
  subst hv
  obtain ⟨ys, hrun⟩ := reverbReset_run hlay hlaid hc xl xr
  obtain ⟨after, hsplit⟩ := fillAccesses_split
    (seeded s ch (reverbSeed s.coefs.reverb xl xr) (linesBefore j)) (lineBase s (.reverb ch j))
    ((reverbSeed s.coefs.reverb xl xr).get j) hk
  rw [hrun, ← revLines_split j (mem_revLines j), seedAccesses_append, seedAccesses, List.nil_append,
    seedLineAccesses, hsplit]
  simp only [List.append_assoc, List.cons_append]
  rw [runAccesses_append, runAccesses_ordinary (seedAccesses_ordinary [] hbefore)]
  exact runAccesses_busError (fillAccesses_ordinary hown) hb _

theorem resetStateHook_reverb (ch : Nat) (xs : List F32) (s : State) :
    resetStateHook .reverb ch xs s = reverbReset ch (sample0 xs) (sample1 xs) s := by
  rw [resetStateHook, engine_bind_get]

/-- RESET_STATE of REVERB at word `k` of line `j`. -/
theorem reverbFill_busError (h : Inv s) {ch : BitVec 6} (hf0 : isFinite s.win.arg0 = true)
    (hf1 : isFinite s.win.arg1 = true) (hc : ch.toNat < s.hw.nCh) (hl : s.regs.reverb.life = .ready)
    (hbound : (s.binding .reverb ch.toNat).bound = true) {v : PerLine F32}
    (hv : v = reverbSeed s.coefs.reverb s.win.arg0 s.win.arg1) (j : RevLine) {k : Nat}
    (hk : k < lineCap s (.reverb ch.toNat j))
    (hbefore : ∀ l ∈ linesBefore j, ∀ x, x < lineCap s (.reverb ch.toNat l) →
      ordinary s (lineBase s (.reverb ch.toNat l) + 4 * x) 4)
    (hown : ∀ x, x < k → ordinary s (lineBase s (.reverb ch.toNat j) + 4 * x) 4)
    (hb : busFails s (lineBase s (.reverb ch.toNat j) + 4 * k)) :
    exec (.resetStateReverb ch) s = .next (enterFault (encode (.resetStateReverb ch)) .busError
      (BitVec.ofNat 32 (lineBase s (.reverb ch.toNat j) + 4 * k)) 0
      { s with
        mem := fillMem ((linesBefore j).foldl (fillLine s ch.toNat v) s.mem) (lineBase s (.reverb ch.toNat j))
          (v.get j) k
        valid := { s.valid with reverb := s.valid.reverb.set ch.toNat false }
        chans := { s.chans with
          reverb := s.chans.reverb.set ch.toNat (seedBefore v (s.chans.reverb.getD ch.toNat {}) j) } }) := by
  have hstart := inv_beforeSeed h .reverb ch.toNat
  have hargs : ∀ x ∈ sampleArgs .reverb s.win, isFinite x = true := sampleArgs_finite .reverb s.win hf0 fun _ => hf1
  obtain ⟨-, -, -, -, -, -, -, -, -, -, -, -, hcount⟩ := h.counts
  have hlen : ch.toNat < s.chans.reverb.length := hcount.symm ▸ hc
  have hrun := cmdResetState_run .reverb ch s hc hl (fun _ => hbound) hargs
  rw [beforeSeed_reverb] at hstart hrun
  have hhook := reverbReset_busError (reverbLayout_of_bound hstart (ch := ch.toNat) hbound)
    (linesLaid hstart hbound) hlen (sample0 (sampleArgs .reverb s.win)) (sample1 (sampleArgs .reverb s.win))
    hv j hk hbefore hown hb
  rw [resetStateHook_reverb, hhook] at hrun
  exact runCommand_trap hrun

end Sys2Proof.Machine
end

-- ==== Proofs: PROCESS1 of REVERB ====
section
/-! PROOFS. The accesses of one REVERB sample (45_reverb.md R391 to R393): at each of them the state is the one the
stages before it have made (`sampleAt`), and a line that is not yet written still reads as it did before the sample. -/

namespace Sys2Proof.Machine
open Sys2Proof.Config

/-! ### A channel whose lines are in use -/

/-- What one sample asks of its channel: it is one of the block's, its lines stand apart and in range, and memory is in its
one form. -/
structure ReverbInUse (s : State) (ch : Nat) : Prop where
  chan : ch < s.chans.reverb.length
  layout : reverbLayout s.coefs.reverb
  lines : ∀ j, LineOk s (.reverb ch j)
  mem : Memory.wf s.mem = true

theorem reverbInUse {s : State} (h : Inv s) {ch : Nat} (ha : admitted s .reverb ch) : ReverbInUse s ch where
  chan := by
    obtain ⟨-, -, -, -, -, -, -, -, -, -, -, -, hcount⟩ := h.counts
    rw [hcount]
    exact ha.2.1
  layout := reverbLayout_of_bound h (ha.2.2.1 rfl)
  lines j := lineOk_of_admitted h ha (List.mem_map_of_mem (mem_revLines j))
  mem := h.mem_wf

/-! ### The state after some stages of a sample -/

/-- The memory with the words of a list of lines written at their cursors. -/
def writeLines (s : State) (ch : Nat) (x : PerLine F32) (ws : List RevLine) : List Host.Cell :=
  ws.foldl (fun m j => writeWord m (lineNext s ch j) (x.get j)) s.mem

/-- The channel's registers with the cursors of a list of lines advanced, and these filter states. -/
def midChan (s : State) (ch : Nat) (ws : List RevLine) (bw dl dr : F32) : ReverbState where
  bwZ1 := bw
  dlZ1 := dl
  drZ1 := dr
  w := PerLine.of fun j =>
    if j ∈ ws then BitVec.ofNat 32 ((lineCursor s (.reverb ch j) + 1) % lineCap s (.reverb ch j))
    else (s.chans.reverb.getD ch {}).w.get j

/-- The state with the lines of a list written and advanced, and these filter states. -/
def midSample (s : State) (ch : Nat) (x : PerLine F32) (ws : List RevLine) (bw dl dr : F32) : State :=
  { s with
    mem := writeLines s ch x ws
    chans := { s.chans with reverb := s.chans.reverb.set ch (midChan s ch ws bw dl dr) } }

section
variable {s : State} {ch : Nat} {x : PerLine F32} {ws : List RevLine} {bw dl dr : F32} {j : RevLine}

theorem writeLines_append (s : State) (ch : Nat) (x : PerLine F32) (ws : List RevLine) (j : RevLine) :
    writeLines s ch x (ws ++ [j]) = writeWord (writeLines s ch x ws) (lineNext s ch j) (x.get j) := by
  simp [writeLines]

theorem lineNext_top (h : ReverbInUse s ch) (j : RevLine) : lineNext s ch j + 4 ≤ 2 ^ 32 :=
  lineAddr_top (h.lines j) (h.lines j).cursor

theorem wf_writeLines (h : ReverbInUse s ch) (x : PerLine F32) (ws : List RevLine) :
    Memory.wf (writeLines s ch x ws) = true := by
  induction ws using List.reverseRecOn with
  | nil => exact h.mem
  | append_singleton ws j ih =>
    rw [writeLines_append]
    exact wf_writeWord _ _ _ (lineNext_top h j) ih

/-- A word of a line after the writes: the word its line was written, where it is the one at the cursor. -/
theorem readWord_writeLines (h : ReverbInUse s ch) (x : PerLine F32) (ws : List RevLine) (j : RevLine) {i : Nat}
    (hi : i < lineCap s (.reverb ch j)) :
    readWord (writeLines s ch x ws) (lineAddr s (.reverb ch j) i) =
      if j ∈ ws ∧ i = lineCursor s (.reverb ch j) then x.get j else readWord s.mem (lineAddr s (.reverb ch j) i) := by
  induction ws using List.reverseRecOn with
  | nil => simp [writeLines]
  | append_singleton ws k ih =>
    have hwf := wf_writeLines h x ws
    have htop := lineNext_top h k
    rw [writeLines_append]
    by_cases hk : k = j
    · subst hk
      have h4 : lineNext s ch k % 4 = 0 := lineAddr_mod (h.lines k) _
      rw [readWord_writeWord _ _ _ _ hwf htop h4 (lineAddr_mod (h.lines k) i), ih]
      have hcur : lineAddr s (.reverb ch k) i = lineNext s ch k ↔ i = lineCursor s (.reverb ch k) := by
        show lineBase s (.reverb ch k) + 4 * i = lineBase s (.reverb ch k) + 4 * lineCursor s (.reverb ch k) ↔ _
        omega
      simp only [hcur, List.mem_append, List.mem_singleton, or_true, true_and]
      by_cases hc : i = lineCursor s (.reverb ch k) <;> simp [hc]
    · have hapart := reverb_lines_apart (s := s) h.layout ch hk
      have hcur := (h.lines k).cursor
      have haddr : lineNext s ch k = lineBase s (.reverb ch k) + 4 * lineCursor s (.reverb ch k) := rfl
      have haddr' : lineAddr s (.reverb ch j) i = lineBase s (.reverb ch j) + 4 * i := rfl
      rw [readWord_writeWord_other _ _ _ _ (by omega), ih]
      simp [Ne.symm hk]

/-- A byte outside the words written reads as before. -/
theorem readByte_writeLines_other (s : State) (ch : Nat) (x : PerLine F32) (ws : List RevLine) {a : Nat}
    (ha : ∀ j ∈ ws, ¬(lineNext s ch j ≤ a ∧ a < lineNext s ch j + 4)) :
    readByte (writeLines s ch x ws) a = readByte s.mem a := by
  induction ws using List.reverseRecOn with
  | nil => rfl
  | append_singleton ws k ih =>
    have hk := ha k (by simp)
    rw [writeLines_append, readByte_writeWord_other _ _ _ _ (by omega)]
    exact ih fun j hj => ha j (by simp [hj])

theorem midSample_coefs (s : State) (ch : Nat) (x : PerLine F32) (ws : List RevLine) (bw dl dr : F32) :
    (midSample s ch x ws bw dl dr).coefs = s.coefs := rfl

theorem midSample_chan (h : ReverbInUse s ch) (x : PerLine F32) (ws : List RevLine) (bw dl dr : F32) :
    (midSample s ch x ws bw dl dr).chans.reverb.getD ch {} = midChan s ch ws bw dl dr := by
  simp [midSample, List.getD_eq_getElem?_getD, h.chan]

/-- One more line advanced. -/
theorem midChan_append (s : State) (ch : Nat) (ws : List RevLine) (bw dl dr : F32) (j : RevLine) :
    midChan s ch (ws ++ [j]) bw dl dr = { midChan s ch ws bw dl dr with
      w := (midChan s ch ws bw dl dr).w.set j
        (BitVec.ofNat 32 ((lineCursor s (.reverb ch j) + 1) % lineCap s (.reverb ch j))) } := by
  simp only [midChan, PerLine.set_of, List.mem_append, List.mem_singleton]
  congr
  funext k
  by_cases hk : k = j
  · simp [hk]
  · simp [hk]

theorem midSample_nil (s : State) (ch : Nat) (x : PerLine F32) :
    midSample s ch x [] (s.chans.reverb.getD ch {}).bwZ1 (s.chans.reverb.getD ch {}).dlZ1
      (s.chans.reverb.getD ch {}).drZ1 = s := by
  have hchan : midChan s ch [] (s.chans.reverb.getD ch {}).bwZ1 (s.chans.reverb.getD ch {}).dlZ1
      (s.chans.reverb.getD ch {}).drZ1 = s.chans.reverb.getD ch {} := by simp only [midChan, List.not_mem_nil]; rfl
  rw [midSample, hchan, set_self_chan]
  rfl

theorem lineCursor_midSample (h : ReverbInUse s ch) :
    lineCursor (midSample s ch x ws bw dl dr) (.reverb ch j) =
      if j ∈ ws then (lineCursor s (.reverb ch j) + 1) % lineCap s (.reverb ch j) else lineCursor s (.reverb ch j) := by
  have hlt : (lineCursor s (.reverb ch j) + 1) % lineCap s (.reverb ch j) < 2 ^ 32 :=
    Nat.lt_trans (Nat.mod_lt _ (Nat.zero_lt_of_lt (h.lines j).cursor)) (lineCap_lt s _)
  rw [lineCursor, midSample_chan h, midChan, PerLine.get_of]
  split
  · exact Nat.mod_eq_of_lt hlt
  · rfl

theorem lineOk_midSample (h : ReverbInUse s ch) (j : RevLine) :
    LineOk (midSample s ch x ws bw dl dr) (.reverb ch j) where
  base := (h.lines j).base
  top := (h.lines j).top
  cursor := by
    have hcap := (h.lines j).cursor
    rw [lineCursor_midSample h]
    show _ < lineCap s (.reverb ch j)
    split
    · exact Nat.mod_lt _ (Nat.zero_lt_of_lt hcap)
    · exact hcap

theorem lineIndex_midSample (h : ReverbInUse s ch) (hj : j ∉ ws) (d : Nat) :
    lineIndex (midSample s ch x ws bw dl dr) (.reverb ch j) d = lineIndex s (.reverb ch j) d := by
  rw [lineIndex, lineCursor_midSample h, if_neg hj]
  rfl

/-- A line that is not yet written reads as it did before the sample. -/
theorem lineWord_midSample (h : ReverbInUse s ch) (hj : j ∉ ws) (d : Nat) :
    lineWord (midSample s ch x ws bw dl dr) ch j d = lineWord s ch j d := by
  have hread := readWord_writeLines h x ws j (lineIndex_lt (h.lines j) d)
  rw [if_neg fun hw => hj hw.1] at hread
  rw [lineWord, lineIndex_midSample h hj]
  exact hread

theorem readAddrs_midSample (h : ReverbInUse s ch) (hj : j ∉ ws) (d : Nat) (f : F32) :
    readAddrs (midSample s ch x ws bw dl dr) (.reverb ch j) d f = readAddrs s (.reverb ch j) d f := by
  simp only [readAddrs, lineIndex_midSample h hj]
  rfl

/-! ### The parts of a sample -/

theorem dlValue_eq_lineValue (s : State) (ch : Nat) (j : RevLine) (d : Nat) (f : F32) :
    dlValue s (.reverb ch j) d f = lineValue s ch j d f := rfl

theorem midRead_run (h : ReverbInUse s ch) (hj : j ∉ ws) (d : Nat) (f : F32) :
    dlRead (.reverb ch j) d f (midSample s ch x ws bw dl dr) = runAccesses s.hw.regions
      (accessFrom (midSample s ch x ws bw dl dr) (readAddrs s (.reverb ch j) d f))
      (.ok (lineValue s ch j d f) (midSample s ch x ws bw dl dr)) := by
  have hrun := dlRead_run (lineOk_midSample (x := x) (ws := ws) (bw := bw) (dl := dl) (dr := dr) h j) d f
  rw [readAddrs_midSample h hj, dlValue_eq_lineValue] at hrun
  simp only [lineValue, lineWord_midSample h hj] at hrun
  exact hrun

theorem midWrite_run (h : ReverbInUse s ch) (hj : j ∉ ws) {w : F32} (hw : x.get j = w) :
    dlWrite (.reverb ch j) w (midSample s ch x ws bw dl dr) = runAccesses s.hw.regions
      [(lineNext s ch j, midSample s ch x ws bw dl dr)] (.ok () (midSample s ch x (ws ++ [j]) bw dl dr)) := by
  have hrun := dlWrite_run (lineOk_midSample (x := x) (ws := ws) (bw := bw) (dl := dl) (dr := dr) h j) w
  have hcur : lineCursor (midSample s ch x ws bw dl dr) (.reverb ch j) = lineCursor s (.reverb ch j) := by
    rw [lineCursor_midSample h, if_neg hj]
  have hafter : afterWrite (midSample s ch x ws bw dl dr) (.reverb ch j) w =
      midSample s ch x (ws ++ [j]) bw dl dr := by
    rw [afterWrite, hcur, setCursor, State.setReverbChan]
    simp only [midSample_chan h]
    simp only [midSample, List.set_set, midChan_append, writeLines_append, hw]
    rfl
  rw [hafter, hcur] at hrun
  exact hrun

/-- A channel's filter states written in the middle of a sample. -/
theorem midModify_run (h : ReverbInUse s ch) {f : ReverbState → ReverbState} {bw' dl' dr' : F32}
    (hf : f (midChan s ch ws bw dl dr) = midChan s ch ws bw' dl' dr') :
    modifyReverbChan ch f (midSample s ch x ws bw dl dr) = .ok () (midSample s ch x ws bw' dl' dr') := by
  rw [modifyReverbChan, engine_modify, midSample_chan h, hf, State.setReverbChan]
  simp only [midSample, List.set_set]

/-- An allpass of a line not yet written (R372, R373). -/
theorem midAllpass_run (h : ReverbInUse s ch) (hj : j ∉ ws) (d : Nat) (f u g : F32)
    (hw : x.get j = allpassWrites u g (lineValue s ch j d f)) :
    allpassAt (.reverb ch j) d f u g (midSample s ch x ws bw dl dr) = runAccesses s.hw.regions
      (accessFrom (midSample s ch x ws bw dl dr) (readAddrs s (.reverb ch j) d f ++ [lineNext s ch j]))
      (.ok (allpassAnswers u g (lineValue s ch j d f)) (midSample s ch x (ws ++ [j]) bw dl dr)) := by
  rw [allpassAt, runAccesses_bind (midRead_run h hj d f), accessFrom_append, runAccesses_append]
  exact congrArg _ (runAccesses_bind (midWrite_run h hj hw) _)

/-- The fixed allpass (R372). -/
theorem midAp_run (h : ReverbInUse s ch) (hj : j ∉ ws) (u g : F32)
    (hw : x.get j = allpassWrites u g (lineWord s ch j (s.coefs.reverb.n.get j).toNat)) :
    ap ch j u g (midSample s ch x ws bw dl dr) = runAccesses s.hw.regions
      (accessFrom (midSample s ch x ws bw dl dr) [lineAt s ch j (s.coefs.reverb.n.get j).toNat, lineNext s ch j])
      (.ok (allpassAnswers u g (lineWord s ch j (s.coefs.reverb.n.get j).toNat))
        (midSample s ch x (ws ++ [j]) bw dl dr)) :=
  midAllpass_run h hj (s.coefs.reverb.n.get j).toNat f0 u g hw

/-- The fixed delay (R374). -/
theorem midDly_run (h : ReverbInUse s ch) (hj : j ∉ ws) {u : F32} (hw : x.get j = u) :
    dly ch j u (midSample s ch x ws bw dl dr) = runAccesses s.hw.regions
      (accessFrom (midSample s ch x ws bw dl dr) [lineAt s ch j (s.coefs.reverb.n.get j).toNat, lineNext s ch j])
      (.ok (lineWord s ch j (s.coefs.reverb.n.get j).toNat) (midSample s ch x (ws ++ [j]) bw dl dr)) := by
  have hread := midRead_run (x := x) (ws := ws) (bw := bw) (dl := dl) (dr := dr) h hj
    (s.coefs.reverb.n.get j).toNat f0
  rw [dly, engine_bind_get]
  refine runAccesses_bind_run hread ?_
  exact runAccesses_bind (midWrite_run h hj hw) _

/-- A read one further back than before the write of the line is the read before it. -/
theorem lineIndex_midSample_succ (h : ReverbInUse s ch) (hj : j ∈ ws) (d : Nat) :
    lineIndex (midSample s ch x ws bw dl dr) (.reverb ch j) (d + 1) = lineIndex s (.reverb ch j) d := by
  rw [lineIndex, lineIndex, lineCursor_midSample h, if_pos hj]
  show (_ % (lineCap s (.reverb ch j) : Int)).toNat = _
  rw [Int.natCast_mod, Int.emod_sub_emod]
  congr 2
  push_cast
  omega

/-- A line's word `d` back is the one at the cursor when `d` is whole lines. -/
theorem lineIndex_eq_cursor_iff {l : LineRef} (h : LineOk s l) (d : Nat) :
    lineIndex s l d = lineCursor s l ↔ d % lineCap s l = 0 := by
  have hcur := h.cursor
  have hcap : (0 : Int) < lineCap s l := by omega
  have hnonneg := Int.emod_nonneg ((lineCursor s l : Int) - d) hcap.ne'
  have hself : (lineCursor s l : Int) % lineCap s l = lineCursor s l := Int.emod_eq_of_lt (by omega) (by omega)
  calc lineIndex s l d = lineCursor s l
      ↔ ((lineCursor s l : Int) - d) % lineCap s l = (lineCursor s l : Int) % lineCap s l := by
        rw [hself, lineIndex]
        omega
    _ ↔ (lineCap s l : Int) ∣ d := by
        rw [Int.emod_eq_emod_iff_emod_sub_eq_zero, ← Int.dvd_iff_emod_eq_zero, ← Int.dvd_neg]
        congr! 1
        omega
    _ ↔ d % lineCap s l = 0 := by rw [Int.natCast_dvd_natCast, Nat.dvd_iff_mod_eq_zero]

/-- The read of a line after its own write (R392's predelay): the word just written, where the line is that long. -/
theorem midReadOwn_run (h : ReverbInUse s ch) (hj : j ∈ ws) (d : Nat) :
    dlRead (.reverb ch j) (d + 1) f0 (midSample s ch x ws bw dl dr) = runAccesses s.hw.regions
      [(lineAt s ch j d, midSample s ch x ws bw dl dr)]
      (.ok (if d % lineCap s (.reverb ch j) = 0 then x.get j else lineWord s ch j d)
        (midSample s ch x ws bw dl dr)) := by
  have hrun := dlRead_f0_run (lineOk_midSample (x := x) (ws := ws) (bw := bw) (dl := dl) (dr := dr) h j) (d + 1)
  have hword : lineWord (midSample s ch x ws bw dl dr) ch j (d + 1) =
      if d % lineCap s (.reverb ch j) = 0 then x.get j else lineWord s ch j d := by
    have hread := readWord_writeLines h x ws j (lineIndex_lt (h.lines j) d)
    simp only [hj, true_and, lineIndex_eq_cursor_iff (h.lines j)] at hread
    rw [lineWord, lineIndex_midSample_succ h hj]
    exact hread
  rw [hword, lineAt, lineIndex_midSample_succ h hj] at hrun
  exact hrun

/-- One tank half (R392): four lines written, and a damping filter's state after the second. -/
theorem midTank_run (h : ReverbInUse s ch) {j1 j2 j3 j4 : RevLine} {u : F32} {di : Word} {df : F32}
    {yp : ReverbState → F32} {put : F32 → ReverbState → ReverbState} {z d : F32} {bw' dl' dr' : F32}
    (h1 : j1 ∉ ws) (h2 : j2 ∉ ws ++ [j1]) (h3 : j3 ∉ ws ++ [j1] ++ [j2]) (h4 : j4 ∉ ws ++ [j1] ++ [j2] ++ [j3])
    (hz : z = lineValue s ch j1 di.toNat df)
    (hd : d = op1 s.coefs.reverb.aDamp (yp (midChan s ch (ws ++ [j1] ++ [j2]) bw dl dr))
      (lineWord s ch j2 (s.coefs.reverb.n.get j2).toNat))
    (hput : put d (midChan s ch (ws ++ [j1] ++ [j2]) bw dl dr) = midChan s ch (ws ++ [j1] ++ [j2]) bw' dl' dr')
    (hw1 : x.get j1 = allpassWrites u fm07 z) (hw2 : x.get j2 = allpassAnswers u fm07 z)
    (hw3 : x.get j3 = allpassWrites (fMul s.coefs.reverb.decayG d) s.coefs.reverb.dd2G
      (lineWord s ch j3 (s.coefs.reverb.n.get j3).toNat))
    (hw4 : x.get j4 = allpassAnswers (fMul s.coefs.reverb.decayG d) s.coefs.reverb.dd2G
      (lineWord s ch j3 (s.coefs.reverb.n.get j3).toNat)) :
    tankHalf ch j1 j2 j3 j4 u di df yp put (midSample s ch x ws bw dl dr) = runAccesses s.hw.regions
      (accessFrom (midSample s ch x ws bw dl dr)
          (readAddrs s (.reverb ch j1) di.toNat df ++ [lineNext s ch j1]) ++
        (accessFrom (midSample s ch x (ws ++ [j1]) bw dl dr)
            [lineAt s ch j2 (s.coefs.reverb.n.get j2).toNat, lineNext s ch j2] ++
          (accessFrom (midSample s ch x (ws ++ [j1] ++ [j2]) bw' dl' dr')
              [lineAt s ch j3 (s.coefs.reverb.n.get j3).toNat, lineNext s ch j3] ++
            [(lineNext s ch j4, midSample s ch x (ws ++ [j1] ++ [j2] ++ [j3]) bw' dl' dr')])))
      (.ok () (midSample s ch x (ws ++ [j1] ++ [j2] ++ [j3] ++ [j4]) bw' dl' dr')) := by
  subst hz
  rw [tankHalf, engine_bind_get]
  simp only [midSample_coefs]
  refine runAccesses_bind_run (midAllpass_run h h1 di.toNat df u fm07 hw1) ?_
  refine runAccesses_bind_run (midDly_run h h2 hw2) ?_
  rw [engine_bind_get, midSample_chan h, ← hd, engine_bind_ok (midModify_run h hput)]
  refine runAccesses_bind_run (midAp_run h h3 _ _ hw3) ?_
  exact midWrite_run h h4 hw4

end

/-! ### The sample -/

/-- The state once so many stages of a sample are complete (`sampleBefore`, `linesWritten`). -/
def stageAt (s : State) (ch : Nat) (r : ReverbSample) (n : Nat) : State :=
  midSample s ch r.word (linesWritten n)
    (if 2 ≤ n then r.bw else (s.chans.reverb.getD ch {}).bwZ1)
    (if 8 ≤ n then r.dl else (s.chans.reverb.getD ch {}).dlZ1)
    (if 12 ≤ n then r.dr else (s.chans.reverb.getD ch {}).drZ1)

variable {s : State} {ch : Nat}

theorem stageAt_eq (s : State) (ch : Nat) (r : ReverbSample) (n : Nat) :
    stageAt s ch r n = { s with
      mem := writeLines s ch r.word (linesWritten n)
      chans := { s.chans with reverb := s.chans.reverb.set ch (sampleBefore s ch r n) } } := rfl

theorem stageAt_zero (s : State) (ch : Nat) (r : ReverbSample) : stageAt s ch r 0 = s := midSample_nil s ch r.word

/-- The accesses of an allpass or a fixed delay at a stage. -/
def wholeAccesses (s : State) (ch : Nat) (j : RevLine) (t : State) : List (Nat × State) :=
  accessFrom t [lineAt s ch j (s.coefs.reverb.n.get j).toNat, lineNext s ch j]

/-- The accesses of a modulated allpass at a stage. -/
def modulatedAccesses (s : State) (ch : Nat) (j : RevLine) (di : Word) (df : F32) (t : State) : List (Nat × State) :=
  accessFrom t (readAddrs s (.reverb ch j) di.toNat df ++ [lineNext s ch j])

/-- The accesses of R393, part by part, each from the state of the stages before it. -/
theorem reverbAccesses_parts (s : State) (ch : Nat) (S : Nat → State) :
    (reverbAccesses s ch).map (fun p => (p.1, S p.2)) =
      accessFrom (S 0) (allTapAddrs s ch) ++ ([(lineAt s ch .dlL2 s.coefs.reverb.n.dlL2.toNat, S 0)] ++
      ([(lineAt s ch .dlR2 s.coefs.reverb.n.dlR2.toNat, S 0)] ++ ([(lineNext s ch .pd, S 0)] ++
      ([(lineAt s ch .pd s.coefs.reverb.pdN.toNat, S 1)] ++ (wholeAccesses s ch .id1 (S 2) ++
      (wholeAccesses s ch .id2 (S 3) ++ (wholeAccesses s ch .id3 (S 4) ++ (wholeAccesses s ch .id4 (S 5) ++
      ((modulatedAccesses s ch .dd1 s.coefs.reverb.di1 s.coefs.reverb.df1 (S 6) ++ (wholeAccesses s ch .dlL1 (S 7) ++
        (wholeAccesses s ch .dd2 (S 8) ++ [(lineNext s ch .dlL2, S 9)]))) ++
      (modulatedAccesses s ch .dd3 s.coefs.reverb.di3 s.coefs.reverb.df3 (S 10) ++ (wholeAccesses s ch .dlR1 (S 11) ++
        (wholeAccesses s ch .dd4 (S 12) ++ [(lineNext s ch .dlR2, S 13)])))))))))))) := by
  have hread : ∀ (j : RevLine) (di : Word) (df : F32), readAddrs s (.reverb ch j) di.toNat df =
      lineAt s ch j di.toNat :: if fEq df 0#32 = true then [] else [lineAt s ch j (di.toNat + 1)] := fun _ _ _ => rfl
  simp only [reverbAccesses, modulatedAccesses, wholeAccesses, hread, allTapAddrs, tapAddrs, accessFrom,
    List.map_append, List.map_map, List.map_cons, List.map_nil, List.append_assoc, List.cons_append, List.nil_append,
    apply_ite (List.map _), Function.comp_def, PerLine.get]

/-- PROCESS1's hook makes the accesses of R393, each from the state of the stages before it. -/
theorem reverbStep_run (h : ReverbInUse s ch) (xl xr : F32) {r : ReverbSample} (hr : r = reverbSampleOf s ch xl xr) :
    reverbStep ch xl xr s = runAccesses s.hw.regions
      ((reverbAccesses s ch).map fun p => (p.1, stageAt s ch r p.2))
      (.ok [tapMix (lineWord s ch) s.hw.revTable.tapL s.coefs.reverb.tapLK,
        tapMix (lineWord s ch) s.hw.revTable.tapR s.coefs.reverb.tapRK] (stageAt s ch r 14)) := by
  have hstart := stageAt_zero s ch r
  have hpd := midWrite_run (j := .pd) (ws := []) (x := r.word) (bw := (s.chans.reverb.getD ch {}).bwZ1)
    (dl := (s.chans.reverb.getD ch {}).dlZ1) (dr := (s.chans.reverb.getD ch {}).drZ1)
    (w := fMul f05 (fAdd xl xr)) h (by decide) (by rw [hr]; rfl)
  rw [midSample_nil] at hpd
  rw [reverbAccesses_parts, hstart]
  refine runAccesses_bind_run (taps_run h.lines) ?_
  rw [engine_bind_get]
  refine runAccesses_bind_run (dlRead_f0_run (h.lines .dlL2) _) ?_
  refine runAccesses_bind_run (dlRead_f0_run (h.lines .dlR2) _) ?_
  refine runAccesses_bind_run hpd ?_
  refine runAccesses_bind_run (midReadOwn_run h (List.mem_singleton.2 rfl) _) ?_
  rw [engine_bind_get, midSample_chan h]
  refine (engine_bind_ok (midModify_run h (bw' := r.bw) (dl' := (s.chans.reverb.getD ch {}).dlZ1)
    (dr' := (s.chans.reverb.getD ch {}).drZ1) ?_)).trans ?_
  · rw [hr]
    rfl
  refine runAccesses_bind_run (midAp_run h (by decide) _ _ (by rw [hr]; rfl)) ?_
  refine runAccesses_bind_run (midAp_run h (by decide) _ _ (by rw [hr]; rfl)) ?_
  refine runAccesses_bind_run (midAp_run h (by decide) _ _ (by rw [hr]; rfl)) ?_
  refine runAccesses_bind_run (midAp_run h (by decide) _ _ (by rw [hr]; rfl)) ?_
  refine runAccesses_bind_run (midTank_run h (z := lineValue s ch .dd1 s.coefs.reverb.di1.toNat s.coefs.reverb.df1)
    (d := r.dl) (bw' := r.bw) (dl' := r.dl) (dr' := (s.chans.reverb.getD ch {}).drZ1)
    (by decide) (by decide) (by decide) (by decide) rfl (by rw [hr]; rfl) rfl
    (by rw [hr]; rfl) (by rw [hr]; rfl) (by rw [hr]; rfl) (by rw [hr]; rfl)) ?_
  exact runAccesses_bind (midTank_run h (z := lineValue s ch .dd3 s.coefs.reverb.di3.toNat s.coefs.reverb.df3)
    (d := r.dr) (bw' := r.bw) (dl' := r.dl) (dr' := r.dr)
    (by decide) (by decide) (by decide) (by decide) rfl (by rw [hr]; rfl) rfl
    (by rw [hr]; rfl) (by rw [hr]; rfl) (by rw [hr]; rfl) (by rw [hr]; rfl)) _

theorem process1Hook_reverb (ch : Nat) (xs : List F32) (s : State) :
    process1Hook .reverb ch xs s = reverbStep ch (sample0 xs) (sample1 xs) s := by
  rw [process1Hook, engine_bind_get]

/-- PROCESS1 of REVERB at any access of R393: the stages before it are complete. -/
theorem reverbSample_busError (h : Inv s) {ch : BitVec 6} (hf0 : isFinite s.win.arg0 = true)
    (hf1 : isFinite s.win.arg1 = true) (ha : admitted s .reverb ch.toNat) {before after : List (Nat × Nat)} {a n : Nat}
    (hsplit : reverbAccesses s ch.toNat = before ++ (a, n) :: after) (ho : ∀ p ∈ before, ordinary s p.1 4)
    (hb : busFails s a) :
    exec (.process1Reverb ch) s = .next (enterFault (encode (.process1Reverb ch)) .busError (BitVec.ofNat 32 a) 0
      (stageAt s ch.toNat (reverbSampleOf s ch.toNat s.win.arg0 s.win.arg1) n)) := by
  have hargs : ∀ x ∈ sampleArgs .reverb s.win, isFinite x = true := sampleArgs_finite .reverb s.win hf0 fun _ => hf1
  have hhook := (process1Hook_reverb ch.toNat (sampleArgs .reverb s.win) s).trans
    (reverbStep_run (reverbInUse h ha) s.win.arg0 s.win.arg1 rfl)
  have hrun := cmdProcess1_accesses ha hargs hhook
  rw [hsplit, List.map_append, List.map_cons] at hrun
  refine runCommand_busError hrun (fun p hp => ?_) hb
  obtain ⟨q, hq, rfl⟩ := List.mem_map.1 hp
  exact ho q hq

end Sys2Proof.Machine
end

-- ==== Proofs: batched commands and the window ====
section
/-! PROOFS. What a batched command computes does not depend on the window (40_protocol.md R156, R157), so a command of `n`
samples makes what a command of only `i` of them makes, and then sample `i`. -/

namespace Sys2Proof.Machine
open Sys2Proof.Config

/-! ### Computations that neither read nor write the window -/

/-- The same answer with another window in its state. -/
def withWin {α : Type} (w : Window) : EStateM.Result Stop State α → EStateM.Result Stop State α
  | .ok a t => .ok a { t with win := w }
  | .error x t => .error x { t with win := w }

/-- A computation that answers the same whatever the window holds, and leaves it as it was. -/
def Engine.IgnoresWindow {α : Type} (e : Engine α) : Prop :=
  ∀ (s : State) (w : Window), e { s with win := w } = withWin w (e s)

section
variable {α β : Type} {e : Engine α} {k : α → Engine β}

theorem ignoresWindow_pure (a : α) : Engine.IgnoresWindow (pure a) := fun _ _ => rfl

theorem ignoresWindow_throw (x : Stop) : Engine.IgnoresWindow (throw x : Engine α) := fun _ _ => rfl

theorem ignoresWindow_modify {f : State → State} (h : ∀ (s : State) w, f { s with win := w } = { f s with win := w }) :
    Engine.IgnoresWindow (modify f : Engine Unit) := fun s w => congrArg (EStateM.Result.ok ()) (h s w)

theorem ignoresWindow_bind (he : Engine.IgnoresWindow e) (hk : ∀ a, Engine.IgnoresWindow (k a)) :
    Engine.IgnoresWindow (e >>= k) := by
  intro s w
  rw [engine_bind, engine_bind, he]
  cases e s with
  | ok a t => exact hk a t w
  | error x t => rfl

/-- A computation that goes on from the state it starts in, of which the window makes no difference. -/
theorem ignoresWindow_get {k : State → Engine β} (hk : ∀ s, Engine.IgnoresWindow (k s))
    (hw : ∀ (s : State) w, k { s with win := w } = k s) : Engine.IgnoresWindow (get >>= k) := by
  intro s w
  rw [engine_bind_get, engine_bind_get, hw]
  exact hk s s w

theorem ignoresWindow_require (c : Bool) (code : FaultCode) (i : Word) : Engine.IgnoresWindow (require c code i) := by
  cases c
  · exact ignoresWindow_throw _
  · exact ignoresWindow_pure ()

theorem ignoresWindow_ok (he : Engine.IgnoresWindow e) {s t : State} {a : α} (h : e s = .ok a t) (w : Window) :
    e { s with win := w } = .ok a { t with win := w } := by rw [he, h]; rfl

end

theorem ignoresWindow_busCheck (a : Nat) : Engine.IgnoresWindow (busCheck a) := by
  refine ignoresWindow_get (fun s => ?_) fun s w => rfl
  split
  · exact ignoresWindow_throw _
  · split
    · exact ignoresWindow_throw _
    · exact ignoresWindow_throw _
    · exact ignoresWindow_pure ()

theorem ignoresWindow_memRead (a : Nat) : Engine.IgnoresWindow (memRead a) :=
  ignoresWindow_bind (ignoresWindow_busCheck a) fun _ => ignoresWindow_get (fun _ => ignoresWindow_pure _) fun _ _ => rfl

theorem ignoresWindow_memWrite (a : Nat) (x : Word) : Engine.IgnoresWindow (memWrite a x) :=
  ignoresWindow_bind (ignoresWindow_busCheck a) fun _ => ignoresWindow_modify fun _ _ => rfl

theorem ignoresWindow_dlRead (l : LineRef) (d : Nat) (f : F32) : Engine.IgnoresWindow (dlRead l d f) := by
  refine ignoresWindow_get (fun s => ignoresWindow_bind (ignoresWindow_memRead _) fun s0 => ?_) fun s w => ?_
  · split
    · exact ignoresWindow_pure s0
    · exact ignoresWindow_bind (ignoresWindow_memRead _) fun _ => ignoresWindow_pure _
  · cases l <;> rfl

theorem ignoresWindow_dlWrite (l : LineRef) (x : F32) : Engine.IgnoresWindow (dlWrite l x) := by
  refine ignoresWindow_get (fun s => ignoresWindow_bind (ignoresWindow_memWrite _ x) fun _ => ?_) fun s w => ?_
  · exact ignoresWindow_modify fun s w => by cases l <;> rfl
  · cases l <;> rfl

theorem ignoresWindow_modifyReverbChan (ch : Nat) (f : ReverbState → ReverbState) :
    Engine.IgnoresWindow (modifyReverbChan ch f) := ignoresWindow_modify fun _ _ => rfl

theorem ignoresWindow_allpassAt (l : LineRef) (d : Nat) (f u g : F32) : Engine.IgnoresWindow (allpassAt l d f u g) :=
  ignoresWindow_bind (ignoresWindow_dlRead l d f) fun _ =>
    ignoresWindow_bind (ignoresWindow_dlWrite l _) fun _ => ignoresWindow_pure _

theorem ignoresWindow_ap (ch : Nat) (j : RevLine) (u g : F32) : Engine.IgnoresWindow (ap ch j u g) :=
  ignoresWindow_get (fun _ => ignoresWindow_allpassAt _ _ _ u g) fun _ _ => rfl

theorem ignoresWindow_dly (ch : Nat) (j : RevLine) (u : F32) : Engine.IgnoresWindow (dly ch j u) :=
  ignoresWindow_get (fun _ => ignoresWindow_bind (ignoresWindow_dlRead _ _ _) fun z =>
    ignoresWindow_bind (ignoresWindow_dlWrite _ u) fun _ => ignoresWindow_pure z) fun _ _ => rfl

theorem ignoresWindow_readTaps (ch : Nat) (tap : PerTap RevTap) (k : PerTap Word) (ts : List TapIx) :
    Engine.IgnoresWindow (readTaps ch tap k ts) := by
  induction ts with
  | nil => exact ignoresWindow_pure []
  | cons x ts ih =>
    exact ignoresWindow_bind (ignoresWindow_dlRead _ _ _) fun _ => ignoresWindow_bind ih fun _ => ignoresWindow_pure _

theorem ignoresWindow_taps (ch : Nat) : Engine.IgnoresWindow (taps ch) :=
  ignoresWindow_get (fun _ => ignoresWindow_bind (ignoresWindow_readTaps _ _ _ _) fun _ =>
    ignoresWindow_bind (ignoresWindow_readTaps _ _ _ _) fun _ => ignoresWindow_pure _) fun _ _ => rfl

theorem ignoresWindow_tankHalf (ch : Nat) (j1 j2 j3 j4 : RevLine) (u : F32) (di : Word) (df : F32)
    (yp : ReverbState → F32) (put : F32 → ReverbState → ReverbState) :
    Engine.IgnoresWindow (tankHalf ch j1 j2 j3 j4 u di df yp put) :=
  ignoresWindow_get (fun _ => ignoresWindow_bind (ignoresWindow_allpassAt _ _ _ _ _) fun _ =>
    ignoresWindow_bind (ignoresWindow_dly _ _ _) fun _ =>
      ignoresWindow_get (fun _ => ignoresWindow_bind (ignoresWindow_modifyReverbChan _ _) fun _ =>
        ignoresWindow_bind (ignoresWindow_ap _ _ _ _) fun _ => ignoresWindow_dlWrite _ _) fun _ _ => rfl)
    fun _ _ => rfl

theorem ignoresWindow_reverbStep (ch : Nat) (xl xr : F32) : Engine.IgnoresWindow (reverbStep ch xl xr) := by
  refine ignoresWindow_bind (ignoresWindow_taps ch) fun y => ignoresWindow_get (fun s => ?_) fun _ _ => rfl
  refine ignoresWindow_bind (ignoresWindow_dlRead _ _ _) fun l4 => ?_
  refine ignoresWindow_bind (ignoresWindow_dlRead _ _ _) fun r4 => ?_
  refine ignoresWindow_bind (ignoresWindow_dlWrite _ _) fun _ => ?_
  refine ignoresWindow_bind (ignoresWindow_dlRead _ _ _) fun p => ignoresWindow_get (fun s' => ?_) fun _ _ => rfl
  refine ignoresWindow_bind (ignoresWindow_modifyReverbChan _ _) fun _ => ?_
  refine ignoresWindow_bind (ignoresWindow_ap _ _ _ _) fun _ => ignoresWindow_bind (ignoresWindow_ap _ _ _ _) fun _ => ?_
  refine ignoresWindow_bind (ignoresWindow_ap _ _ _ _) fun _ => ignoresWindow_bind (ignoresWindow_ap _ _ _ _) fun _ => ?_
  refine ignoresWindow_bind (ignoresWindow_tankHalf _ _ _ _ _ _ _ _ _ _) fun _ => ?_
  refine ignoresWindow_bind (ignoresWindow_tankHalf _ _ _ _ _ _ _ _ _ _) fun _ => ?_
  exact ignoresWindow_pure [y.1, y.2]

theorem ignoresWindow_delayStep (ch : Nat) (x : F32) : Engine.IgnoresWindow (delayStep ch x) :=
  ignoresWindow_bind (ignoresWindow_dlWrite _ x) fun _ =>
    ignoresWindow_get (fun _ => ignoresWindow_bind (ignoresWindow_dlRead _ _ _) fun y => ignoresWindow_pure [y])
      fun _ _ => rfl

theorem ignoresWindow_answerMm1 (u : UnitId) (ch : Nat) (r : F32 × Mm1State) :
    Engine.IgnoresWindow (answerMm1 u ch r) :=
  ignoresWindow_bind (ignoresWindow_modify fun _ _ => by cases u <;> rfl) fun _ => ignoresWindow_pure [r.1]

theorem ignoresWindow_answerMm2 (u : UnitId) (ch : Nat) (r : F32 × Mm2State) :
    Engine.IgnoresWindow (answerMm2 u ch r) :=
  ignoresWindow_bind (ignoresWindow_modify fun _ _ => by cases u <;> rfl) fun _ => ignoresWindow_pure [r.1]

/-- One sample of any unit takes nothing from the window. -/
theorem ignoresWindow_process1Hook (u : UnitId) (ch : Nat) (xs : List F32) :
    Engine.IgnoresWindow (process1Hook u ch xs) := by
  refine ignoresWindow_get (fun s => ?_) fun s w => by cases u <;> rfl
  cases u with
  | onepole => exact ignoresWindow_bind (ignoresWindow_modify fun _ _ => rfl) fun _ => ignoresWindow_pure [_]
  | mm1 | hp1 | ls1 => exact ignoresWindow_answerMm1 _ ch _
  | mm2 | ls2 | ap2 | peak => exact ignoresWindow_answerMm2 _ ch _
  | delay => exact ignoresWindow_delayStep ch _
  | reverb => exact ignoresWindow_reverbStep ch _ _

/-! ### The samples of a batched command -/

theorem ignoresWindow_requireFinite (xs : List F32) : Engine.IgnoresWindow (requireFinite xs) := by
  induction xs with
  | nil => exact ignoresWindow_pure ()
  | cons x xs ih => exact ignoresWindow_bind (ignoresWindow_require _ _ _) fun _ => ih

theorem ignoresWindow_loadSamples (i : Nat) (bs : List Word) : Engine.IgnoresWindow (loadSamples i bs) := by
  induction bs with
  | nil => exact ignoresWindow_pure []
  | cons b bs ih =>
    exact ignoresWindow_bind (ignoresWindow_memRead _) fun _ => ignoresWindow_bind ih fun _ => ignoresWindow_pure _

theorem ignoresWindow_storeSamples (i : Nat) (bs : List Word) (ys : List F32) :
    Engine.IgnoresWindow (storeSamples i bs ys) := by
  induction bs generalizing ys with
  | nil => exact ignoresWindow_pure ()
  | cons b bs ih =>
    cases ys with
    | nil => exact ignoresWindow_pure ()
    | cons y ys => exact ignoresWindow_bind (ignoresWindow_memWrite _ y) fun _ => ih ys

theorem updateAudio_withWin (u : UnitId) (s : State) (w : Window) :
    updateAudio u { s with win := w } = { updateAudio u s with win := w } := rfl

theorem ignoresWindow_processSample (u : UnitId) (ch : Nat) (ins outs : List Word) (i : Nat) :
    Engine.IgnoresWindow (processSample u ch ins outs i) :=
  ignoresWindow_bind (ignoresWindow_loadSamples i ins) fun xs =>
    ignoresWindow_bind (ignoresWindow_requireFinite xs) fun _ =>
      ignoresWindow_bind (ignoresWindow_modify (updateAudio_withWin u)) fun _ =>
        ignoresWindow_bind (ignoresWindow_process1Hook u ch xs) fun ys => ignoresWindow_storeSamples i outs ys

theorem ignoresWindow_loadChannels (pin : List (List Word)) (i c k : Nat) :
    Engine.IgnoresWindow (loadChannels pin i c k) := by
  induction k generalizing c with
  | zero => exact ignoresWindow_pure []
  | succ k ih =>
    exact ignoresWindow_bind (ignoresWindow_loadSamples i _) fun _ =>
      ignoresWindow_bind (ih (c + 1)) fun _ => ignoresWindow_pure _

theorem ignoresWindow_processChannels (u : UnitId) (pout : List (List Word)) (i c : Nat) (xss : List (List F32)) :
    Engine.IgnoresWindow (processChannels u pout i c xss) := by
  induction xss generalizing c with
  | nil => exact ignoresWindow_pure ()
  | cons xs xss ih =>
    exact ignoresWindow_bind (ignoresWindow_process1Hook u c xs) fun ys =>
      ignoresWindow_bind (ignoresWindow_storeSamples i _ ys) fun _ => ih (c + 1)

theorem ignoresWindow_multiSample (u : UnitId) (m : Nat) (pin pout : List (List Word)) (i : Nat) :
    Engine.IgnoresWindow (multiSample u m pin pout i) :=
  ignoresWindow_bind (ignoresWindow_loadChannels pin i 0 m) fun xss =>
    ignoresWindow_bind (ignoresWindow_requireFinite _) fun _ =>
      ignoresWindow_bind (ignoresWindow_modify (updateAudio_withWin u)) fun _ =>
        ignoresWindow_processChannels u pout i 0 xss

theorem ignoresWindow_atSample {e : Engine Unit} (he : Engine.IgnoresWindow e) (i : Nat) :
    Engine.IgnoresWindow (atSample i e) := by
  intro s w
  unfold atSample
  rw [he]
  cases e s with
  | ok a t => rfl
  | error x t => cases x <;> rfl

theorem ignoresWindow_forSamples {body : Nat → Engine Unit} (hb : ∀ i, Engine.IgnoresWindow (body i)) (i k : Nat) :
    Engine.IgnoresWindow (forSamples body i k) := by
  induction k generalizing i with
  | zero => exact ignoresWindow_pure ()
  | succ k ih => exact ignoresWindow_bind (ignoresWindow_atSample (hb i) i) fun _ => ih (i + 1)

/-- The first samples, then the rest. -/
theorem forSamples_append (body : Nat → Engine Unit) (i j k : Nat) (s : State) :
    forSamples body i (j + k) s = (forSamples body i j >>= fun _ => forSamples body (i + j) k) s := by
  induction j generalizing i s with
  | zero => rw [Nat.zero_add]; rfl
  | succ j ih =>
    rw [show j + 1 + k = j + k + 1 by omega]
    simp only [forSamples, bind_assoc]
    rw [engine_bind, engine_bind]
    cases atSample i (body i) s with
    | ok _ t => simpa only [show i + 1 + j = i + (j + 1) by omega] using ih (i + 1) t
    | error x t => rfl

end Sys2Proof.Machine
end

-- ==== Proofs: bus errors of batched commands ====
section
/-! PROOFS. The accesses of a batched command before its samples, and those of a sample's loads (40_protocol.md R156, R157):
a load of sample `i` that fails finds the state a command of only `i` samples leaves. -/

namespace Sys2Proof.Machine
open Sys2Proof.Config

variable {s t : State} {u : UnitId} {ch : BitVec 6}

/-! ### Loads -/

theorem bufferLegal_iff (n : Nat) (b : Word) : bufferLegal n b ↔ aligned4 b = true ∧ inRange b (4 * n) = true := by
  rw [bufferLegal, aligned4_iff, inRange_iff]

theorem bufferLegal_mono {m n : Nat} (h : m ≤ n) {b : Word} (hb : bufferLegal n b) : bufferLegal m b :=
  ⟨hb.1, by have := hb.2; omega⟩

theorem requireBuffers_legal {n : Nat} {bs : List Word} (h : ∀ b ∈ bs, bufferLegal n b) (s : State) :
    requireBuffers (4 * n) bs s = .ok () s :=
  requireBuffers_pass _ _ s fun b hb => (bufferLegal_iff n b).1 (h b hb)

/-- The words at index `i` of a list of buffers that are longer than that. -/
theorem loadSamples_run {n i : Nat} (hi : i < n) {bs : List Word} (h : ∀ b ∈ bs, bufferLegal n b) (s : State) :
    loadSamples i bs s = runAccesses s.hw.regions (accessFrom s (bs.map fun b => b.toNat + 4 * i))
      (.ok (bs.map fun b => readWord s.mem (b.toNat + 4 * i)) s) := by
  induction bs with
  | nil => rfl
  | cons b bs ih =>
    obtain ⟨h4, hr⟩ := h b (by simp)
    refine runAccesses_bind_run (memRead_run (by omega) (by omega)) ?_
    exact runAccesses_bind (ih fun c hc => h c (by simp [hc])) _

/-- The words of sample `i` of consecutive channels, channel by channel. -/
theorem loadChannels_run {n i : Nat} (hi : i < n) {pin : List (List Word)} (c k : Nat)
    (h : ∀ d, c ≤ d → d < c + k → ∀ b ∈ channelBuffers pin d, bufferLegal n b) (s : State) :
    ∃ xss, xss.length = k ∧ loadChannels pin i c k s = runAccesses s.hw.regions
      (accessFrom s ((List.range' c k).flatMap fun d => (channelBuffers pin d).map fun b => b.toNat + 4 * i))
      (.ok xss s) := by
  induction k generalizing c with
  | zero => exact ⟨[], rfl, rfl⟩
  | succ k ih =>
    obtain ⟨xss, hlen, hrest⟩ := ih (c + 1) fun d h1 h2 => h d (by omega) (by omega)
    rw [List.range'_succ, List.flatMap_cons, accessFrom_append]
    exact ⟨_, congrArg (· + 1) hlen,
      runAccesses_bind_run (loadSamples_run hi (h c (le_refl c) (by omega)) s) (runAccesses_bind hrest _)⟩

/-- The entries of a pointer table (R157). -/
def tableEntries (s : State) (m : Nat) (T : Word) : List Word := (List.range m).map fun c => tableEntry s T c

/-- The addresses of the entries of a list of tables. -/
def entryAddrs (m : Nat) (ts : List Word) : List Nat := ts.flatMap fun T => (List.range m).map fun c => T.toNat + 4 * c

theorem readPointers_run (m a : Nat) (h4 : a % 4 = 0) (hr : a + 4 * m ≤ 2 ^ 32) (s : State) :
    readPointers a m s = runAccesses s.hw.regions (accessFrom s ((List.range m).map fun c => a + 4 * c))
      (.ok ((List.range m).map fun c => readWord s.mem (a + 4 * c)) s) := by
  induction m generalizing a with
  | zero => rfl
  | succ m ih =>
    have hshift : ∀ c, a + 4 + 4 * c = a + 4 * (c + 1) := fun c => by omega
    have hrest := ih (a + 4) (by omega) (by omega)
    simp only [hshift] at hrest
    simp only [List.range_succ_eq_map, List.map_cons, List.map_map, Nat.mul_zero, Nat.add_zero]
    exact runAccesses_bind_run (memRead_run h4 (by omega)) (runAccesses_bind hrest _)

theorem readTables_run {m : Nat} {ts : List Word} (h : ∀ T ∈ ts, bufferLegal m T) (s : State) :
    readTables m ts s = runAccesses s.hw.regions (accessFrom s (entryAddrs m ts)) (.ok (ts.map (tableEntries s m)) s) := by
  induction ts with
  | nil => rfl
  | cons T ts ih =>
    obtain ⟨h4, hr⟩ := h T (by simp)
    rw [entryAddrs, List.flatMap_cons, accessFrom_append]
    refine runAccesses_bind_run (readPointers_run m T.toNat h4 hr s) ?_
    exact runAccesses_bind (ih fun T' hT => h T' (by simp [hT])) _

/-- Accesses that end with a value were all answered. -/
theorem runAccesses_eq_ok {α : Type} {rs : List Region} {accs : List (Nat × State)} {r : EStateM.Result Stop State α}
    {x : α} (h : runAccesses rs accs r = .ok x t) : (∀ p ∈ accs, regionAt rs p.1 4 = none) ∧ r = .ok x t := by
  induction accs with
  | nil => exact ⟨(fun _ hp => nomatch hp), h⟩
  | cons p accs ih =>
    obtain ⟨a, q⟩ := p
    cases hr : regionAt rs a 4 with
    | none =>
      rw [runAccesses_cons_ordinary hr] at h
      obtain ⟨hrest, hend⟩ := ih h
      exact ⟨List.forall_mem_cons.2 ⟨hr, hrest⟩, hend⟩
    | some kind =>
      cases kind
      · rw [runAccesses_cons_busError hr] at h
        cases h
      · rw [runAccesses_cons_sideEffect hr] at h
        cases h

theorem accessFrom_ordinary {rs : List Region} {as : List Nat} :
    (∀ p ∈ accessFrom s as, regionAt rs p.1 4 = none) ↔ ∀ a ∈ as, regionAt rs a 4 = none := by
  simp [accessFrom]

/-- The first failing load of a list. -/
theorem runAccesses_accessFrom_busError {α : Type} {rs : List Region} {before after : List Nat} {a : Nat}
    (ho : ∀ x ∈ before, regionAt rs x 4 = none) (hb : regionAt rs a 4 = some .busError)
    (r : EStateM.Result Stop State α) :
    runAccesses rs (accessFrom s (before ++ a :: after)) r = .error (.trap .busError (BitVec.ofNat 32 a) 0) s := by
  rw [accessFrom_append, accessFrom_cons]
  exact runAccesses_busError (accessFrom_ordinary.2 ho) hb r

/-! ### The samples before the one that fails -/

theorem statusFault_statusOf (c : FaultCode) : statusFault (statusOf c) = true := by cases c <;> rfl

/-- A command that answers a state with no fault ran to its end. -/
theorem runCommand_ok_of_clear {i : Instr} {e : Engine Unit} (h : runCommand i e s = .next t)
    (hf : statusFault t.win.status = false) : e s = .ok () t := by
  rcases runCommand_next h with hok | ⟨c, a, b, t', -, rfl⟩
  · exact hok
  · exact absurd ((statusFault_statusOf c).symm.trans hf) (by decide)

/-- A loop over samples stops in sample `i`, the samples before it done. -/
theorem forSamples_trap {body : Nat → Engine Unit} {i n : Nat} (hi : i < n) {s t r : State}
    (hdone : forSamples body 0 i s = .ok () t) {c : FaultCode} {a b : Word}
    (hfail : body i t = .error (.trap c a b) r) :
    forSamples body 0 n s = .error (.trap c a (BitVec.ofNat 32 i)) r := by
  obtain ⟨d, rfl⟩ : ∃ d, n = i + (d + 1) := ⟨n - i - 1, by omega⟩
  rw [forSamples_append, engine_bind_ok hdone, Nat.zero_add, forSamples, engine_bind_error (atSample_trap hfail)]

/-- The samples before the one that stops may be those of a command with another window. -/
theorem forSamples_trap_window {body : Nat → Engine Unit} (hbody : ∀ j, Engine.IgnoresWindow (body j)) {i n : Nat}
    (hi : i < n) {w : Window} (hdone : forSamples body 0 i (updateCtrl u { s with win := w }) = .ok () t)
    {c : FaultCode} {a b : Word} {r : State} (hfail : body i { t with win := s.win } = .error (.trap c a b) r) :
    forSamples body 0 n (updateCtrl u s) = .error (.trap c a (BitVec.ofNat 32 i)) r :=
  forSamples_trap hi (ignoresWindow_ok (ignoresWindow_forSamples hbody 0 i) hdone s.win) hfail

/-! ### PROCESS -/

theorem inArgs_withCount (u : UnitId) (w : Window) (n : Word) : inArgs u (withCount u w n) = inArgs u w := by
  cases u <;> rfl

theorem outArgs_withCount (u : UnitId) (w : Window) (n : Word) : outArgs u (withCount u w n) = outArgs u w := by
  cases u <;> rfl

theorem processN_withCount (u : UnitId) (w : Window) (n : Word) : processN u (withCount u w n) = n.toNat := by
  cases u <;> rfl

theorem processN_lt (u : UnitId) (w : Window) : processN u w < 2 ^ 32 := by cases u <;> exact BitVec.isLt _

/-- PROCESS of an admitted channel whose buffers pass runs the control-rate step, then its samples. -/
theorem cmdProcess_run (ha : admitted s u ch.toNat)
    (hb : ∀ b ∈ inArgs u s.win ++ outArgs u s.win, bufferLegal (processN u s.win) b) :
    cmdProcess u ch s = forSamples (processSample u ch.toNat (inArgs u s.win) (outArgs u s.win)) 0 (processN u s.win)
      (updateCtrl u s) := by
  rw [cmdProcess, engine_bind_ok (admitChannel_pass u ch s ha), engine_bind_get,
    engine_bind_ok (requireBuffers_legal hb s), engine_bind_modify]

/-- PROCESS at a load of sample `i` (R156): what a command of only `i` samples leaves. -/
theorem processLoad_busError {i : Nat} {before after : List Word} {b : Word} (ha : admitted s u ch.toNat)
    (hb : ∀ b ∈ inArgs u s.win ++ outArgs u s.win, bufferLegal (processN u s.win) b) (hi : i < processN u s.win)
    (hx : exec (processOf u ch) { s with win := withCount u s.win (BitVec.ofNat 32 i) } = .next t)
    (hclear : statusFault t.win.status = false) (hsplit : inArgs u s.win = before ++ b :: after)
    (ho : ∀ c ∈ before, ordinary s (c.toNat + 4 * i) 4) (hfail : busFails s (b.toNat + 4 * i)) :
    exec (processOf u ch) s = .next (enterFault (encode (processOf u ch)) .busError
      (BitVec.ofNat 32 (b.toNat + 4 * i)) (BitVec.ofNat 32 i) { t with win := s.win }) := by
  have hhw : t.hw = s.hw := (exec_commandFrame hx).hw
  have hcount : (BitVec.ofNat 32 i).toNat = i := by
    have := processN_lt u s.win
    simp only [BitVec.toNat_ofNat]
    omega
  rw [exec_processOf] at hx ⊢
  have hshort := runCommand_ok_of_clear hx hclear
  rw [cmdProcess_run (s := { s with win := withCount u s.win (BitVec.ofNat 32 i) }) ha] at hshort
  · simp only [inArgs_withCount, outArgs_withCount, processN_withCount, hcount] at hshort
    have hload := loadSamples_run hi (fun c hc => hb c (List.mem_append_left _ hc)) { t with win := s.win }
    rw [show (inArgs u s.win).map _ = _ by rw [hsplit, List.map_append, List.map_cons],
      runAccesses_accessFrom_busError (List.forall_mem_map.2 (hhw ▸ ho)) (hhw ▸ hfail)] at hload
    exact runCommand_trap ((cmdProcess_run ha hb).trans (forSamples_trap_window
      (ignoresWindow_processSample u ch.toNat _ _) hi hshort (engine_bind_error hload)))
  · simp only [inArgs_withCount, outArgs_withCount, processN_withCount, hcount]
    exact fun c hc => bufferLegal_mono hi.le (hb c hc)

/-! ### PROCESS_MULTI -/

theorem inArgs_withMultiCount (u : UnitId) (w : Window) (n : Word) : inArgs u (withMultiCount u w n) = inArgs u w := by
  cases u <;> rfl

theorem outArgs_withMultiCount (u : UnitId) (w : Window) (n : Word) :
    outArgs u (withMultiCount u w n) = outArgs u w := by cases u <;> rfl

theorem multiM_withMultiCount (u : UnitId) (w : Window) (n : Word) : multiM u (withMultiCount u w n) = multiM u w := by
  cases u <;> rfl

theorem multiN_withMultiCount (u : UnitId) (w : Window) (n : Word) : multiN u (withMultiCount u w n) = n.toNat := by
  cases u <;> rfl

theorem multiN_lt (u : UnitId) (w : Window) : multiN u w < 2 ^ 32 := by cases u <;> exact BitVec.isLt _

/-- Channels that are all admitted pass. -/
theorem requireChannels_pass {c k : Nat} (h : ∀ d, c ≤ d → d < c + k → admitted s u d) :
    requireChannels u c k s = .ok () s := by
  induction k generalizing c with
  | zero => rfl
  | succ k ih =>
    obtain ⟨-, -, hbound, hvalid⟩ := h c (le_refl c) (by omega)
    rw [requireChannels, engine_check (requireBound_run u c s), if_pos hbound,
      engine_check (requireValid_run u c s), if_pos hvalid]
    exact ih fun d h1 h2 => h d (by omega) (by omega)

/-- What PROCESS_MULTI does once its tables are read (R157). -/
def multiRest (u : UnitId) (m n : Nat) (pin pout : List (List Word)) : Engine Unit := do
  requireBuffers (4 * n) (pin ++ pout).flatten
  modify (updateCtrl u)
  forSamples (multiSample u m pin pout) 0 n

/-- The entries of the tables of a list of operands. -/
def operandTables (u : UnitId) (s : State) (ts : List Word) : List (List Word) :=
  ts.map (tableEntries s (multiM u s.win).toNat)

/-- PROCESS_MULTI of admitted channels whose tables pass reads the tables, then does the rest with their entries. -/
theorem cmdProcessMulti_run (ha : multiAdmitted s u)
    (hT : ∀ T ∈ inArgs u s.win ++ outArgs u s.win, bufferLegal (multiM u s.win).toNat T) :
    cmdProcessMulti u s = runAccesses s.hw.regions (accessFrom s (tableReads u s.win))
      (multiRest u (multiM u s.win).toNat (multiN u s.win) (operandTables u s (inArgs u s.win))
        (operandTables u s (outArgs u s.win)) s) := by
  obtain ⟨hlife, hm, hch⟩ := ha
  rw [cmdProcessMulti, engine_check (requireLife_run u _ s), if_pos ((lifeReady_eq _).2 hlife), engine_bind_get,
    engine_check (require_run _ _ _ s), if_pos (decide_eq_true hm),
    engine_bind_ok (requireChannels_pass fun d _ hd => hch d (by omega)), engine_bind_ok (requireBuffers_legal hT s),
    runAccesses_bind (readTables_run hT s), List.map_append,
    List.take_left' (by rw [List.length_map]), List.drop_left' (by rw [List.length_map])]
  rfl

theorem flatten_operandTables (u : UnitId) (s : State) :
    (operandTables u s (inArgs u s.win) ++ operandTables u s (outArgs u s.win)).flatten = tablePointers u s := by
  rw [operandTables, operandTables, ← List.map_append, ← List.flatMap_def]
  rfl

theorem multiRest_run {m n k : Nat} {pin pout : List (List Word)} (hk : k ≤ n)
    (h : ∀ b ∈ (pin ++ pout).flatten, bufferLegal n b) (s : State) :
    multiRest u m k pin pout s = forSamples (multiSample u m pin pout) 0 k (updateCtrl u s) := by
  rw [multiRest, engine_bind_ok (requireBuffers_legal (fun b hb => bufferLegal_mono hk (h b hb)) s), engine_bind_modify]

/-- PROCESS_MULTI at a table entry (R157). -/
theorem tableRead_busError {before after : List Nat} {a : Nat} (ha : multiAdmitted s u)
    (hT : ∀ T ∈ inArgs u s.win ++ outArgs u s.win, bufferLegal (multiM u s.win).toNat T)
    (hsplit : tableReads u s.win = before ++ a :: after) (ho : ∀ x ∈ before, ordinary s x 4) (hb : busFails s a) :
    exec (processMultiOf u) s =
      .next (enterFault (encode (processMultiOf u)) .busError (BitVec.ofNat 32 a) 0 s) := by
  rw [exec_processMultiOf]
  refine runCommand_trap ?_
  rw [cmdProcessMulti_run ha hT, hsplit]
  exact runAccesses_accessFrom_busError ho hb _

/-- A channel's buffers in the tables of a list of operands are the tables' entries for it. -/
theorem channelBuffers_operandTables (u : UnitId) (s : State) (ts : List Word) {c : Nat}
    (hc : c < (multiM u s.win).toNat) :
    channelBuffers (operandTables u s ts) c = ts.map fun T => tableEntry s T c := by
  rw [channelBuffers, operandTables, List.map_map]
  refine List.map_congr_left fun T _ => ?_
  simp [tableEntries, List.getD_eq_getElem?_getD, hc]

/-- The buffers of a channel are among the pointers that are checked (R157). -/
theorem channelBuffers_legal {n d : Nat} (h : ∀ b ∈ tablePointers u s, bufferLegal n b)
    (hd : d < (multiM u s.win).toNat) {ts : List Word} (hts : ts ⊆ inArgs u s.win ++ outArgs u s.win) :
    ∀ b ∈ channelBuffers (operandTables u s ts) d, bufferLegal n b := by
  rw [channelBuffers_operandTables u s _ hd]
  refine List.forall_mem_map.2 fun T hT => h _ (List.mem_flatMap.2 ⟨T, hts hT, ?_⟩)
  exact List.mem_map_of_mem (List.mem_range.2 hd)

/-- The loads of sample `i` are those of the lanes (R157). -/
theorem laneLoads_multiLanes (u : UnitId) (s : State) (i : Nat) :
    laneLoads (multiLanes u s) i = (List.range' 0 (multiM u s.win).toNat).flatMap fun d =>
      (channelBuffers (operandTables u s (inArgs u s.win)) d).map fun b => b.toNat + 4 * i := by
  rw [laneLoads, multiLanes, List.flatMap_map, ← List.range_eq_range']
  simp only [List.flatMap_def]
  congr 1
  refine List.map_congr_left fun c hc => ?_
  rw [channelBuffers_operandTables u s _ (List.mem_range.1 hc)]

theorem operandTables_withMultiCount (u : UnitId) (s : State) (n : Word) (ts : List Word) :
    operandTables u { s with win := withMultiCount u s.win n } ts = operandTables u s ts := by
  rw [operandTables, multiM_withMultiCount]
  rfl

/-- PROCESS_MULTI at a load of sample `i`: what a command of only `i` samples leaves. -/
theorem multiLoad_busError {before after : List Nat} {a i : Nat} (ha : multiAdmitted s u) (hop : multiOperands s u)
    (hi : i < multiN u s.win)
    (hx : exec (processMultiOf u) { s with win := withMultiCount u s.win (BitVec.ofNat 32 i) } = .next t)
    (hclear : statusFault t.win.status = false) (hsplit : laneLoads (multiLanes u s) i = before ++ a :: after)
    (ho : ∀ x ∈ before, ordinary s x 4) (hfail : busFails s a) :
    exec (processMultiOf u) s = .next (enterFault (encode (processMultiOf u)) .busError
      (BitVec.ofNat 32 a) (BitVec.ofNat 32 i) { t with win := s.win }) := by
  obtain ⟨hT, -, hlegal⟩ := hop
  have hptr := hlegal
  rw [← flatten_operandTables] at hptr
  have hhw : t.hw = s.hw := (exec_commandFrame hx).hw
  have hcount : (BitVec.ofNat 32 i).toNat = i := by
    have := multiN_lt u s.win
    simp only [BitVec.toNat_ofNat]
    omega
  rw [exec_processMultiOf] at hx ⊢
  have hshort := runCommand_ok_of_clear hx hclear
  rw [cmdProcessMulti_run (s := { s with win := withMultiCount u s.win (BitVec.ofNat 32 i) })] at hshort
  · obtain ⟨htables, hrest⟩ := runAccesses_eq_ok hshort
    simp only [inArgs_withMultiCount, outArgs_withMultiCount, multiM_withMultiCount, multiN_withMultiCount, hcount,
      operandTables_withMultiCount] at hrest
    rw [multiRest_run hi.le hptr] at hrest
    have hread : ∀ p ∈ accessFrom s (tableReads u s.win), regionAt s.hw.regions p.1 4 = none := by
      rw [accessFrom_ordinary] at htables ⊢
      simpa only [tableReads, inArgs_withMultiCount, outArgs_withMultiCount, multiM_withMultiCount] using htables
    obtain ⟨xss, -, hload⟩ := loadChannels_run hi (pin := operandTables u s (inArgs u s.win)) 0 (multiM u s.win).toNat
      (fun d _ hd => channelBuffers_legal hlegal (by omega) (List.subset_append_left _ _)) { t with win := s.win }
    rw [← laneLoads_multiLanes, hsplit, runAccesses_accessFrom_busError (hhw ▸ ho) (hhw ▸ hfail)] at hload
    refine runCommand_trap ((cmdProcessMulti_run ha hT).trans ((runAccesses_ordinary hread _).trans ?_))
    rw [multiRest_run (le_refl _) hptr]
    exact forSamples_trap_window (ignoresWindow_multiSample u _ _ _) hi hrest (engine_bind_error hload)
  · obtain ⟨hlife, hm, hch⟩ := ha
    exact ⟨hlife, (multiM_withMultiCount u s.win _).symm ▸ hm, fun c hc => hch c (multiM_withMultiCount u s.win _ ▸ hc)⟩
  · simpa only [inArgs_withMultiCount, outArgs_withMultiCount, multiM_withMultiCount] using hT

end Sys2Proof.Machine
end

-- ==== Proofs: bus errors ====
section
/-! PROOFS. A bus error of each access of DELAY's and REVERB's commands, of a table read and of a sample's load
(60_exceptions.md R440), from the accesses each command makes. -/

namespace Sys2Proof.Machine
open Sys2Proof.Config

variable {s : State}

/-! ### What a part-way RESET_STATE of REVERB leaves in memory -/

/-- The memory where the lines before `j` are filled, and the first `k` words of `j`. -/
def seedMem (s : State) (ch : Nat) (v : PerLine F32) (j : RevLine) (k : Nat) : List Host.Cell :=
  fillMem ((linesBefore j).foldl (fillLine s ch v) s.mem) (lineBase s (.reverb ch j)) (v.get j) k

section
variable {ch : Nat} {v : PerLine F32} {j : RevLine} {k : Nat}

/-- The lines before `j` hold their values. -/
theorem readWord_seedMem_before (h : Inv s) (hb : (s.binding .reverb ch).bound = true) {l : RevLine}
    (hl : l ∈ linesBefore j) {x : Nat} (hx : x < lineCap s (.reverb ch l)) :
    readWord (seedMem s ch v j k) (lineBase s (.reverb ch l) + 4 * x) = v.get l := by
  have hlay := reverbLayout_of_bound h hb
  have hend := line_before hlay ch hl
  rw [seedMem, readWord_fillMem_other _ _ _ _ _ (by omega)]
  exact readWord_fillLines hlay (linesLaid h hb) s.mem h.mem_wf hx hl

/-- The first words of `j` hold its value. -/
theorem readWord_seedMem_own (h : Inv s) (hb : (s.binding .reverb ch).bound = true)
    (hk : k < lineCap s (.reverb ch j)) {x : Nat} (hx : x < k) :
    readWord (seedMem s ch v j k) (lineBase s (.reverb ch j) + 4 * x) = v.get j := by
  have hlaid := linesLaid h hb
  have htop := (hlaid j).2
  exact readWord_fillMem _ _ _ _ x (by omega) (wf_fillLines hlaid _ _ h.mem_wf) hx

/-- A byte outside the arena's first words is as it was. -/
theorem readByte_seedMem_other (h : Inv s) (hb : (s.binding .reverb ch).bound = true) {a : Nat}
    (ha : ¬(arenaBase s .reverb ch ≤ a ∧ a < lineBase s (.reverb ch j) + 4 * k)) :
    readByte (seedMem s ch v j k) a = readByte s.mem a := by
  have hlay := reverbLayout_of_bound h hb
  have hbase : ∀ l, arenaBase s .reverb ch ≤ lineBase s (.reverb ch l) := fun l => Nat.le_add_right _ _
  rw [seedMem, readByte_fillMem_other _ _ _ _ _ (by have := hbase j; omega)]
  refine readByte_fillLines_other s.mem fun l hl => ?_
  have hend := line_before hlay ch hl
  have := hbase l
  omega

/-- The words of the arena before word `k` of line `j`, line by line (R375). -/
theorem ordinary_before (h : Inv s) (hb : (s.binding .reverb ch).bound = true)
    (ho : ∀ x, 4 * x < (s.coefs.reverb.off.get j).toNat + 4 * k → ordinary s (arenaBase s .reverb ch + 4 * x) 4)
    {l : RevLine} {x : Nat} (hx : lineBase s (.reverb ch l) + 4 * x < lineBase s (.reverb ch j) + 4 * k) :
    ordinary s (lineBase s (.reverb ch l) + 4 * x) 4 := by
  obtain ⟨-, hoff, -⟩ := reverbLayout_of_bound h hb
  have hbase : ∀ l, lineBase s (.reverb ch l) = arenaBase s .reverb ch + (s.coefs.reverb.off.get l).toNat :=
    fun _ => rfl
  have hword := ho (capSum s.coefs.reverb (linesBefore l) + x) (by rw [hbase, hbase, hoff] at hx; omega)
  rwa [Nat.mul_add, ← hoff, ← Nat.add_assoc, ← hbase] at hword

end

/-- The largest index DELAY_READ accepts, by the fraction's value (R352). -/
theorem readLimit_eq {f : F32} (hf : isFinite f = true) (len : Word) :
    readLimit len f = if scaled f = 0 then len.toNat else len.toNat - 1 := by
  rw [readLimit]
  simp only [fEq_f0_iff hf]

/-- Settles O48: each command at the access that fails, from the accesses it makes in order. -/
theorem busErrors : Obligations.BusErrors := by
  refine ⟨?delayStore, ?delayRead, ?delayLoad, ?delayFill, ?reverbFill, ?reverbSample, ?tableRead, ?processLoad,
    ?multiLoad⟩
  case delayStore => exact fun s ch h hf ha hb i hi => delayStore_busError h hf ha hb hi
  case delayRead =>
    intro s ch h ha f len at_ hf h0 h1 hlo hhi a hb hsplit
    refine delayRead_busError h ha ((okFraction_iff hf).2 ⟨h0, h1⟩) hlo ((readLimit_eq hf _).symm ▸ hhi) hb ?_
    refine hsplit.imp id fun ⟨hne, ho, haddr⟩ => ⟨?_, ho, haddr⟩
    rw [← Bool.not_eq_true, fEq_f0_iff hf]
    exact hne
  case delayLoad => exact fun s ch h hf ha ho a hb hsplit => delayLoad_busError h hf ha ho hb rfl hsplit
  case delayFill =>
    intro s ch k h hf hc hl hbound hk b ho hb
    obtain ⟨-, htop⟩ := line_laid h hbound (l := .delay ch.toNat) (List.mem_singleton.2 rfl)
    have hlen : b + 4 * s.coefs.delay.len.toNat ≤ 2 ^ 32 := htop
    refine ⟨_, delayFill_busError h hf hc hl hbound hk ho hb, fun j hj => ?_, fun a ha => ?_⟩
    · exact readWord_fillMem _ k s.mem _ j (by omega) h.mem_wf hj
    · exact readByte_fillMem_other _ _ _ _ a (by omega)
  case reverbFill =>
    intro s ch j k h hf0 hf1 hc hl hbound hk v b off ho hb
    have hbefore : ∀ l ∈ linesBefore j, ∀ x, x < lineCap s (.reverb ch.toNat l) →
        ordinary s (lineBase s (.reverb ch.toNat l) + 4 * x) 4 := fun l hl x hx => by
      have hend := line_before (reverbLayout_of_bound h hbound) ch.toNat hl
      exact ordinary_before h hbound ho (by omega)
    have hown : ∀ x, x < k → ordinary s (lineBase s (.reverb ch.toNat j) + 4 * x) 4 := fun x hx =>
      ordinary_before h hbound ho (by omega)
    exact ⟨seedMem s ch.toNat v j k, reverbFill_busError h hf0 hf1 hc hl hbound rfl j hk hbefore hown hb,
      fun l hl x hx => readWord_seedMem_before h hbound hl hx, fun x hx => readWord_seedMem_own h hbound hk hx,
      fun a ha => readByte_seedMem_other h hbound ha⟩
  case reverbSample =>
    intro s ch before after a n h hf0 hf1 ha hsplit ho hb r
    have huse := reverbInUse h ha
    refine ⟨writeLines s ch.toNat r.word (linesWritten n), ?_, fun j hj => ?_, fun x hx => ?_⟩
    · rw [reverbSample_busError h hf0 hf1 ha hsplit ho hb, stageAt_eq]
    · exact (readWord_writeLines huse r.word _ j (huse.lines j).cursor).trans (if_pos ⟨hj, rfl⟩)
    · exact readByte_writeLines_other s ch.toNat r.word _ hx
  case tableRead => exact fun u s before after a ha hT hsplit ho hb => tableRead_busError ha hT hsplit ho hb
  case processLoad =>
    exact fun u s t ch before after b i ha hb hi hx hf hsplit ho hfail =>
      processLoad_busError ha hb hi hx hf hsplit ho hfail
  case multiLoad =>
    exact fun u s t before after a i _ ha hop hi hx hf hsplit ho hfail =>
      multiLoad_busError ha hop hi hx hf hsplit ho hfail

end Sys2Proof.Machine
end

-- ==== Proofs: computations that answer ====
section
/-! PROOFS. A computation answers when it ends with a value or with the block's own fault, and not with a stop of the model's
own (notes/assumptions/12, 13). One rule for each way computations are put together, then the parts of the commands: where
no location has side effects, a part given by its accesses answers, because it gives aligned addresses below 2^32. -/

namespace Sys2Proof.Machine
open Sys2Proof.Config

/-- A computation ends with a value and a state of which `Q` holds, or with a fault of the block. -/
inductive Answers {α : Type} (Q : α → State → Prop) : EStateM.Result Stop State α → Prop
  | ok {a : α} {t : State} (h : Q a t) : Answers Q (.ok a t)
  | trap (c : FaultCode) (a b : Word) (t : State) : Answers Q (.error (.trap c a b) t)

section
variable {α β : Type} {e : Engine α} {k : α → Engine β} {s : State} {P : α → State → Prop} {Q : β → State → Prop}

theorem Answers.mono {P' : α → State → Prop} {r : EStateM.Result Stop State α} (h : Answers P r)
    (hi : ∀ a t, P a t → P' a t) : Answers P' r := by
  cases h with
  | ok h => exact .ok (hi _ _ h)
  | trap c a b t => exact .trap c a b t

theorem answers_bind (h : Answers P (e s)) (hk : ∀ a t, P a t → Answers Q (k a t)) : Answers Q ((e >>= k) s) := by
  generalize hr : e s = r at h
  cases h with
  | ok h =>
    rw [engine_bind_ok hr]
    exact hk _ _ h
  | trap c a b t =>
    rw [engine_bind_error hr]
    exact .trap c a b t

/-- A check before a computation that answers where the check passes. -/
theorem answers_check {e : Engine Unit} {k : Unit → Engine β} {c : Prop} [Decidable c] {x : FaultCode} {a b : Word}
    (h : e s = if c then .ok () s else .error (.trap x a b) s) (hk : c → Answers Q (k () s)) :
    Answers Q ((e >>= k) s) := by
  rw [engine_check h]
  split
  · exact hk ‹c›
  · exact .trap x a b s

/-- What a computation keeps holds of the state in which it ends. -/
theorem answers_of_keeps {R : State → State → Prop} (hk : Engine.Keeps R e) (h : Answers (fun _ _ => True) (e s)) :
    Answers (fun _ => R s) (e s) := by
  generalize hr : e s = r at h ⊢
  cases h with
  | ok _ => exact .ok (keeps_ok hk hr)
  | trap c a b t => exact .trap c a b t

/-- A command whose computation answers has a next state. -/
theorem exists_next_of_answers {i : Instr} {e : Engine Unit} {P : Unit → State → Prop} (h : Answers P (e s)) :
    ∃ t, runCommand i e s = .next t := by
  generalize hr : e s = r at h
  cases h with
  | ok _ => exact ⟨_, runCommand_ok hr⟩
  | trap c a b t => exact ⟨_, runCommand_trap hr⟩

theorem regionAt_ne_sideEffect {rs : List Region} (h : ∀ r ∈ rs, r.kind ≠ .sideEffect) (a n : Nat) :
    regionAt rs a n ≠ some .sideEffect := by
  induction rs with
  | nil => exact fun h => nomatch h
  | cons r rs ih =>
    unfold regionAt
    split
    · exact fun hr => h r (by simp) (Option.some.inj hr)
    · exact ih fun q hq => h q (by simp [hq])

/-- A computation given by its accesses answers where its end does. -/
theorem answers_runAccesses (h : noSideEffects s) (accs : List (Nat × State)) {r : EStateM.Result Stop State α}
    (hr : Answers P r) : Answers P (runAccesses s.hw.regions accs r) := by
  induction accs with
  | nil => exact hr
  | cons p accs ih =>
    obtain ⟨a, t⟩ := p
    cases hk : regionAt s.hw.regions a 4 with
    | none =>
      rw [runAccesses_cons_ordinary hk]
      exact ih
    | some kind =>
      cases kind
      · rw [runAccesses_cons_busError hk]
        exact .trap _ _ _ _
      · exact absurd hk (regionAt_ne_sideEffect h a 4)

end

/-! ### Checks of lists -/

section
variable {s : State}

theorem answers_requireFinite (xs : List F32) (s : State) : Answers (fun _ t => t = s) (requireFinite xs s) := by
  rcases requireFinite_cases s xs with ⟨h, -⟩ | ⟨v, -, -, h⟩
  · rw [h]
    exact .ok rfl
  · rw [h]
    exact .trap _ _ _ _

/-- The buffers that pass are legal. -/
theorem answers_requireBuffers (n : Nat) (bs : List Word) (s : State) :
    Answers (fun _ t => t = s ∧ ∀ b ∈ bs, bufferLegal n b) (requireBuffers (4 * n) bs s) := by
  induction bs with
  | nil => exact .ok ⟨rfl, fun _ h => nomatch h⟩
  | cons b bs ih =>
    refine answers_check (require_run _ _ _ s) fun h4 => answers_check (require_run _ _ _ s) fun hr => ih.mono ?_
    rintro _ t ⟨rfl, hbs⟩
    exact ⟨rfl, List.forall_mem_cons.2 ⟨(bufferLegal_iff n b).2 ⟨h4, hr⟩, hbs⟩⟩

/-- The channels that pass are bound and valid. -/
theorem answers_requireChannels (u : UnitId) (c k : Nat) (s : State) :
    Answers (fun _ t => t = s ∧ ∀ d, c ≤ d → d < c + k →
      (hasMemory u = true → (s.binding u d).bound = true) ∧ s.stValid u d = true) (requireChannels u c k s) := by
  induction k generalizing c with
  | zero => exact .ok ⟨rfl, fun d h1 h2 => by omega⟩
  | succ k ih =>
    refine answers_check (requireBound_run u c s) fun hb => answers_check (requireValid_run u c s) fun hv =>
      (ih (c + 1)).mono ?_
    rintro _ t ⟨rfl, hrest⟩
    refine ⟨rfl, fun d h1 h2 => ?_⟩
    rcases Nat.eq_or_lt_of_le h1 with rfl | hlt
    · exact ⟨hb, hv⟩
    · exact hrest d hlt (by omega)

/-! ### Hooks -/

theorem process1Hook_delay (ch : Nat) (xs : List F32) (s : State) :
    process1Hook .delay ch xs s = delayStep ch (sample0 xs) s := by
  rw [process1Hook, engine_bind_get]

theorem resetStateHook_delay (ch : Nat) (xs : List F32) (s : State) :
    resetStateHook .delay ch xs s = delayReset ch (sample0 xs) s := by
  rw [resetStateHook, engine_bind_get]

/-- One sample of an admitted channel. -/
theorem answers_process1Hook (h : Inv s) (hp : noSideEffects s) {u : UnitId} {ch : Nat} (ha : admitted s u ch)
    (xs : List F32) : Answers (fun _ => HookStep s) (process1Hook u ch xs s) := by
  refine answers_of_keeps (keeps_process1Hook channelRel_hookStep u ch xs) ?_
  cases u with
  | delay =>
    rw [process1Hook_delay, delayStep_run (delayLineOk h ha)]
    exact answers_runAccesses hp _ (.ok trivial)
  | reverb =>
    rw [process1Hook_reverb, reverbStep_run (reverbInUse h ha) _ _ rfl]
    exact answers_runAccesses hp _ (.ok trivial)
  | _ => exact .ok trivial

/-- The seeding of a channel the block has, bound where it has memory. -/
theorem answers_resetStateHook (h : Inv s) (hp : noSideEffects s) {u : UnitId} {ch : Nat} (hc : ch < s.hw.nCh)
    (hb : hasMemory u = true → (s.binding u ch).bound = true) (xs : List F32) :
    Answers (fun _ _ => True) (resetStateHook u ch xs s) := by
  cases u with
  | delay =>
    obtain ⟨h4, hr⟩ := line_laid h (hb rfl) (List.mem_singleton.2 rfl)
    rw [resetStateHook_delay, delayReset_run h4 hr]
    exact answers_runAccesses hp _ (.ok trivial)
  | reverb =>
    obtain ⟨-, -, -, -, -, -, -, -, -, -, -, -, hcount⟩ := h.counts
    obtain ⟨ys, hrun⟩ := reverbReset_run (reverbLayout_of_bound h (hb rfl)) (linesLaid h (hb rfl)) (hcount.symm ▸ hc)
      (sample0 xs) (sample1 xs)
    rw [resetStateHook_reverb, hrun]
    exact answers_runAccesses hp _ (.ok trivial)
  | _ => exact .ok trivial

end

/-! ### Samples of batched commands -/

/-- What the samples of a batched command find, and leave: the invariant, a platform without side effects, and the channels
they process admitted. -/
structure SamplesReady (u : UnitId) (C : Nat → Prop) (s : State) : Prop where
  inv : Inv s
  plain : noSideEffects s
  admitted : ∀ c, C c → admitted s u c

section
variable {u : UnitId} {C : Nat → Prop} {s t : State}

theorem SamplesReady.of_same (h : SamplesReady u C s) (hinv : Inv t) (hhw : t.hw = s.hw)
    (hlife : (t.regs.get u).life = (s.regs.get u).life) (hvalid : t.valid = s.valid) (hbinds : t.binds = s.binds) :
    SamplesReady u C t where
  inv := hinv
  plain := by
    have := h.plain
    rwa [noSideEffects, hhw]
  admitted c hc := by
    have := h.admitted c hc
    rwa [Machine.admitted, hlife, hhw, binding_congr hbinds, stValid_congr hvalid]

theorem SamplesReady.hook (h : SamplesReady u C s) (k : HookStep s t) : SamplesReady u C t :=
  h.of_same (k.inv h.inv) k.hw (by rw [k.regs]) k.valid k.binds

theorem SamplesReady.updateAudio (h : SamplesReady u C s) : SamplesReady u C (updateAudio u s) :=
  h.of_same (inv_updateAudio h.inv u) rfl rfl rfl rfl

theorem SamplesReady.updateCtrl (h : SamplesReady u C s) : SamplesReady u C (updateCtrl u s) :=
  h.of_same (inv_updateCtrl h.inv u) rfl (by
    show (UnitRegs.life ((s.regs.set u _).get u)) = _
    rw [PerUnit.get_set_self]) rfl rfl

theorem SamplesReady.store (h : SamplesReady u C s) {a : Nat} (hr : a + 4 ≤ 2 ^ 32) (x : Word) :
    SamplesReady u C { s with mem := writeWord s.mem a x } :=
  h.of_same (invKept_store s x hr h.inv) rfl rfl rfl rfl

theorem answers_storeSamples {n i : Nat} (hi : i < n) {bs : List Word} (hbs : ∀ b ∈ bs, bufferLegal n b)
    (ys : List F32) (h : SamplesReady u C s) : Answers (fun _ => SamplesReady u C) (storeSamples i bs ys s) := by
  induction bs generalizing s ys with
  | nil => exact .ok h
  | cons b bs ih =>
    cases ys with
    | nil => exact .ok h
    | cons y ys =>
      obtain ⟨⟨h4, hr⟩, hrest⟩ := List.forall_mem_cons.1 hbs
      have hstore : Answers (fun _ => SamplesReady u C) (memWrite (b.toNat + 4 * i) y s) := by
        rw [memWrite_run (by omega) (by omega)]
        exact answers_runAccesses h.plain _ (.ok (h.store (by omega) y))
      exact answers_bind hstore fun _ _ h => ih hrest ys h

theorem answers_atSample {e : Engine Unit} {Q : Unit → State → Prop} (i : Nat) (h : Answers Q (e s)) :
    Answers Q (atSample i e s) := by
  generalize hr : e s = r at h
  cases h with
  | ok h =>
    rw [atSample_ok hr]
    exact .ok h
  | trap c a b t =>
    rw [atSample_trap hr]
    exact .trap _ _ _ _

/-- A loop over samples each of which answers and leaves what the next one needs. -/
theorem answers_forSamples {P : State → Prop} {body : Nat → Engine Unit} {i k : Nat}
    (hb : ∀ j, i ≤ j → j < i + k → ∀ s, P s → Answers (fun _ => P) (body j s)) (h : P s) :
    Answers (fun _ => P) (forSamples body i k s) := by
  induction k generalizing i s with
  | zero => exact .ok h
  | succ k ih =>
    refine answers_bind (answers_atSample i (hb i (le_refl i) (by omega) s h)) fun _ _ h => ?_
    exact ih (fun j h1 h2 => hb j (by omega) (by omega)) h

/-- Sample `i` of PROCESS (R156). -/
theorem answers_processSample {ch n i : Nat} {ins outs : List Word} (hi : i < n) (hch : C ch)
    (hbs : ∀ b ∈ ins ++ outs, bufferLegal n b) (h : SamplesReady u C s) :
    Answers (fun _ => SamplesReady u C) (processSample u ch ins outs i s) := by
  have hload : Answers (fun _ t => t = s) (loadSamples i ins s) := by
    rw [loadSamples_run hi fun b hb => hbs b (List.mem_append_left _ hb)]
    exact answers_runAccesses h.plain _ (.ok rfl)
  refine answers_bind hload fun xs _ ht => ?_
  subst ht
  refine answers_bind (answers_requireFinite xs _) fun _ _ ht => ?_
  subst ht
  have h := h.updateAudio
  rw [engine_bind_modify]
  refine answers_bind (answers_process1Hook h.inv h.plain (h.admitted ch hch) xs) fun ys _ k => ?_
  exact answers_storeSamples hi (fun b hb => hbs b (List.mem_append_right _ hb)) ys (h.hook k)

/-- The channels of one sample of PROCESS_MULTI, one after the other. -/
theorem answers_processChannels {n i c : Nat} {pout : List (List Word)} (hi : i < n) {xss : List (List F32)}
    (hC : ∀ d, c ≤ d → d < c + xss.length → C d ∧ ∀ b ∈ channelBuffers pout d, bufferLegal n b)
    (h : SamplesReady u C s) : Answers (fun _ => SamplesReady u C) (processChannels u pout i c xss s) := by
  induction xss generalizing c s with
  | nil => exact .ok h
  | cons xs xss ih =>
    obtain ⟨hc, hbs⟩ := hC c (le_refl c) (by simp)
    refine answers_bind (answers_process1Hook h.inv h.plain (h.admitted c hc) xs) fun ys _ k => ?_
    refine answers_bind (answers_storeSamples hi hbs ys (h.hook k)) fun _ _ h => ih (fun d h1 h2 => ?_) h
    exact hC d (by omega) (by rw [List.length_cons]; omega)

/-- Sample `i` of PROCESS_MULTI (R157). -/
theorem answers_multiSample {m n i : Nat} {pin pout : List (List Word)} (hi : i < n)
    (hin : ∀ d, d < m → ∀ b ∈ channelBuffers pin d, bufferLegal n b)
    (hout : ∀ d, d < m → ∀ b ∈ channelBuffers pout d, bufferLegal n b) (h : SamplesReady u (· < m) s) :
    Answers (fun _ => SamplesReady u (· < m)) (multiSample u m pin pout i s) := by
  have hload : Answers (fun xss t => t = s ∧ xss.length = m) (loadChannels pin i 0 m s) := by
    obtain ⟨xss, hlen, hrun⟩ := loadChannels_run hi (pin := pin) 0 m (fun d _ hd => hin d (by omega)) s
    rw [hrun]
    exact answers_runAccesses h.plain _ (.ok ⟨rfl, hlen⟩)
  refine answers_bind hload fun xss _ ⟨ht, hlen⟩ => ?_
  subst ht
  refine answers_bind (answers_requireFinite _ _) fun _ _ ht => ?_
  subst ht
  rw [engine_bind_modify]
  refine answers_processChannels hi (fun d _ hd => ?_) h.updateAudio
  have hd : d < m := by omega
  exact ⟨hd, hout d hd⟩

end

end Sys2Proof.Machine
end

-- ==== Proofs: every command answers ====
section
/-! PROOFS. Every command answers, shape by shape, from a state with the invariant on a platform without side effects. -/

namespace Sys2Proof.Machine
open Sys2Proof.Config

variable {s : State} {u : UnitId} {ch : BitVec 6}

/-! ### Commands that access no data memory -/

/-- What a check selects answers when both of its branches do. -/
theorem answers_if {α : Type} {c : Prop} [Decidable c] {P : α → State → Prop} {r r' : EStateM.Result Stop State α}
    (h : Answers P r) (h' : Answers P r') : Answers P (if c then r else r') := by
  split
  · exact h
  · exact h'

theorem answers_cmdInit (u : UnitId) (s : State) : Answers (fun _ _ => True) (cmdInit u s) := by
  rw [cmdInit_run]
  exact answers_if (.ok trivial) (.trap _ _ _ _)

theorem answers_cmdSetSr (u : UnitId) (s : State) : Answers (fun _ _ => True) (cmdSetSr u s) := by
  rw [cmdSetSr_run]
  exact answers_if (answers_if (answers_if (.ok trivial) (.trap _ _ _ _)) (.trap _ _ _ _)) (.trap _ _ _ _)

theorem answers_cmdResetCoeffs (u : UnitId) (s : State) : Answers (fun _ _ => True) (cmdResetCoeffs u s) := by
  rw [cmdResetCoeffs_run]
  exact answers_if (.ok trivial) (.trap _ _ _ _)

theorem answers_cmdUpdateCtrl (u : UnitId) (s : State) : Answers (fun _ _ => True) (cmdUpdateCtrl u s) := by
  rw [cmdUpdateCtrl_run]
  exact answers_if (.ok trivial) (.trap _ _ _ _)

theorem answers_cmdUpdateAudio (u : UnitId) (s : State) : Answers (fun _ _ => True) (cmdUpdateAudio u s) := by
  rw [cmdUpdateAudio_run]
  exact answers_if (.ok trivial) (.trap _ _ _ _)

theorem answers_cmdSetParam (u : UnitId) (ok : Word → Bool) (bits : Word) (write : Word → Coefs → Coefs) (s : State) :
    Answers (fun _ _ => True) (cmdSetParam u ok bits write s) := by
  rw [cmdSetParam_run]
  exact answers_if (answers_if (.ok trivial) (.trap _ _ _ _)) (.trap _ _ _ _)

theorem answers_cmdMemReq (u : UnitId) (s : State) : Answers (fun _ _ => True) (cmdMemReq u s) := by
  rw [cmdMemReq_run]
  exact answers_if (.ok trivial) (.trap _ _ _ _)

theorem answers_cmdMemSet (u : UnitId) (ch : BitVec 6) (s : State) :
    Answers (fun _ _ => True) (cmdMemSet u ch s) := by
  rw [cmdMemSet_run]
  exact answers_if (answers_if (answers_if (answers_if (.ok trivial) (.trap _ _ _ _)) (.trap _ _ _ _))
    (.trap _ _ _ _)) (.trap _ _ _ _)

theorem answers_cmdReadState (ch : BitVec 6) (reg : State → Nat → Word) (s : State) :
    Answers (fun _ _ => True) (cmdReadState ch reg s) := by
  rw [cmdReadState_run]
  exact answers_if (.ok trivial) (.trap _ _ _ _)

/-! ### Single commands on a channel -/

theorem answers_admitChannel (u : UnitId) (ch : BitVec 6) (s : State) :
    Answers (fun _ t => t = s ∧ admitted s u ch.toNat) (admitChannel u ch s) := by
  rcases admitChannel_cases u ch s with ⟨h, ha⟩ | ⟨c, a, h⟩
  · rw [h]
    exact .ok ⟨rfl, ha⟩
  · rw [h]
    exact .trap _ _ _ _

/-- RESET_STATE (R145). -/
theorem answers_cmdResetState (h : Inv s) (hp : noSideEffects s) (u : UnitId) (ch : BitVec 6) :
    Answers (fun _ _ => True) (cmdResetState u ch s) := by
  refine answers_check (requireChannel_run ch s) fun hc => answers_check (requireLife_run u _ s) fun _ =>
    answers_check (requireBound_run u ch.toNat s) fun hb => ?_
  rw [engine_bind_get]
  refine answers_bind (answers_requireFinite _ s) fun _ _ ht => ?_
  subst ht
  rw [engine_bind_modify]
  exact answers_bind (answers_resetStateHook (inv_beforeSeed h u ch.toNat) hp hc hb _) fun _ _ _ => .ok trivial

/-- PROCESS1 (R148). -/
theorem answers_cmdProcess1 (h : Inv s) (hp : noSideEffects s) (u : UnitId) (ch : BitVec 6) :
    Answers (fun _ _ => True) (cmdProcess1 u ch s) := by
  refine answers_bind (answers_admitChannel u ch s) fun _ _ ⟨ht, ha⟩ => ?_
  subst ht
  rw [engine_bind_get]
  refine answers_bind (answers_requireFinite _ _) fun _ _ ht => ?_
  subst ht
  exact answers_bind (answers_process1Hook h hp ha _) fun _ _ _ => .ok trivial

/-- DELAY_READ (R352). -/
theorem answers_cmdDelayRead (h : Inv s) (hp : noSideEffects s) (ch : BitVec 6) :
    Answers (fun _ _ => True) (cmdDelayRead ch s) := by
  refine answers_bind (answers_admitChannel .delay ch s) fun _ _ ⟨ht, ha⟩ => ?_
  subst ht
  refine answers_check (require_run _ _ _ _) fun _ => answers_check (require_run _ _ _ _) fun _ => ?_
  rw [runAccesses_bind (dlRead_run (delayLineOk h ha) _ _)]
  exact answers_runAccesses hp _ (.ok trivial)

/-- DELAY_WRITE (R353). -/
theorem answers_cmdDelayWrite (h : Inv s) (hp : noSideEffects s) (ch : BitVec 6) :
    Answers (fun _ _ => True) (cmdDelayWrite ch s) := by
  refine answers_bind (answers_admitChannel .delay ch s) fun _ _ ⟨ht, ha⟩ => ?_
  subst ht
  refine answers_check (require_run _ _ _ _) fun _ => ?_
  rw [dlWrite_run (delayLineOk h ha)]
  exact answers_runAccesses hp _ (.ok trivial)

/-! ### Batched commands -/

/-- PROCESS (R156): its one channel stays admitted from sample to sample. -/
theorem answers_cmdProcess (h : Inv s) (hp : noSideEffects s) (u : UnitId) (ch : BitVec 6) :
    Answers (fun _ _ => True) (cmdProcess u ch s) := by
  refine answers_bind (answers_admitChannel u ch s) fun _ _ ⟨ht, ha⟩ => ?_
  subst ht
  rw [engine_bind_get]
  refine answers_bind (answers_requireBuffers _ _ _) fun _ _ ⟨ht, hbs⟩ => ?_
  subst ht
  have hready : SamplesReady u (· = ch.toNat) _ := ⟨h, hp, fun c hc => hc ▸ ha⟩
  rw [engine_bind_modify]
  refine (answers_forSamples (fun j _ hj s hs => ?_) hready.updateCtrl).mono fun _ _ _ => trivial
  exact answers_processSample (C := (· = ch.toNat)) (by omega) rfl hbs hs

/-- PROCESS_MULTI once its tables are read (R157). -/
theorem answers_multiRest (h : Inv s) (hp : noSideEffects s) (ha : multiAdmitted s u) (n : Nat) :
    Answers (fun _ _ => True) (multiRest u (multiM u s.win).toNat n (operandTables u s (inArgs u s.win))
      (operandTables u s (outArgs u s.win)) s) := by
  have hready : SamplesReady u (· < (multiM u s.win).toNat) s := by
    obtain ⟨-, -, hch⟩ := ha
    exact ⟨h, hp, hch⟩
  rw [multiRest, flatten_operandTables]
  refine answers_bind (answers_requireBuffers n _ s) fun _ _ ⟨ht, hlegal⟩ => ?_
  subst ht
  rw [engine_bind_modify]
  refine (answers_forSamples (fun i _ hi s hs => ?_) hready.updateCtrl).mono fun _ _ _ => trivial
  exact answers_multiSample (by omega) (fun d hd => channelBuffers_legal hlegal hd (List.subset_append_left _ _))
    (fun d hd => channelBuffers_legal hlegal hd (List.subset_append_right _ _)) hs

/-- PROCESS_MULTI (R157): its checks admit the channels and the tables that its samples use. -/
theorem answers_cmdProcessMulti (h : Inv s) (hp : noSideEffects s) (u : UnitId) :
    Answers (fun _ _ => True) (cmdProcessMulti u s) := by
  by_cases hpass : multiAdmitted s u ∧ ∀ T ∈ inArgs u s.win ++ outArgs u s.win, bufferLegal (multiM u s.win).toNat T
  · obtain ⟨ha, hT⟩ := hpass
    rw [cmdProcessMulti_run ha hT]
    exact answers_runAccesses hp _ (answers_multiRest h hp ha _)
  · refine answers_check (requireLife_run u _ s) fun hlife => answers_check (require_run _ _ _ s) fun hm =>
      answers_bind (answers_requireChannels u 0 _ s) fun _ _ ⟨ht, hch⟩ => ?_
    subst ht
    refine answers_bind (answers_requireBuffers _ _ _) fun _ _ ⟨_, hT⟩ => absurd ⟨⟨?_, ?_, fun c hc => ?_⟩, hT⟩ hpass
    · exact (lifeReady_eq _).1 hlife
    · exact of_decide_eq_true hm
    · exact ⟨(lifeReady_eq _).1 hlife, Nat.lt_of_lt_of_le hc (of_decide_eq_true hm), hch c (Nat.zero_le c) (by omega)⟩

/-! ### All commands -/

theorem answers_command (h : Inv s) (hp : noSideEffects s) {i : Instr} {e : Engine Unit} (hshape : CommandShape i e) :
    Answers (fun _ _ => True) (e s) := by
  cases hshape with
  | nop => exact .ok trivial
  | init u => exact answers_cmdInit u s
  | setSr u => exact answers_cmdSetSr u s
  | resetCoeffs u => exact answers_cmdResetCoeffs u s
  | resetState u ch => exact answers_cmdResetState h hp u ch
  | updateCtrl u => exact answers_cmdUpdateCtrl u s
  | updateAudio u => exact answers_cmdUpdateAudio u s
  | process1 u ch => exact answers_cmdProcess1 h hp u ch
  | process u ch => exact answers_cmdProcess h hp u ch
  | processMulti u => exact answers_cmdProcessMulti h hp u
  | setParam _ u ok bits write opc unit mask only => exact answers_cmdSetParam u ok bits write s
  | memReqDelay => exact answers_cmdMemReq .delay s
  | memReqReverb => exact answers_cmdMemReq .reverb s
  | memSetDelay ch => exact answers_cmdMemSet .delay ch s
  | memSetReverb ch => exact answers_cmdMemSet .reverb ch s
  | delayRead ch => exact answers_cmdDelayRead h hp ch
  | delayWrite ch => exact answers_cmdDelayWrite h hp ch
  | readCoef _ u reg opc unit reads => exact .ok trivial
  | readState _ u ch reg opc unit channel reads => exact answers_cmdReadState ch reg s

/-- Settles O60: a command is one of the shapes, and each of them answers. -/
theorem everyCommandAnswersNext : Obligations.EveryCommandAnswersNext := by
  intro i s h hp
  obtain ⟨e, hshape, hexec⟩ := exec_shape i
  rw [hexec]
  exact exists_next_of_answers (answers_command h hp hshape)

end Sys2Proof.Machine
end

-- ==== Proofs: the encoding ====
section
/-! PROOFS. The command word (30_encoding.md R111 to R118): the packing of the five fields, the units and the selects
each opcode accepts, and from these which words decode, and to what. -/

namespace Sys2Proof.Machine
open Sys2Proof.Config

variable {n : BitVec 4} {u : UnitId} {i : Instr}

/-! ### The five fields of a word (R111) -/

theorem packCmd_unpackCmd (w : Word) : packCmd (unpackCmd w) = w := by
  ext k hk
  simp only [packCmd, unpackCmd]
  grind

theorem unpackCmd_packCmd (f : CmdFields) : unpackCmd (packCmd f) = f := by
  obtain ⟨opc, unit, ch, sel, zero⟩ := f
  simp only [unpackCmd, packCmd, CmdFields.mk.injEq]
  refine ⟨?_, ?_, ?_, ?_, ?_⟩ <;>
  · ext k hk
    simp only [BitVec.getElem_extractLsb', BitVec.getLsbD_append]
    grind

/-! ### Unit numbers (R113) -/

theorem eq_unitNumber_of_unitOfNumber (h : unitOfNumber n = some u) : n = unitNumber u := by
  unfold unitOfNumber at h
  split at h <;> cases h <;> rfl

@[simp] theorem unitOfNumber_unitNumber (u : UnitId) : unitOfNumber (unitNumber u) = some u := by cases u <;> rfl

theorem unitNumber_le (u : UnitId) : (unitNumber u).toNat ≤ 9 := by cases u <;> decide

/-- What a decoder answers on the reserved unit numbers, 10 to 15 (R116 item 3). -/
structure RefusesReserved (d : BitVec 4 → Option Instr) : Prop where
  at10 : d 10#4 = none
  at11 : d 11#4 = none
  at12 : d 12#4 = none
  at13 : d 13#4 = none
  at14 : d 14#4 = none
  at15 : d 15#4 = none

theorem reserved_of_unitOfNumber : unitOfNumber n = none →
    n = 10#4 ∨ n = 11#4 ∨ n = 12#4 ∨ n = 13#4 ∨ n = 14#4 ∨ n = 15#4 := by
  revert n
  decide

/-- A unit number is a unit's, or it is reserved and a decoder that refuses those answers nothing. -/
theorem RefusesReserved.cases {d : BitVec 4 → Option Instr} (hd : RefusesReserved d) (n : BitVec 4) :
    (∃ u, n = unitNumber u) ∨ unitOfNumber n = none ∧ 9 < n.toNat ∧ d n = none := by
  obtain ⟨h10, h11, h12, h13, h14, h15⟩ := hd
  cases h : unitOfNumber n with
  | some u => exact .inl ⟨u, eq_unitNumber_of_unitOfNumber h⟩
  | none =>
    refine .inr ⟨rfl, ?_⟩
    obtain rfl | rfl | rfl | rfl | rfl | rfl := reserved_of_unitOfNumber h <;> exact ⟨by decide, by assumption⟩

/-- Where a decoder refuses the reserved numbers, its units are those it accepts by name. -/
theorem RefusesReserved.isSome_iff {d : BitVec 4 → Option Instr} (hd : RefusesReserved d) {p : UnitId → Bool}
    (hp : ∀ u, (d (unitNumber u)).isSome = p u) :
    (d n).isSome = true ↔ n.toNat ≤ 9 ∧ ∃ u, unitOfNumber n = some u ∧ p u = true := by
  obtain ⟨u, rfl⟩ | ⟨hn, -, hnone⟩ := hd.cases n
  · simp [hp, unitNumber_le]
  · simp [hn, hnone]

/-! ### The opcodes that accept every unit and no select (R112) -/

/-- A decoder of an opcode that every unit accepts: it answers the unit's command, on CH as given. -/
structure AcceptsEveryUnit (opc : BitVec 6) (ch : BitVec 6) (d : BitVec 4 → Option Instr) : Prop where
  assigned : ∀ u, ∃ i, d (unitNumber u) = some i ∧ i.fields = ⟨opc, unitNumber u, ch, 0, 0⟩
  reserved : RefusesReserved d

theorem AcceptsEveryUnit.fields {opc ch : BitVec 6} {d : BitVec 4 → Option Instr} (hd : AcceptsEveryUnit opc ch d)
    (h : d n = some i) : i.fields = ⟨opc, n, ch, 0, 0⟩ := by
  obtain ⟨u, rfl⟩ | ⟨-, -, hnone⟩ := hd.reserved.cases n
  · obtain ⟨j, hj, hfields⟩ := hd.assigned u
    obtain rfl : j = i := Option.some.inj (hj.symm.trans h)
    exact hfields
  · cases hnone.symm.trans h

theorem AcceptsEveryUnit.isSome_iff {opc ch : BitVec 6} {d : BitVec 4 → Option Instr}
    (hd : AcceptsEveryUnit opc ch d) : (d n).isSome = true ↔ n.toNat ≤ 9 := by
  obtain ⟨u, rfl⟩ | ⟨-, hn, hnone⟩ := hd.reserved.cases n
  · obtain ⟨i, hi, -⟩ := hd.assigned u
    simp [hi, unitNumber_le]
  · simpa [hnone] using hn

theorem acceptsEveryUnit_init : AcceptsEveryUnit 0x01 0 decodeInit :=
  ⟨fun u => by cases u <;> exact ⟨_, rfl, rfl⟩, rfl, rfl, rfl, rfl, rfl, rfl⟩

theorem acceptsEveryUnit_setSr : AcceptsEveryUnit 0x02 0 decodeSetSr :=
  ⟨fun u => by cases u <;> exact ⟨_, rfl, rfl⟩, rfl, rfl, rfl, rfl, rfl, rfl⟩

theorem acceptsEveryUnit_resetCoeffs : AcceptsEveryUnit 0x03 0 decodeResetCoeffs :=
  ⟨fun u => by cases u <;> exact ⟨_, rfl, rfl⟩, rfl, rfl, rfl, rfl, rfl, rfl⟩

theorem acceptsEveryUnit_resetState (ch : BitVec 6) : AcceptsEveryUnit 0x04 ch (decodeResetState ch) :=
  ⟨fun u => by cases u <;> exact ⟨_, rfl, rfl⟩, rfl, rfl, rfl, rfl, rfl, rfl⟩

theorem acceptsEveryUnit_updateCtrl : AcceptsEveryUnit 0x05 0 decodeUpdateCtrl :=
  ⟨fun u => by cases u <;> exact ⟨_, rfl, rfl⟩, rfl, rfl, rfl, rfl, rfl, rfl⟩

theorem acceptsEveryUnit_updateAudio : AcceptsEveryUnit 0x06 0 decodeUpdateAudio :=
  ⟨fun u => by cases u <;> exact ⟨_, rfl, rfl⟩, rfl, rfl, rfl, rfl, rfl, rfl⟩

theorem acceptsEveryUnit_process1 (ch : BitVec 6) : AcceptsEveryUnit 0x07 ch (decodeProcess1 ch) :=
  ⟨fun u => by cases u <;> exact ⟨_, rfl, rfl⟩, rfl, rfl, rfl, rfl, rfl, rfl⟩

theorem acceptsEveryUnit_process (ch : BitVec 6) : AcceptsEveryUnit 0x08 ch (decodeProcess ch) :=
  ⟨fun u => by cases u <;> exact ⟨_, rfl, rfl⟩, rfl, rfl, rfl, rfl, rfl, rfl⟩

theorem acceptsEveryUnit_processMulti : AcceptsEveryUnit 0x09 0 decodeProcessMulti :=
  ⟨fun u => by cases u <;> exact ⟨_, rfl, rfl⟩, rfl, rfl, rfl, rfl, rfl, rfl⟩

/-! ### The opcodes of one or two units (R112) -/

section
variable {ch : BitVec 6}

theorem decodeNop_eq_some : decodeNop n = some i ↔ n = 0#4 ∧ i = .nop := by
  unfold decodeNop
  split
  · simpa using eq_comm
  · simp_all

theorem decodeMemReq_eq_some :
    decodeMemReq n = some i ↔ n = 8#4 ∧ i = .memReqDelay ∨ n = 9#4 ∧ i = .memReqReverb := by
  unfold decodeMemReq
  split <;> simp_all [eq_comm]

theorem decodeMemSet_eq_some :
    decodeMemSet ch n = some i ↔ n = 8#4 ∧ i = .memSetDelay ch ∨ n = 9#4 ∧ i = .memSetReverb ch := by
  unfold decodeMemSet
  split <;> simp_all [eq_comm]

theorem decodeDelayRead_eq_some : decodeDelayRead ch n = some i ↔ n = 8#4 ∧ i = .delayReadDelay ch := by
  unfold decodeDelayRead
  split <;> simp_all [eq_comm]

theorem decodeDelayWrite_eq_some : decodeDelayWrite ch n = some i ↔ n = 8#4 ∧ i = .delayWriteDelay ch := by
  unfold decodeDelayWrite
  split <;> simp_all [eq_comm]

end

/-! ### The selects of SET_PARAM, READ_COEF and READ_STATE (R115) -/

section
variable {ch : BitVec 6} {sel : BitVec 8}

theorem fields_of_decodeSetParam (h : decodeSetParam n sel = some i) : i.fields = ⟨0x0A, n, 0, sel, 0⟩ := by
  unfold decodeSetParam decodeSetParamOnepole decodeSetParamMm1 decodeSetParamMm2 decodeSetParamHp1 decodeSetParamLs1
    decodeSetParamLs2 decodeSetParamAp2 decodeSetParamPeak decodeSetParamDelay decodeSetParamReverb at h
  split at h
  case h_11 => cases h
  all_goals split at h <;> cases h <;> rfl

theorem fields_of_decodeReadCoef (h : decodeReadCoef n sel = some i) : i.fields = ⟨0x0F, n, 0, sel, 0⟩ := by
  unfold decodeReadCoef decodeReadCoefOnepole decodeReadCoefMm1 decodeReadCoefMm2 decodeReadCoefHp1 decodeReadCoefLs1
    decodeReadCoefLs2 decodeReadCoefAp2 decodeReadCoefPeak decodeReadCoefDelay decodeReadCoefReverb at h
  split at h
  case h_11 => cases h
  all_goals split at h <;> cases h <;> rfl

theorem fields_of_decodeReadState (h : decodeReadState ch n sel = some i) : i.fields = ⟨0x10, n, ch, sel, 0⟩ := by
  unfold decodeReadState decodeReadStateOnepole decodeReadStateMm1 decodeReadStateMm2 decodeReadStateHp1
    decodeReadStateLs1 decodeReadStateLs2 decodeReadStateAp2 decodeReadStatePeak decodeReadStateDelay
    decodeReadStateReverb at h
  split at h
  case h_11 => cases h
  all_goals split at h <;> cases h <;> rfl

/-- Whether a channel register is named does not depend on the channel. -/
theorem isSome_decodeReadState_channel (ch : BitVec 6) (n : BitVec 4) (sel : BitVec 8) :
    (decodeReadState ch n sel).isSome = (decodeReadState 0 n sel).isSome := by
  unfold decodeReadState decodeReadStateOnepole decodeReadStateMm1 decodeReadStateMm2 decodeReadStateHp1
    decodeReadStateLs1 decodeReadStateLs2 decodeReadStateAp2 decodeReadStatePeak decodeReadStateDelay
    decodeReadStateReverb
  split
  case h_11 => rfl
  all_goals split <;> rfl

/-- SET_PARAM's selects are the first `paramCount` ones (R115): each eight-bit select is looked up, unit by unit. -/
theorem isSome_decodeSetParam_unit (u : UnitId) (sel : BitVec 8) :
    (decodeSetParam (unitNumber u) sel).isSome = decide (sel.toNat < paramCount (unitNumber u)) := by
  revert sel
  cases u <;> decide +kernel

/-- READ_COEF's selects are those of the register tables (R34, R37 to R43): looked up in both, unit by unit. -/
theorem isSome_decodeReadCoef_unit (u : UnitId) (sel : BitVec 8) :
    (decodeReadCoef (unitNumber u) sel).isSome = (coefReg State.reset u sel).isSome := by
  revert sel
  cases u <;> decide +kernel

/-- READ_STATE's selects are those of the channel tables (R44): looked up in both, unit by unit. -/
theorem isSome_decodeReadState_unit (u : UnitId) (ch : BitVec 6) (sel : BitVec 8) :
    (decodeReadState ch (unitNumber u) sel).isSome = (stateReg State.reset u 0 sel).isSome := by
  rw [isSome_decodeReadState_channel]
  revert sel
  cases u <;> decide +kernel

theorem refusesReserved_setParam (sel : BitVec 8) : RefusesReserved (decodeSetParam · sel) :=
  ⟨rfl, rfl, rfl, rfl, rfl, rfl⟩

theorem refusesReserved_readCoef (sel : BitVec 8) : RefusesReserved (decodeReadCoef · sel) :=
  ⟨rfl, rfl, rfl, rfl, rfl, rfl⟩

theorem refusesReserved_readState (ch : BitVec 6) (sel : BitVec 8) : RefusesReserved (decodeReadState ch · sel) :=
  ⟨rfl, rfl, rfl, rfl, rfl, rfl⟩

theorem isSome_decodeSetParam :
    (decodeSetParam n sel).isSome = true ↔ n.toNat ≤ 9 ∧ sel.toNat < paramCount n := by
  obtain ⟨u, rfl⟩ | ⟨-, hn, hnone⟩ := (refusesReserved_setParam sel).cases n
  · simp [isSome_decodeSetParam_unit, unitNumber_le]
  · simp_all

theorem isSome_decodeReadCoef : (decodeReadCoef n sel).isSome = true ↔
    n.toNat ≤ 9 ∧ ∃ u, unitOfNumber n = some u ∧ (coefReg State.reset u sel).isSome = true :=
  (refusesReserved_readCoef sel).isSome_iff (isSome_decodeReadCoef_unit · sel)

theorem isSome_decodeReadState : (decodeReadState ch n sel).isSome = true ↔
    n.toNat ≤ 9 ∧ ∃ u, unitOfNumber n = some u ∧ (stateReg State.reset u 0 sel).isSome = true :=
  (refusesReserved_readState ch sel).isSome_iff (isSome_decodeReadState_unit · ch sel)

end

/-! ### The decoder of the five fields (R112 to R116) -/

/-- A command found by opcode, unit and select has those fields, and 0 in each field its opcode does not use. -/
theorem fields_of_decodeOp {f : CmdFields} (h : decodeOp f = some i) :
    i.fields = ⟨f.opc, f.unit, if usesCh f.opc then f.ch else 0, if usesSel f.opc then f.sel else 0, 0⟩ := by
  obtain ⟨opc, unit, ch, sel, zero⟩ := f
  simp only [decodeOp] at h ⊢
  split at h
  · obtain ⟨rfl, rfl⟩ := decodeNop_eq_some.1 h
    rfl
  · exact acceptsEveryUnit_init.fields h
  · exact acceptsEveryUnit_setSr.fields h
  · exact acceptsEveryUnit_resetCoeffs.fields h
  · exact (acceptsEveryUnit_resetState ch).fields h
  · exact acceptsEveryUnit_updateCtrl.fields h
  · exact acceptsEveryUnit_updateAudio.fields h
  · exact (acceptsEveryUnit_process1 ch).fields h
  · exact (acceptsEveryUnit_process ch).fields h
  · exact acceptsEveryUnit_processMulti.fields h
  · exact fields_of_decodeSetParam h
  · obtain ⟨rfl, rfl⟩ | ⟨rfl, rfl⟩ := decodeMemReq_eq_some.1 h <;> rfl
  · obtain ⟨rfl, rfl⟩ | ⟨rfl, rfl⟩ := decodeMemSet_eq_some.1 h <;> rfl
  · obtain ⟨rfl, rfl⟩ := decodeDelayRead_eq_some.1 h
    rfl
  · obtain ⟨rfl, rfl⟩ := decodeDelayWrite_eq_some.1 h
    rfl
  · exact fields_of_decodeReadCoef h
  · exact fields_of_decodeReadState h
  · cases h

theorem decodeFields_eq_ok {f : CmdFields} : decodeFields f = .ok i ↔
    f.zero = 0 ∧ (usesCh f.opc = false → f.ch = 0) ∧ (usesSel f.opc = false → f.sel = 0) ∧
      decodeOp f = some i := by
  unfold decodeFields
  split
  · simp_all
  · split
    · simp_all
    · split
      · simp_all
      · cases decodeOp f <;> simp_all

theorem fields_of_decodeFields {f : CmdFields} (h : decodeFields f = .ok i) : i.fields = f := by
  obtain ⟨hzero, hch, hsel, hop⟩ := decodeFields_eq_ok.1 h
  rw [fields_of_decodeOp hop, ite_eq_left_iff.2 fun h => (hch (by simpa using h)).symm,
    ite_eq_left_iff.2 fun h => (hsel (by simpa using h)).symm, ← hzero]

/-- Each command's fields lead the decoder back to it, through the table of its opcode. -/
theorem decodeFields_fields (i : Instr) : decodeFields i.fields = .ok i := by
  cases i <;> rfl

/-- Settles O1: packing loses no field, and each command's fields decode to it. -/
theorem decodeOfEncode : Obligations.DecodeOfEncode := fun i => by
  rw [decode, encode, unpackCmd_packCmd, decodeFields_fields]

/-- Settles O2: a command's fields are those it was decoded from, and a word is the packing of its fields. -/
theorem encodeOfDecode : Obligations.EncodeOfDecode := fun w i h => by
  rw [encode, fields_of_decodeFields h, packCmd_unpackCmd]

/-! ### The legal words (R116) -/

/-- What items 2, 3, 4, 7 and 8 of R116 ask of opcode, unit and select, in the words of the spec's tables. -/
def LegalOp (f : CmdFields) : Prop :=
  f.opc.toNat ≤ 0x10 ∧ f.unit.toNat ≤ 9 ∧ unitAccepted f.opc f.unit ∧
    (f.opc = 0x0A#6 → f.sel.toNat < paramCount f.unit) ∧
    (f.opc = 0x0F#6 → ∃ u, unitOfNumber f.unit = some u ∧ (coefReg State.reset u f.sel).isSome = true) ∧
    (f.opc = 0x10#6 → ∃ u, unitOfNumber f.unit = some u ∧ (stateReg State.reset u 0 f.sel).isSome = true)

/-- The decoder finds a command exactly where the spec's tables have one: opcode by opcode. -/
theorem exists_decodeOp_iff (f : CmdFields) : (∃ i, decodeOp f = some i) ↔ LegalOp f := by
  obtain ⟨opc, unit, ch, sel, zero⟩ := f
  simp only [decodeOp, LegalOp, ← Option.isSome_iff_exists]
  split
  · simp +contextual [unitAccepted, Option.isSome_iff_exists, decodeNop_eq_some]
  · simp [unitAccepted, acceptsEveryUnit_init.isSome_iff]
  · simp [unitAccepted, acceptsEveryUnit_setSr.isSome_iff]
  · simp [unitAccepted, acceptsEveryUnit_resetCoeffs.isSome_iff]
  · simp [unitAccepted, (acceptsEveryUnit_resetState ch).isSome_iff]
  · simp [unitAccepted, acceptsEveryUnit_updateCtrl.isSome_iff]
  · simp [unitAccepted, acceptsEveryUnit_updateAudio.isSome_iff]
  · simp [unitAccepted, (acceptsEveryUnit_process1 ch).isSome_iff]
  · simp [unitAccepted, (acceptsEveryUnit_process ch).isSome_iff]
  · simp [unitAccepted, acceptsEveryUnit_processMulti.isSome_iff]
  · simp [unitAccepted, isSome_decodeSetParam]
  · simp +contextual [unitAccepted, Option.isSome_iff_exists, decodeMemReq_eq_some, exists_or, or_imp]
  · simp +contextual [unitAccepted, Option.isSome_iff_exists, decodeMemSet_eq_some, exists_or, or_imp]
  · simp +contextual [unitAccepted, Option.isSome_iff_exists, decodeDelayRead_eq_some]
  · simp +contextual [unitAccepted, Option.isSome_iff_exists, decodeDelayWrite_eq_some]
  · simp [unitAccepted, isSome_decodeReadCoef]
  · simp [unitAccepted, isSome_decodeReadState]
  · have hopc : 0x10 < opc.toNat := by
      simp only [imp_false] at *
      bv_omega
    simp [hopc]

theorem usesCh_eq_false {opc : BitVec 6} :
    usesCh opc = false ↔ opc ∉ [0x04#6, 0x07#6, 0x08#6, 0x0C#6, 0x0D#6, 0x0E#6, 0x10#6] := by
  simp [usesCh, and_assoc]

theorem usesSel_eq_false {opc : BitVec 6} : usesSel opc = false ↔ opc ∉ [0x0A#6, 0x0F#6, 0x10#6] := by
  simp [usesSel, and_assoc]

theorem exists_decode_iff (w : Word) : (∃ i, decode w = .ok i) ↔
    (unpackCmd w).zero = 0 ∧ (usesCh (unpackCmd w).opc = false → (unpackCmd w).ch = 0) ∧
      (usesSel (unpackCmd w).opc = false → (unpackCmd w).sel = 0) ∧ LegalOp (unpackCmd w) := by
  simp only [decode, decodeFields_eq_ok, exists_and_left, exists_decodeOp_iff]

/-- A write of an illegal word to CMD faults ILLEGAL, with the word in FAULT_CMD (R116, R431). -/
theorem outcome_writeCmd_illegal {s : State} {w : Word} (hd : ¬∃ i, decode w = .ok i)
    (hf : statusFault s.win.status = false) :
    (writeCmd w s).outcome = .next (enterFault w .illegal 0 0 s) := by
  unfold writeCmd
  rw [hf]
  cases h : decode w with
  | ok i => exact absurd ⟨i, h⟩ hd
  | error e => rfl

/-- Settles O3: the legal words are those whose fields the tables have, and an illegal one enters its fault. -/
theorem legalWords : Obligations.LegalWords := by
  refine ⟨fun w => ?_, fun s w rest hd hf => ?_⟩
  · rw [exists_decode_iff, usesCh_eq_false, usesSel_eq_false, LegalOp]
    tauto
  · exact (step_store_cmd s rest w).trans (outcome_writeCmd_illegal hd hf)

/-- Settles O4: each word is evaluated, field by field. -/
theorem writtenWordsDecode : Obligations.WrittenWordsDecode :=
  ⟨rfl, rfl, rfl, rfl, rfl, rfl, rfl, rfl⟩

end Sys2Proof.Machine
end

-- ==== Proofs: the legal parameters ====
section
/-! PROOFS. Every parameter register stays in the legal set of its setter (40_protocol.md R142, R149; the setters of
41_one_pole.md to 45_reverb.md). A unit's parameters are legal as a bank (`Bank.Legal`); INIT writes a legal bank, each
setter one legal value into a legal bank, and no other command a parameter. -/

namespace Sys2Proof.Machine
open Sys2Proof.Config

variable {s t r : State} {u w : UnitId} {i : Instr}

/-! ### A unit's bank, and what makes it legal -/

/-- The type of a unit's coefficient bank. -/
def Bank : UnitId → Type
  | .onepole => OnePoleCoefs
  | .mm1 => Mm1Bank
  | .mm2 => Mm2Bank
  | .hp1 => Hp1Coefs
  | .ls1 => Ls1Coefs
  | .ls2 => Ls2Coefs
  | .ap2 => Ap2Coefs
  | .peak => PeakCoefs
  | .delay => DelayCoefs
  | .reverb => ReverbCoefs

/-- A unit's coefficient bank. -/
def Coefs.bank (c : Coefs) : (u : UnitId) → Bank u
  | .onepole => c.onepole
  | .mm1 => c.mm1
  | .mm2 => c.mm2
  | .hp1 => c.hp1
  | .ls1 => c.ls1
  | .ls2 => c.ls2
  | .ap2 => c.ap2
  | .peak => c.peak
  | .delay => c.delay
  | .reverb => c.reverb

/-- The banks with one unit's replaced. -/
def Coefs.withBank (c : Coefs) : (u : UnitId) → Bank u → Coefs
  | .onepole, b => { c with onepole := b }
  | .mm1, b => { c with mm1 := b }
  | .mm2, b => { c with mm2 := b }
  | .hp1, b => { c with hp1 := b }
  | .ls1, b => { c with ls1 := b }
  | .ls2, b => { c with ls2 := b }
  | .ap2, b => { c with ap2 := b }
  | .peak, b => { c with peak := b }
  | .delay, b => { c with delay := b }
  | .reverb, b => { c with reverb := b }

@[simp] theorem bank_withBank_self (c : Coefs) (u : UnitId) (b : Bank u) : (c.withBank u b).bank u = b := by
  cases u <;> rfl

theorem bank_withBank_other (c : Coefs) (h : w ≠ u) (b : Bank u) : (c.withBank u b).bank w = c.bank w := by
  cases u <;> cases w <;> first | rfl | exact absurd rfl h

structure OnePoleCoefs.Legal (c : OnePoleCoefs) : Prop where
  cutoffUp : okCutoff c.cutoffUp = true
  cutoffDown : okCutoff c.cutoffDown = true
  stickyThresh : okNonneg c.stickyThresh = true
  stickyMode : okFlag c.stickyMode = true

structure Mm1Bank.Legal (c : Mm1Bank) : Prop where
  cutoff : okNonneg c.cutoff = true
  prewarpFreq : okPositive c.prewarpFreq = true
  coeffX : isFinite c.coeffX = true
  coeffLp : isFinite c.coeffLp = true
  prewarpAtCutoff : okFlag c.prewarpAtCutoff = true

structure Mm2Bank.Legal (c : Mm2Bank) : Prop where
  cutoff : okNonneg c.cutoff = true
  q : isFinite c.q = true
  prewarpFreq : okPositive c.prewarpFreq = true
  coeffX : isFinite c.coeffX = true
  coeffLp : isFinite c.coeffLp = true
  coeffBp : isFinite c.coeffBp = true
  coeffHp : isFinite c.coeffHp = true
  prewarpAtCutoff : okFlag c.prewarpAtCutoff = true

structure Hp1Coefs.Legal (c : Hp1Coefs) : Prop where
  cutoff : okNonneg c.cutoff = true
  prewarpFreq : okPositive c.prewarpFreq = true
  prewarpAtCutoff : okFlag c.prewarpAtCutoff = true

structure Ls1Coefs.Legal (c : Ls1Coefs) : Prop where
  cutoff : okPositive c.cutoff = true
  dcGainLin : okPositive c.dcGainLin = true
  dcGainDb : okDb c.dcGainDb = true
  prewarpFreq : okPositive c.prewarpFreq = true
  prewarpAtCutoff : okFlag c.prewarpAtCutoff = true
  gainIsDb : okFlag c.gainIsDb = true

structure Ls2Coefs.Legal (c : Ls2Coefs) : Prop where
  cutoff : okPositive c.cutoff = true
  q : isFinite c.q = true
  dcGainLin : okPositive c.dcGainLin = true
  dcGainDb : okDb c.dcGainDb = true
  prewarpFreq : okPositive c.prewarpFreq = true
  prewarpAtCutoff : okFlag c.prewarpAtCutoff = true
  gainIsDb : okFlag c.gainIsDb = true

structure Ap2Coefs.Legal (c : Ap2Coefs) : Prop where
  cutoff : okNonneg c.cutoff = true
  q : isFinite c.q = true
  prewarpFreq : okPositive c.prewarpFreq = true
  prewarpAtCutoff : okFlag c.prewarpAtCutoff = true

structure PeakCoefs.Legal (c : PeakCoefs) : Prop where
  cutoff : okNonneg c.cutoff = true
  q : isFinite c.q = true
  peakGainLin : okPositive c.peakGainLin = true
  peakGainDb : okDb c.peakGainDb = true
  bandwidth : okPositive c.bandwidth = true
  prewarpFreq : okPositive c.prewarpFreq = true
  useBandwidth : okFlag c.useBandwidth = true
  prewarpAtCutoff : okFlag c.prewarpAtCutoff = true
  gainIsDb : okFlag c.gainIsDb = true

structure DelayCoefs.Legal (c : DelayCoefs) : Prop where
  delay : okNonneg c.delay = true
  maxDelay : okNonneg c.maxDelay = true

structure ReverbCoefs.Legal (c : ReverbCoefs) : Prop where
  predelay : okPredelay c.predelay = true
  bandwidth : okCutoff c.bandwidth = true
  damping : okCutoff c.damping = true
  decay : okDecay c.decay = true

/-- Every parameter register of a unit's bank holds a value its setter accepts. -/
def Bank.Legal : {u : UnitId} → Bank u → Prop
  | .onepole, c => OnePoleCoefs.Legal c
  | .mm1, c => Mm1Bank.Legal c
  | .mm2, c => Mm2Bank.Legal c
  | .hp1, c => Hp1Coefs.Legal c
  | .ls1, c => Ls1Coefs.Legal c
  | .ls2, c => Ls2Coefs.Legal c
  | .ap2, c => Ap2Coefs.Legal c
  | .peak, c => PeakCoefs.Legal c
  | .delay, c => DelayCoefs.Legal c
  | .reverb, c => ReverbCoefs.Legal c

/-- The flags of a unit's bank are 0 or 1, which they are before INIT too. -/
def Bank.FlagsLegal : {u : UnitId} → Bank u → Prop
  | .onepole, (c : OnePoleCoefs) => okFlag c.stickyMode = true
  | .mm1, (c : Mm1Bank) => okFlag c.prewarpAtCutoff = true
  | .mm2, (c : Mm2Bank) => okFlag c.prewarpAtCutoff = true
  | .hp1, (c : Hp1Coefs) => okFlag c.prewarpAtCutoff = true
  | .ls1, (c : Ls1Coefs) => okFlag c.prewarpAtCutoff = true ∧ okFlag c.gainIsDb = true
  | .ls2, (c : Ls2Coefs) => okFlag c.prewarpAtCutoff = true ∧ okFlag c.gainIsDb = true
  | .ap2, (c : Ap2Coefs) => okFlag c.prewarpAtCutoff = true
  | .peak, (c : PeakCoefs) => okFlag c.useBandwidth = true ∧ okFlag c.prewarpAtCutoff = true ∧ okFlag c.gainIsDb = true
  | .delay, _ => True
  | .reverb, _ => True

theorem Bank.Legal.flags {b : Bank u} (h : b.Legal) : b.FlagsLegal := by
  cases u with
  | onepole => exact OnePoleCoefs.Legal.stickyMode h
  | mm1 => exact Mm1Bank.Legal.prewarpAtCutoff h
  | mm2 => exact Mm2Bank.Legal.prewarpAtCutoff h
  | hp1 => exact Hp1Coefs.Legal.prewarpAtCutoff h
  | ls1 => exact ⟨Ls1Coefs.Legal.prewarpAtCutoff h, Ls1Coefs.Legal.gainIsDb h⟩
  | ls2 => exact ⟨Ls2Coefs.Legal.prewarpAtCutoff h, Ls2Coefs.Legal.gainIsDb h⟩
  | ap2 => exact Ap2Coefs.Legal.prewarpAtCutoff h
  | peak => exact ⟨PeakCoefs.Legal.useBandwidth h, PeakCoefs.Legal.prewarpAtCutoff h, PeakCoefs.Legal.gainIsDb h⟩
  | delay | reverb => trivial

/-- A bank with its unit's lifecycle: the flags are legal, and from INIT on every parameter is. -/
def LegalUnit (l : Life) (b : Bank u) : Prop := b.FlagsLegal ∧ (l ≠ .uninit → b.Legal)

theorem legalUnit_of_legal {l : Life} {b : Bank u} (h : b.Legal) : LegalUnit l b := ⟨h.flags, fun _ => h⟩

theorem LegalUnit.of_life {l l' : Life} {b : Bank u} (h : LegalUnit l b) (hl : l' ≠ .uninit → l ≠ .uninit) :
    LegalUnit l' b := ⟨h.1, fun hl' => h.2 (hl hl')⟩

/-- The parameters are legal unit by unit. -/
theorem legalParams_iff : legalParams s ↔ ∀ u, LegalUnit (s.regs.get u).life (s.coefs.bank u) := by
  constructor
  · rintro ⟨onepole, stickyMode, mm1, pre1, mm2, pre2, hp1, preHp, ls1, preLs1, dbLs1, ls2, preLs2, dbLs2, ap2, preAp,
      peak, bw, prePk, dbPk, delay, reverb⟩ u
    cases u with
    | onepole => exact ⟨stickyMode, fun h => have ⟨a, b, c⟩ := onepole h; ⟨a, b, c, stickyMode⟩⟩
    | mm1 => exact ⟨pre1, fun h => have ⟨a, b, c, d⟩ := mm1 h; ⟨a, b, c, d, pre1⟩⟩
    | mm2 => exact ⟨pre2, fun h => have ⟨a, b, c, d, e, f, g⟩ := mm2 h; ⟨a, b, c, d, e, f, g, pre2⟩⟩
    | hp1 => exact ⟨preHp, fun h => have ⟨a, b⟩ := hp1 h; ⟨a, b, preHp⟩⟩
    | ls1 => exact ⟨⟨preLs1, dbLs1⟩, fun h => have ⟨a, b, c, d⟩ := ls1 h; ⟨a, b, c, d, preLs1, dbLs1⟩⟩
    | ls2 => exact ⟨⟨preLs2, dbLs2⟩, fun h => have ⟨a, b, c, d, e⟩ := ls2 h; ⟨a, b, c, d, e, preLs2, dbLs2⟩⟩
    | ap2 => exact ⟨preAp, fun h => have ⟨a, b, c⟩ := ap2 h; ⟨a, b, c, preAp⟩⟩
    | peak =>
      exact ⟨⟨bw, prePk, dbPk⟩, fun h => have ⟨a, b, c, d, e, f⟩ := peak h; ⟨a, b, c, d, e, f, bw, prePk, dbPk⟩⟩
    | delay => exact ⟨trivial, fun h => have ⟨a, b⟩ := delay h; ⟨a, b⟩⟩
    | reverb => exact ⟨trivial, fun h => have ⟨a, b, c, d⟩ := reverb h; ⟨a, b, c, d⟩⟩
  · intro h
    obtain ⟨pre1, mm1⟩ := h .mm1
    obtain ⟨pre2, mm2⟩ := h .mm2
    obtain ⟨stickyMode, onepole⟩ := h .onepole
    obtain ⟨preHp, hp1⟩ := h .hp1
    obtain ⟨⟨preLs1, dbLs1⟩, ls1⟩ := h .ls1
    obtain ⟨⟨preLs2, dbLs2⟩, ls2⟩ := h .ls2
    obtain ⟨preAp, ap2⟩ := h .ap2
    obtain ⟨⟨bw, prePk, dbPk⟩, peak⟩ := h .peak
    obtain ⟨-, delay⟩ := h .delay
    obtain ⟨-, reverb⟩ := h .reverb
    refine ⟨fun h => ?_, stickyMode, fun h => ?_, pre1, fun h => ?_, pre2, fun h => ?_, preHp, fun h => ?_, preLs1, dbLs1,
      fun h => ?_, preLs2, dbLs2, fun h => ?_, preAp, fun h => ?_, bw, prePk, dbPk, fun h => ?_, fun h => ?_⟩
    · have ⟨a, b, c, _⟩ := onepole h
      exact ⟨a, b, c⟩
    · have ⟨a, b, c, d, _⟩ := mm1 h
      exact ⟨a, b, c, d⟩
    · have ⟨a, b, c, d, e, f, g, _⟩ := mm2 h
      exact ⟨a, b, c, d, e, f, g⟩
    · have ⟨a, b, _⟩ := hp1 h
      exact ⟨a, b⟩
    · have ⟨a, b, c, d, _, _⟩ := ls1 h
      exact ⟨a, b, c, d⟩
    · have ⟨a, b, c, d, e, _, _⟩ := ls2 h
      exact ⟨a, b, c, d, e⟩
    · have ⟨a, b, c, _⟩ := ap2 h
      exact ⟨a, b, c⟩
    · have ⟨a, b, c, d, e, f, _, _, _⟩ := peak h
      exact ⟨a, b, c, d, e, f⟩
    · have ⟨a, b⟩ := delay h
      exact ⟨a, b⟩
    · have ⟨a, b, c, d⟩ := reverb h
      exact ⟨a, b, c, d⟩

/-- The parameters and whether INIT has run decide it. -/
theorem legalParams_congr (hparams : t.coefs.params = s.coefs.params)
    (hlife : ∀ u, (t.regs.get u).life ≠ .uninit → (s.regs.get u).life ≠ .uninit) (h : legalParams s) :
    legalParams t := by
  have hs : legalParams { State.reset with coefs := s.coefs.params, regs := s.regs } := h
  rw [← hparams] at hs
  have ht : legalParams { t with regs := s.regs } := hs
  exact legalParams_iff.2 fun u => (legalParams_iff.1 ht u).of_life (hlife u)

/-! ### INIT (R142) -/

theorem legal_initHook {x : F32} (c : Coefs) (hx : (u != .delay || okNonneg x) = true) :
    ((initHook u x c).bank u).Legal := by
  cases u with
  | onepole => exact (⟨by decide, by decide, by decide, by decide⟩ : OnePoleCoefs.initial.Legal)
  | mm1 => exact (⟨by decide, by decide, by decide, by decide, by decide⟩ : Mm1Bank.initial.Legal)
  | mm2 =>
    exact (⟨by decide, by decide, by decide, by decide, by decide, by decide, by decide, by decide⟩ :
      Mm2Bank.initial.Legal)
  | hp1 => exact (⟨by decide, by decide, by decide⟩ : Hp1Coefs.initial.Legal)
  | ls1 => exact (⟨by decide, by decide, by decide, by decide, by decide, by decide⟩ : Ls1Coefs.initial.Legal)
  | ls2 =>
    exact (⟨by decide, by decide, by decide, by decide, by decide, by decide, by decide⟩ :
      Ls2Coefs.initial.Legal)
  | ap2 => exact (⟨by decide, by decide, by decide, by decide⟩ : Ap2Coefs.initial.Legal)
  | peak =>
    exact (⟨by decide, by decide, by decide, by decide, by decide, by decide, by decide, by decide, by decide⟩ :
      PeakCoefs.initial.Legal)
  | delay =>
    have hmax : okNonneg x = true := by simpa using hx
    exact (⟨(by decide : okNonneg f0 = true), hmax⟩ : (DelayCoefs.initial x).Legal)
  | reverb => exact (⟨by decide, by decide, by decide, by decide⟩ : ReverbCoefs.initial.Legal)

theorem bank_initHook_other (x : F32) (c : Coefs) (h : w ≠ u) : (initHook u x c).bank w = c.bank w := by
  cases u <;> cases w <;> first | rfl | exact absurd rfl h

theorem initUnit_regs (u : UnitId) (s : State) : (initUnit u s).regs = s.regs.set u (initRegs u) := by simp [initUnit]

theorem initUnit_coefs (u : UnitId) (s : State) : (initUnit u s).coefs = initHook u s.win.arg0 s.coefs := by
  simp [initUnit]

theorem legalParams_initUnit (h : legalParams s) (hx : (u != .delay || okNonneg s.win.arg0) = true) :
    legalParams (initUnit u s) := by
  refine legalParams_iff.2 fun w => ?_
  rw [initUnit_regs, initUnit_coefs]
  by_cases hw : w = u
  · subst hw
    exact legalUnit_of_legal (legal_initHook s.coefs hx)
  · rw [PerUnit.get_set_other _ _ hw, bank_initHook_other _ _ hw]
    exact legalParams_iff.1 h w

/-! ### The setters (R149) -/

theorem isFinite_of_not_special {x : F32} (hnan : isNaN x = false) (hinf : isInf x = false) : isFinite x = true := by
  rw [isFinite, bne_iff_ne]
  intro he
  cases hf : fracField x == 0 <;> simp [isNaN, isInf, he, hf, bne] at hnan hinf

theorem scaled_of_isZero {x : F32} (h : isZero x = true) : scaled x = 0 := by
  rw [isZero, beq_iff_eq] at h
  have hexp : expField x = 0 := by
    unfold expField
    omega
  have hfrac : fracField x = 0 := by
    unfold fracField
    omega
  simp [scaled, magnitude, hexp, hfrac]

/-- The cutoff of a legal time constant is legal (41_one_pole.md R223). -/
theorem okCutoff_tauCutoff {v : F32} (hv : okCutoff v = true) : okCutoff (tauCutoff v) = true := by
  have hlegal := (okCutoff_iff v).1 hv
  obtain ⟨hnan, hnonneg⟩ := hlegal
  rw [tauCutoff_eq ⟨hnan, hnonneg⟩]
  split
  · decide
  · rename_i h0
    have hsign : signBit v = false := by
      cases hs : signBit v
      · rfl
      · rw [scaled_eq_signed, hs, signed_true] at hnonneg h0
        omega
    cases hinf : isInf v
    · have hfin := isFinite_of_not_special hnan hinf
      have hzero : isZero v = false := by
        cases hz : isZero v
        · rfl
        · exact absurd (scaled_of_isZero hz) h0
      rw [fDiv_of_finite (by decide) hfin hzero, hsign, okCutoff_iff]
      refine ⟨isNaN_roundTo _ _ _, ?_⟩
      rw [scaled_eq_signed, signBit_roundTo]
      exact Int.natCast_nonneg _
    · have hdiv : fDiv 0x3E22F983#32 v = zeroOf false := by
        have h2 : isNaN 0x3E22F983#32 = false := by decide
        have h3 : isInf 0x3E22F983#32 = false := by decide
        have h4 : signBit 0x3E22F983#32 = false := by decide
        simp [fDiv, hnan, h2, h3, h4, hinf, hsign]
      rw [hdiv]
      decide

/-- A setter that writes a legal value into a legal bank of its unit. -/
def LegalSetter (i : Instr) : Prop :=
  ∃ (u : UnitId) (ok : Word → Bool) (bits : Word) (f : Word → Bank u → Bank u),
    (∀ s, exec i s = runCommand i (cmdSetParam u ok bits fun v c => c.withBank u (f v (c.bank u))) s) ∧
      ∀ v (b : Bank u), ok v = true → b.Legal → (f v b).Legal

theorem legalSetter_of (u : UnitId) {ok : Word → Bool} {bits : Word} (f : Word → Bank u → Bank u)
    (hx : ∀ s, exec i s = runCommand i (cmdSetParam u ok bits fun v c => c.withBank u (f v (c.bank u))) s)
    (hf : ∀ v (b : Bank u), ok v = true → b.Legal → (f v b).Legal) : LegalSetter i := ⟨u, ok, bits, f, hx, hf⟩

theorem legalSetter (h : i.fields.opc = 0x0A#6) : LegalSetter i := by
  cases i with
  | setParamOnepoleCutoff =>
    exact legalSetter_of .onepole (fun v (c : OnePoleCoefs) => { c with cutoffUp := v, cutoffDown := v }) (fun _ => rfl)
      fun _ (c : OnePoleCoefs) hv (h : c.Legal) => { h with cutoffUp := hv, cutoffDown := hv }
  | setParamOnepoleCutoffUp =>
    exact legalSetter_of .onepole (fun v (c : OnePoleCoefs) => { c with cutoffUp := v }) (fun _ => rfl)
      fun _ (c : OnePoleCoefs) hv (h : c.Legal) => { h with cutoffUp := hv }
  | setParamOnepoleCutoffDown =>
    exact legalSetter_of .onepole (fun v (c : OnePoleCoefs) => { c with cutoffDown := v }) (fun _ => rfl)
      fun _ (c : OnePoleCoefs) hv (h : c.Legal) => { h with cutoffDown := hv }
  | setParamOnepoleTau =>
    exact legalSetter_of .onepole
      (fun v (c : OnePoleCoefs) => { c with cutoffUp := tauCutoff v, cutoffDown := tauCutoff v }) (fun _ => rfl)
      fun _ (c : OnePoleCoefs) hv (h : c.Legal) =>
        { h with cutoffUp := okCutoff_tauCutoff hv, cutoffDown := okCutoff_tauCutoff hv }
  | setParamOnepoleTauUp =>
    exact legalSetter_of .onepole (fun v (c : OnePoleCoefs) => { c with cutoffUp := tauCutoff v }) (fun _ => rfl)
      fun _ (c : OnePoleCoefs) hv (h : c.Legal) => { h with cutoffUp := okCutoff_tauCutoff hv }
  | setParamOnepoleTauDown =>
    exact legalSetter_of .onepole (fun v (c : OnePoleCoefs) => { c with cutoffDown := tauCutoff v }) (fun _ => rfl)
      fun _ (c : OnePoleCoefs) hv (h : c.Legal) => { h with cutoffDown := okCutoff_tauCutoff hv }
  | setParamOnepoleStickyThresh =>
    exact legalSetter_of .onepole (fun v (c : OnePoleCoefs) => { c with stickyThresh := v }) (fun _ => rfl)
      fun _ (c : OnePoleCoefs) hv (h : c.Legal) => { h with stickyThresh := hv }
  | setParamOnepoleStickyMode =>
    exact legalSetter_of .onepole (fun v (c : OnePoleCoefs) => { c with stickyMode := v }) (fun _ => rfl)
      fun _ (c : OnePoleCoefs) hv (h : c.Legal) => { h with stickyMode := hv }
  | setParamMm1Cutoff =>
    exact legalSetter_of .mm1 (fun v (c : Mm1Bank) => { c with cutoff := v }) (fun _ => rfl)
      fun _ (c : Mm1Bank) hv (h : c.Legal) => { h with cutoff := hv }
  | setParamMm1PrewarpAtCutoff =>
    exact legalSetter_of .mm1 (fun v (c : Mm1Bank) => { c with prewarpAtCutoff := v }) (fun _ => rfl)
      fun _ (c : Mm1Bank) hv (h : c.Legal) => { h with prewarpAtCutoff := hv }
  | setParamMm1PrewarpFreq =>
    exact legalSetter_of .mm1 (fun v (c : Mm1Bank) => { c with prewarpFreq := v }) (fun _ => rfl)
      fun _ (c : Mm1Bank) hv (h : c.Legal) => { h with prewarpFreq := hv }
  | setParamMm1CoeffX =>
    exact legalSetter_of .mm1 (fun v (c : Mm1Bank) => { c with coeffX := v }) (fun _ => rfl)
      fun _ (c : Mm1Bank) hv (h : c.Legal) => { h with coeffX := hv }
  | setParamMm1CoeffLp =>
    exact legalSetter_of .mm1 (fun v (c : Mm1Bank) => { c with coeffLp := v }) (fun _ => rfl)
      fun _ (c : Mm1Bank) hv (h : c.Legal) => { h with coeffLp := hv }
  | setParamMm2Cutoff =>
    exact legalSetter_of .mm2 (fun v (c : Mm2Bank) => { c with cutoff := v }) (fun _ => rfl)
      fun _ (c : Mm2Bank) hv (h : c.Legal) => { h with cutoff := hv }
  | setParamMm2Q =>
    exact legalSetter_of .mm2 (fun v (c : Mm2Bank) => { c with q := v }) (fun _ => rfl)
      fun _ (c : Mm2Bank) hv (h : c.Legal) => { h with q := hv }
  | setParamMm2PrewarpAtCutoff =>
    exact legalSetter_of .mm2 (fun v (c : Mm2Bank) => { c with prewarpAtCutoff := v }) (fun _ => rfl)
      fun _ (c : Mm2Bank) hv (h : c.Legal) => { h with prewarpAtCutoff := hv }
  | setParamMm2PrewarpFreq =>
    exact legalSetter_of .mm2 (fun v (c : Mm2Bank) => { c with prewarpFreq := v }) (fun _ => rfl)
      fun _ (c : Mm2Bank) hv (h : c.Legal) => { h with prewarpFreq := hv }
  | setParamMm2CoeffX =>
    exact legalSetter_of .mm2 (fun v (c : Mm2Bank) => { c with coeffX := v }) (fun _ => rfl)
      fun _ (c : Mm2Bank) hv (h : c.Legal) => { h with coeffX := hv }
  | setParamMm2CoeffLp =>
    exact legalSetter_of .mm2 (fun v (c : Mm2Bank) => { c with coeffLp := v }) (fun _ => rfl)
      fun _ (c : Mm2Bank) hv (h : c.Legal) => { h with coeffLp := hv }
  | setParamMm2CoeffBp =>
    exact legalSetter_of .mm2 (fun v (c : Mm2Bank) => { c with coeffBp := v }) (fun _ => rfl)
      fun _ (c : Mm2Bank) hv (h : c.Legal) => { h with coeffBp := hv }
  | setParamMm2CoeffHp =>
    exact legalSetter_of .mm2 (fun v (c : Mm2Bank) => { c with coeffHp := v }) (fun _ => rfl)
      fun _ (c : Mm2Bank) hv (h : c.Legal) => { h with coeffHp := hv }
  | setParamHp1Cutoff =>
    exact legalSetter_of .hp1 (fun v (c : Hp1Coefs) => { c with cutoff := v }) (fun _ => rfl)
      fun _ (c : Hp1Coefs) hv (h : c.Legal) => { h with cutoff := hv }
  | setParamHp1PrewarpAtCutoff =>
    exact legalSetter_of .hp1 (fun v (c : Hp1Coefs) => { c with prewarpAtCutoff := v }) (fun _ => rfl)
      fun _ (c : Hp1Coefs) hv (h : c.Legal) => { h with prewarpAtCutoff := hv }
  | setParamHp1PrewarpFreq =>
    exact legalSetter_of .hp1 (fun v (c : Hp1Coefs) => { c with prewarpFreq := v }) (fun _ => rfl)
      fun _ (c : Hp1Coefs) hv (h : c.Legal) => { h with prewarpFreq := hv }
  | setParamLs1Cutoff =>
    exact legalSetter_of .ls1 (fun v (c : Ls1Coefs) => { c with cutoff := v }) (fun _ => rfl)
      fun _ (c : Ls1Coefs) hv (h : c.Legal) => { h with cutoff := hv }
  | setParamLs1DcGainLin =>
    exact legalSetter_of .ls1 (fun v (c : Ls1Coefs) => { c with dcGainLin := v, gainIsDb := 0 }) (fun _ => rfl)
      fun _ (c : Ls1Coefs) hv (h : c.Legal) => { h with dcGainLin := hv, gainIsDb := rfl }
  | setParamLs1DcGainDb =>
    exact legalSetter_of .ls1 (fun v (c : Ls1Coefs) => { c with dcGainDb := v, gainIsDb := 1 }) (fun _ => rfl)
      fun _ (c : Ls1Coefs) hv (h : c.Legal) => { h with dcGainDb := hv, gainIsDb := rfl }
  | setParamLs1PrewarpAtCutoff =>
    exact legalSetter_of .ls1 (fun v (c : Ls1Coefs) => { c with prewarpAtCutoff := v }) (fun _ => rfl)
      fun _ (c : Ls1Coefs) hv (h : c.Legal) => { h with prewarpAtCutoff := hv }
  | setParamLs1PrewarpFreq =>
    exact legalSetter_of .ls1 (fun v (c : Ls1Coefs) => { c with prewarpFreq := v }) (fun _ => rfl)
      fun _ (c : Ls1Coefs) hv (h : c.Legal) => { h with prewarpFreq := hv }
  | setParamLs2Cutoff =>
    exact legalSetter_of .ls2 (fun v (c : Ls2Coefs) => { c with cutoff := v }) (fun _ => rfl)
      fun _ (c : Ls2Coefs) hv (h : c.Legal) => { h with cutoff := hv }
  | setParamLs2Q =>
    exact legalSetter_of .ls2 (fun v (c : Ls2Coefs) => { c with q := v }) (fun _ => rfl)
      fun _ (c : Ls2Coefs) hv (h : c.Legal) => { h with q := hv }
  | setParamLs2DcGainLin =>
    exact legalSetter_of .ls2 (fun v (c : Ls2Coefs) => { c with dcGainLin := v, gainIsDb := 0 }) (fun _ => rfl)
      fun _ (c : Ls2Coefs) hv (h : c.Legal) => { h with dcGainLin := hv, gainIsDb := rfl }
  | setParamLs2DcGainDb =>
    exact legalSetter_of .ls2 (fun v (c : Ls2Coefs) => { c with dcGainDb := v, gainIsDb := 1 }) (fun _ => rfl)
      fun _ (c : Ls2Coefs) hv (h : c.Legal) => { h with dcGainDb := hv, gainIsDb := rfl }
  | setParamLs2PrewarpAtCutoff =>
    exact legalSetter_of .ls2 (fun v (c : Ls2Coefs) => { c with prewarpAtCutoff := v }) (fun _ => rfl)
      fun _ (c : Ls2Coefs) hv (h : c.Legal) => { h with prewarpAtCutoff := hv }
  | setParamLs2PrewarpFreq =>
    exact legalSetter_of .ls2 (fun v (c : Ls2Coefs) => { c with prewarpFreq := v }) (fun _ => rfl)
      fun _ (c : Ls2Coefs) hv (h : c.Legal) => { h with prewarpFreq := hv }
  | setParamAp2Cutoff =>
    exact legalSetter_of .ap2 (fun v (c : Ap2Coefs) => { c with cutoff := v }) (fun _ => rfl)
      fun _ (c : Ap2Coefs) hv (h : c.Legal) => { h with cutoff := hv }
  | setParamAp2Q =>
    exact legalSetter_of .ap2 (fun v (c : Ap2Coefs) => { c with q := v }) (fun _ => rfl)
      fun _ (c : Ap2Coefs) hv (h : c.Legal) => { h with q := hv }
  | setParamAp2PrewarpAtCutoff =>
    exact legalSetter_of .ap2 (fun v (c : Ap2Coefs) => { c with prewarpAtCutoff := v }) (fun _ => rfl)
      fun _ (c : Ap2Coefs) hv (h : c.Legal) => { h with prewarpAtCutoff := hv }
  | setParamAp2PrewarpFreq =>
    exact legalSetter_of .ap2 (fun v (c : Ap2Coefs) => { c with prewarpFreq := v }) (fun _ => rfl)
      fun _ (c : Ap2Coefs) hv (h : c.Legal) => { h with prewarpFreq := hv }
  | setParamPeakCutoff =>
    exact legalSetter_of .peak (fun v (c : PeakCoefs) => { c with cutoff := v }) (fun _ => rfl)
      fun _ (c : PeakCoefs) hv (h : c.Legal) => { h with cutoff := hv }
  | setParamPeakQ =>
    exact legalSetter_of .peak (fun v (c : PeakCoefs) => { c with q := v }) (fun _ => rfl)
      fun _ (c : PeakCoefs) hv (h : c.Legal) => { h with q := hv }
  | setParamPeakPeakGainLin =>
    exact legalSetter_of .peak (fun v (c : PeakCoefs) => { c with peakGainLin := v, gainIsDb := 0 }) (fun _ => rfl)
      fun _ (c : PeakCoefs) hv (h : c.Legal) => { h with peakGainLin := hv, gainIsDb := rfl }
  | setParamPeakPeakGainDb =>
    exact legalSetter_of .peak (fun v (c : PeakCoefs) => { c with peakGainDb := v, gainIsDb := 1 }) (fun _ => rfl)
      fun _ (c : PeakCoefs) hv (h : c.Legal) => { h with peakGainDb := hv, gainIsDb := rfl }
  | setParamPeakBandwidth =>
    exact legalSetter_of .peak (fun v (c : PeakCoefs) => { c with bandwidth := v }) (fun _ => rfl)
      fun _ (c : PeakCoefs) hv (h : c.Legal) => { h with bandwidth := hv }
  | setParamPeakUseBandwidth =>
    exact legalSetter_of .peak (fun v (c : PeakCoefs) => { c with useBandwidth := v }) (fun _ => rfl)
      fun _ (c : PeakCoefs) hv (h : c.Legal) => { h with useBandwidth := hv }
  | setParamPeakPrewarpAtCutoff =>
    exact legalSetter_of .peak (fun v (c : PeakCoefs) => { c with prewarpAtCutoff := v }) (fun _ => rfl)
      fun _ (c : PeakCoefs) hv (h : c.Legal) => { h with prewarpAtCutoff := hv }
  | setParamPeakPrewarpFreq =>
    exact legalSetter_of .peak (fun v (c : PeakCoefs) => { c with prewarpFreq := v }) (fun _ => rfl)
      fun _ (c : PeakCoefs) hv (h : c.Legal) => { h with prewarpFreq := hv }
  | setParamDelayDelay =>
    exact legalSetter_of .delay (fun v (c : DelayCoefs) => { c with delay := v }) (fun _ => rfl)
      fun _ (c : DelayCoefs) hv (h : c.Legal) => { h with delay := hv }
  | setParamReverbPredelay =>
    exact legalSetter_of .reverb (fun v (c : ReverbCoefs) => { c with predelay := v }) (fun _ => rfl)
      fun _ (c : ReverbCoefs) hv (h : c.Legal) => { h with predelay := hv }
  | setParamReverbBandwidth =>
    exact legalSetter_of .reverb (fun v (c : ReverbCoefs) => { c with bandwidth := v }) (fun _ => rfl)
      fun _ (c : ReverbCoefs) hv (h : c.Legal) => { h with bandwidth := hv }
  | setParamReverbDamping =>
    exact legalSetter_of .reverb (fun v (c : ReverbCoefs) => { c with damping := v }) (fun _ => rfl)
      fun _ (c : ReverbCoefs) hv (h : c.Legal) => { h with damping := hv }
  | setParamReverbDecay =>
    exact legalSetter_of .reverb (fun v (c : ReverbCoefs) => { c with decay := v }) (fun _ => rfl)
      fun _ (c : ReverbCoefs) hv (h : c.Legal) => { h with decay := hv }
  | _ => exact absurd h (ne_of_beq_false rfl)

@[simp] theorem life_writeParam (u w : UnitId) (bits : Word) (write : Word → Coefs → Coefs) (s : State) :
    ((writeParam u bits write s).regs.get w).life = (s.regs.get w).life := by
  rw [writeParam, State.markDirty, State.updRegs_regs, PerUnit.get_set]
  split
  · rename_i hw
    rw [hw]
  · rfl

@[simp] theorem writeParam_coefs (u : UnitId) (bits : Word) (write : Word → Coefs → Coefs) (s : State) :
    (writeParam u bits write s).coefs = write s.win.arg0 s.coefs := rfl

theorem legalParams_writeParam {bits : Word} {f : Word → Bank u → Bank u}
    (hf : ∀ b : Bank u, b.Legal → (f s.win.arg0 b).Legal) (hlife : (s.regs.get u).life ≠ .uninit)
    (h : legalParams s) :
    legalParams (writeParam u bits (fun v c => c.withBank u (f v (c.bank u))) s) := by
  refine legalParams_iff.2 fun w => ?_
  have hs := legalParams_iff.1 h w
  rw [life_writeParam, writeParam_coefs]
  by_cases hw : w = u
  · subst hw
    rw [bank_withBank_self]
    exact legalUnit_of_legal (hf _ (hs.2 hlife))
  · rw [bank_withBank_other _ hw]
    exact hs

/-! ### Every command -/

theorem ne_uninit_of_isInited {l : Life} (h : isInited l) : l ≠ .uninit := by
  rintro rfl
  simp [isInited] at h

theorem legalParams_setter (hset : LegalSetter i) (h : legalParams s) (hx : exec i s = .next t) : legalParams t := by
  obtain ⟨u, ok, bits, f, hexec, hf⟩ := hset
  rw [hexec] at hx
  rcases runCommand_next hx with hok | ⟨c, a, b, r, herr, rfl⟩
  · rw [cmdSetParam_run] at hok
    split_ifs at hok with hlife hv
    cases hok
    exact legalParams_writeParam (fun b => hf _ b hv) (ne_uninit_of_isInited ((lifeInited_eq _).1 hlife)) h
  · rw [cmdSetParam_run] at herr
    split_ifs at herr <;> cases herr <;> exact h

theorem legalParams_init (h : legalParams s) (hx : exec (initOf u) s = .next t) : legalParams t := by
  rw [exec_initOf] at hx
  rcases runCommand_next hx with hok | ⟨c, a, b, r, herr, rfl⟩
  · rw [cmdInit_run] at hok
    split_ifs at hok with hv
    cases hok
    exact legalParams_initUnit h hv
  · rw [cmdInit_run] at herr
    split_ifs at herr
    cases herr
    exact h

/-- Only INIT takes a unit out of UNINIT. -/
theorem life_of_not_init (hx : exec i s = .next t) (hinit : i.fields.opc ≠ 0x01#6) (u : UnitId)
    (hl : (t.regs.get u).life ≠ .uninit) : (s.regs.get u).life ≠ .uninit := by
  rcases lifecycleTransitions i s t u hx with hsame | ⟨rfl, -⟩ | ⟨-, hlife, -⟩ | ⟨-, hlife, -⟩
  · rwa [← hsame]
  · exact absurd (opc_initOf u) hinit
  · exact ne_uninit_of_isInited hlife
  · exact ne_uninit_of_isInited (.inr hlife)

theorem eq_initOf_of_opc (h : i.fields.opc = 0x01#6) : ∃ u, i = initOf u := by
  obtain ⟨e, hshape, -⟩ := exec_shape i
  cases hshape with
  | init u => exact ⟨u, rfl⟩
  | setParam _ _ _ _ _ hopc => exact absurd (hopc.symm.trans h) (by decide)
  | readCoef _ _ _ hopc => exact absurd (hopc.symm.trans h) (by decide)
  | readState _ _ _ _ hopc => exact absurd (hopc.symm.trans h) (by decide)
  | nop => exact absurd h (by decide)
  | _ => simp at h

theorem legalParams_exec (h : legalParams s) (hx : exec i s = .next t) : legalParams t := by
  by_cases hset : i.fields.opc = 0x0A#6
  · exact legalParams_setter (legalSetter hset) h hx
  · by_cases hinit : i.fields.opc = 0x01#6
    · obtain ⟨u, rfl⟩ := eq_initOf_of_opc hinit
      exact legalParams_init h hx
    · exact legalParams_congr ((exec_commandFrame hx).params hinit hset) (life_of_not_init hx hinit) h

/-! ### Every host access -/

/-- A property of the state a host access leads to: the next one, or the one its command runs from. -/
def Fetched.Leads (P : State → Prop) : Fetched → Prop
  | .done (.next t) => P t
  | .done _ => True
  | .run _ t => P t

/-- The units are as they were, or block reset has cleared them (70_reset_and_hazards.md R470). -/
def UnitsKeptOrReset (s t : State) : Prop := (t.coefs = s.coefs ∧ t.regs = s.regs) ∨ ∃ r, t = blockReset r

theorem leads_writeCmd (v : Word) (s : State) : (writeCmd v s).Leads (UnitsKeptOrReset s) := by
  unfold writeCmd
  split
  · exact .inl ⟨rfl, rfl⟩
  · split <;> exact .inl ⟨rfl, rfl⟩

theorem leads_writeWindow (x : WindowReg) (v : Word) (s : State) :
    (writeWindow x v s).Leads (UnitsKeptOrReset s) := by
  cases x with
  | cmd => exact leads_writeCmd v s
  | ctrl =>
    show UnitsKeptOrReset s (if v.getLsbD 0 then blockReset s else s)
    split
    · exact .inr ⟨s, rfl⟩
    · exact .inl ⟨rfl, rfl⟩
  | _ => exact .inl ⟨rfl, rfl⟩

theorem leads_hostAccess (a : Word) (n : Nat) {s k : State} (hk : UnitsKeptOrReset s k) :
    (Fetched.done (hostAccess a n s k)).Leads (UnitsKeptOrReset s) := by
  unfold hostAccess
  split
  · trivial
  · split
    · exact .inl ⟨rfl, rfl⟩
    · trivial
    · exact hk

theorem leads_hostStep (e : HostEvent) (s : State) : (hostStep e s).Leads (UnitsKeptOrReset s) := by
  cases e with
  | store a size v =>
    unfold hostStep
    dsimp only
    split
    · exact leads_writeWindow _ v (s.answer .stored)
    · exact .inl ⟨rfl, rfl⟩
  | load a size =>
    unfold hostStep
    dsimp only
    split <;> exact .inl ⟨rfl, rfl⟩
  | resetInput => exact .inr ⟨s, rfl⟩
  | _ => exact leads_hostAccess _ _ (.inl ⟨rfl, rfl⟩)

theorem leads_fetch (s : State) : (fetch s).Leads (UnitsKeptOrReset s) := by
  unfold fetch
  split
  · exact .inl ⟨rfl, rfl⟩
  · exact leads_hostStep _ { s with inbox := _ }

/-- Before INIT only the flags have to be legal, and reset clears them. -/
theorem legalParams_blockReset (s : State) : legalParams (blockReset s) := by
  refine legalParams_iff.2 fun u => ⟨?_, fun hl => absurd ?_ hl⟩
  · cases u with
    | ls1 | ls2 => exact ⟨rfl, rfl⟩
    | peak => exact ⟨rfl, rfl, rfl⟩
    | delay | reverb => trivial
    | _ => exact (rfl : okFlag 0 = true)
  · simp [blockReset, State.resetOf]

theorem legalParams_of_kept (h : legalParams s) (hk : UnitsKeptOrReset s t) : legalParams t := by
  rcases hk with ⟨hcoefs, hregs⟩ | ⟨r, rfl⟩
  · exact legalParams_congr (by rw [hcoefs]) (fun u => by rw [hregs]; exact id) h
  · exact legalParams_blockReset r

/-- Settles O59: the host access of the step keeps the parameters or clears them, the command it starts writes legal
values only. -/
theorem everyStepKeepsLegalParams : Obligations.EveryStepKeepsLegalParams := by
  intro s t h hstep
  have hf := leads_fetch s
  rw [step_eq_outcome] at hstep
  cases hr : fetch s with
  | done o =>
    rw [hr] at hf hstep
    cases hstep
    exact legalParams_of_kept h hf
  | run i r =>
    rw [hr] at hf hstep
    exact legalParams_exec (legalParams_of_kept h hf) hstep

end Sys2Proof.Machine
end

-- ==== Proofs: the checks of a command ====
section
/-! PROOFS. The checks of a command in the order of 40_protocol.md R141 (its channel, its unit's lifecycle, the binding
and the validity of the channel, its samples), each failing with no other effect; and the commands whose one effect is
an answer in RES0 or a binding (R140, R150, R151, R160, R161). -/

namespace Sys2Proof.Machine
open Sys2Proof.Config

variable {s t : State} {u : UnitId} {i : Instr} {ch : BitVec 6} {e : Engine Unit}

/-! ### The channel, then the lifecycle (R141 items 2 and 3) -/

/-- A command names a channel exactly when its opcode uses CH. -/
theorem channel_isSome (i : Instr) : i.channel.isSome = usesCh i.fields.opc := by cases i <;> rfl

theorem channel_of_unused (h : usesCh i.fields.opc = false) : i.channel = none := by
  rwa [← channel_isSome, Option.isSome_eq_false_iff, Option.isNone_iff_eq_none] at h

theorem channel_lt_of_wellFormed {n : Nat} (h : i.wellFormed n = true) (hc : i.channel = some ch) : ch.toNat < n := by
  rw [Instr.wellFormed, hc] at h
  exact of_decide_eq_true h

/-- A command of a channel the block does not have stops there. -/
theorem badChannel_of_shape (hshape : CommandShape i e) (hc : i.channel = some ch) (hn : ¬ch.toNat < s.hw.nCh) :
    e s = .error (.trap .badChannel (ch.setWidth 32) 0) s := by
  have first {β : Type} (k : Unit → Engine β) :
      (requireChannel ch >>= k) s = .error (.trap .badChannel (ch.setWidth 32) 0) s :=
    engine_bind_error ((requireChannel_run ch s).trans (if_neg hn))
  have admission {β : Type} (u : UnitId) (k : Unit → Engine β) :
      (admitChannel u ch >>= k) s = .error (.trap .badChannel (ch.setWidth 32) 0) s :=
    engine_bind_error ((admitChannel_run u ch s).trans (if_neg hn))
  cases hshape with
  | resetState u c =>
    cases (channel_resetStateOf u c).symm.trans hc
    exact first _
  | process1 u c =>
    cases (channel_process1Of u c).symm.trans hc
    exact admission u _
  | process u c =>
    cases (channel_processOf u c).symm.trans hc
    exact admission u _
  | memSetDelay c | memSetReverb c =>
    cases hc
    exact first _
  | delayRead c | delayWrite c =>
    cases hc
    exact admission .delay _
  | readState _ u c reg opc unit channel =>
    cases channel.symm.trans hc
    exact first _
  | setParam _ _ _ _ _ opc =>
    have := channel_of_unused (i := i) (by rw [opc]; rfl)
    simp [this] at hc
  | readCoef _ _ _ opc =>
    have := channel_of_unused (i := i) (by rw [opc]; rfl)
    simp [this] at hc
  | nop | memReqDelay | memReqReverb => cases hc
  | _ => simp at hc

/-- The lifecycles an opcode accepts, as the engine checks them. -/
theorem lifeAccepted_any {opc : BitVec 6} (h : opc = 0x00#6 ∨ opc = 0x01#6 ∨ opc = 0x0F#6 ∨ opc = 0x10#6) (l : Life) :
    lifeAccepted opc l := by
  rw [lifeAccepted, if_pos h]
  trivial

theorem lifeAccepted_inited {opc : BitVec 6} (h : opc = 0x02#6 ∨ opc = 0x0A#6) (l : Life) :
    lifeAccepted opc l ↔ lifeInited l = true := by
  rw [lifeInited_eq]
  rcases h with rfl | rfl <;> rfl

theorem lifeAccepted_srSet {opc : BitVec 6} (h : opc = 0x03#6 ∨ opc = 0x0B#6 ∨ opc = 0x0C#6) (l : Life) :
    lifeAccepted opc l ↔ lifeSrSet l = true := by
  rw [lifeSrSet_eq]
  rcases h with rfl | rfl | rfl <;> rfl

theorem lifeAccepted_ready {opc : BitVec 6}
    (h : opc ∈ [0x04#6, 0x05#6, 0x06#6, 0x07#6, 0x08#6, 0x09#6, 0x0D#6, 0x0E#6]) (l : Life) :
    lifeAccepted opc l ↔ lifeReady l = true := by
  rw [lifeReady_eq]
  simp only [List.mem_cons, List.not_mem_nil, or_false] at h
  rcases h with rfl | rfl | rfl | rfl | rfl | rfl | rfl | rfl <;> rfl

/-- A command of a unit whose lifecycle it does not accept stops there. -/
theorem lifecycle_of_shape (hshape : CommandShape i e) (hu : unitOfInstr i = some u)
    (hw : i.wellFormed s.hw.nCh = true) (hl : ¬lifeAccepted i.fields.opc (s.regs.get u).life) :
    e s = .error (.trap .lifecycle (lifeCode (s.regs.get u).life) 0) s := by
  have first {β : Type} {ok : Life → Bool} (h : ¬ok (s.regs.get u).life = true) (k : Unit → Engine β) :
      (requireLife u ok >>= k) s = .error (.trap .lifecycle (lifeCode (s.regs.get u).life) 0) s :=
    engine_bind_error ((requireLife_run u ok s).trans (if_neg h))
  have second {β : Type} {ch : BitVec 6} (hc : i.channel = some ch) (k : Unit → Engine β) :
      (requireChannel ch >>= k) s = k () s :=
    engine_bind_ok ((requireChannel_run ch s).trans (if_pos (channel_lt_of_wellFormed hw hc)))
  have admission {β : Type} {ch : BitVec 6} (hc : i.channel = some ch) (h : ¬lifeReady (s.regs.get u).life = true)
      (k : Unit → Engine β) :
      (admitChannel u ch >>= k) s = .error (.trap .lifecycle (lifeCode (s.regs.get u).life) 0) s :=
    engine_bind_error ((second hc _).trans (first h _))
  cases hshape with
  | nop => cases hu
  | init u' => exact absurd (lifeAccepted_any (by simp) _) hl
  | setSr u' =>
    cases (unit_setSrOf u').symm.trans hu
    rw [lifeAccepted_inited (by simp)] at hl
    exact first hl _
  | resetCoeffs u' =>
    cases (unit_resetCoeffsOf u').symm.trans hu
    rw [lifeAccepted_srSet (by simp)] at hl
    exact first hl _
  | resetState u' ch =>
    cases (unit_resetStateOf u' ch).symm.trans hu
    rw [lifeAccepted_ready (by simp)] at hl
    exact (second (channel_resetStateOf u ch) _).trans (first hl _)
  | updateCtrl u' =>
    cases (unit_updateCtrlOf u').symm.trans hu
    rw [lifeAccepted_ready (by simp)] at hl
    exact first hl _
  | updateAudio u' =>
    cases (unit_updateAudioOf u').symm.trans hu
    rw [lifeAccepted_ready (by simp)] at hl
    exact first hl _
  | process1 u' ch =>
    cases (unit_process1Of u' ch).symm.trans hu
    rw [lifeAccepted_ready (by simp)] at hl
    exact admission (channel_process1Of u ch) hl _
  | process u' ch =>
    cases (unit_processOf u' ch).symm.trans hu
    rw [lifeAccepted_ready (by simp)] at hl
    exact admission (channel_processOf u ch) hl _
  | processMulti u' =>
    cases (unit_processMultiOf u').symm.trans hu
    rw [lifeAccepted_ready (by simp)] at hl
    exact first hl _
  | setParam _ u' ok bits write opc unit =>
    cases unit.symm.trans hu
    rw [lifeAccepted_inited (.inr opc)] at hl
    exact first hl _
  | memReqDelay | memReqReverb =>
    cases hu
    rw [lifeAccepted_srSet (by simp)] at hl
    exact first hl _
  | memSetDelay ch | memSetReverb ch =>
    cases hu
    rw [lifeAccepted_srSet (by simp)] at hl
    exact (second rfl _).trans (first hl _)
  | delayRead ch | delayWrite ch =>
    cases hu
    rw [lifeAccepted_ready (by simp)] at hl
    exact admission rfl hl _
  | readCoef _ u' reg opc => exact absurd (lifeAccepted_any (.inr (.inr (.inl opc))) _) hl
  | readState _ u' ch reg opc => exact absurd (lifeAccepted_any (.inr (.inr (.inr opc))) _) hl

/-- Settles O14: every shape of command checks its channel first and its unit's lifecycle next. -/
theorem channelAndLifecycleChecks : Obligations.ChannelAndLifecycleChecks := by
  refine ⟨fun i ch s hc hn => ?_, fun i u s hu hw hl => ?_⟩
  · obtain ⟨e, hshape, hexec⟩ := exec_shape i
    rw [hexec, runCommand_trap (badChannel_of_shape hshape hc (by omega))]
  · obtain ⟨e, hshape, hexec⟩ := exec_shape i
    rw [hexec, runCommand_trap (lifecycle_of_shape hshape hu hw hl)]

/-! ### The binding, then the validity (R141 items 4 and 5) -/

theorem ofNat_toNat_channel (ch : BitVec 6) : BitVec.ofNat 32 ch.toNat = ch.setWidth 32 := BitVec.ofNat_toNat ..

/-- The commands that need an admitted channel: where it is not admitted, they stop as its admission does. -/
theorem exec_of_admit_error {x : FaultCode} {a : Word} (h : admitChannel u ch s = .error (.trap x a 0) s)
    (hi : i = process1Of u ch ∨ i = processOf u ch ∨
      (u = .delay ∧ (i = .delayReadDelay ch ∨ i = .delayWriteDelay ch))) :
    exec i s = .next (enterFault (encode i) x a 0 s) := by
  rcases hi with rfl | rfl | ⟨rfl, rfl | rfl⟩
  · exact (exec_process1Of u ch s).trans (runCommand_trap (engine_bind_error h))
  · exact (exec_processOf u ch s).trans (runCommand_trap (engine_bind_error h))
  · exact runCommand_trap (e := cmdDelayRead ch) (engine_bind_error h)
  · exact runCommand_trap (e := cmdDelayWrite ch) (engine_bind_error h)

theorem admitChannel_unbound (hl : (s.regs.get u).life = .ready) (hc : ch.toNat < s.hw.nCh) (hm : hasMemory u = true)
    (hb : (s.binding u ch.toNat).bound = false) :
    admitChannel u ch s = .error (.trap .memUnbound (ch.setWidth 32) 0) s := by
  rw [admitChannel_run, if_pos hc, if_pos ((lifeReady_eq _).2 hl), if_neg (by simp [hm, hb]), ofNat_toNat_channel]

theorem admitChannel_invalid (hl : (s.regs.get u).life = .ready) (hc : ch.toNat < s.hw.nCh)
    (hb : hasMemory u = true → (s.binding u ch.toNat).bound = true) (hv : s.stValid u ch.toNat = false) :
    admitChannel u ch s = .error (.trap .stateInvalid (ch.setWidth 32) 0) s := by
  rw [admitChannel_run, if_pos hc, if_pos ((lifeReady_eq _).2 hl), if_pos hb, if_neg (by simp [hv]),
    ofNat_toNat_channel]

theorem cmdResetState_unbound (hl : (s.regs.get u).life = .ready) (hc : ch.toNat < s.hw.nCh)
    (hm : hasMemory u = true) (hb : (s.binding u ch.toNat).bound = false) :
    cmdResetState u ch s = .error (.trap .memUnbound (ch.setWidth 32) 0) s := by
  rw [cmdResetState, engine_check (requireChannel_run ch s), if_pos hc, engine_check (requireLife_run u _ s),
    if_pos ((lifeReady_eq _).2 hl), engine_check (requireBound_run u ch.toNat s), if_neg (by simp [hm, hb]),
    ofNat_toNat_channel]

/-- Settles O15: RESET_STATE checks the binding, and the commands that need an admitted channel the binding and the flag. -/
theorem bindingAndValidityChecks : Obligations.BindingAndValidityChecks := by
  rintro u ch s hl hc
  refine ⟨fun ⟨hm, hb⟩ i hi => ?_, fun ⟨hb, hv⟩ i hi => ?_⟩
  · rcases hi with rfl | hi
    · rw [exec_resetStateOf, runCommand_trap (cmdResetState_unbound hl hc hm hb)]
    · exact exec_of_admit_error (admitChannel_unbound hl hc hm hb) hi
  · exact exec_of_admit_error (admitChannel_invalid hl hc hb hv) hi

/-! ### The samples (R145, R148) -/

/-- The first sample that is not finite is reported, for REVERB ARG0 before ARG1. -/
theorem requireFinite_arg0 (u : UnitId) (h : isFinite s.win.arg0 = false) :
    requireFinite (sampleArgs u s.win) s = .error (.trap .nonfinite s.win.arg0 0) s := by
  rw [requireFinite_run]
  cases u <;> simp [sampleArgs, h]

theorem requireFinite_arg1 (h0 : isFinite s.win.arg0 = true) (h1 : isFinite s.win.arg1 = false) :
    requireFinite (sampleArgs .reverb s.win) s = .error (.trap .nonfinite s.win.arg1 0) s := by
  rw [requireFinite_run]
  simp [sampleArgs, h0, h1]

/-- RESET_STATE and PROCESS1 of a channel with the other checks right stop at a sample that is not finite. -/
theorem exec_of_nonfinite {v : Word} (hl : (s.regs.get u).life = .ready) (hc : ch.toNat < s.hw.nCh)
    (hb : hasMemory u = true → (s.binding u ch.toNat).bound = true)
    (hi : i = resetStateOf u ch ∨ (i = process1Of u ch ∧ s.stValid u ch.toNat = true))
    (h : requireFinite (sampleArgs u s.win) s = .error (.trap .nonfinite v 0) s) :
    exec i s = .next (enterFault (encode i) .nonfinite v 0 s) := by
  rcases hi with rfl | ⟨rfl, hv⟩
  · rw [exec_resetStateOf]
    refine runCommand_trap ?_
    rw [cmdResetState, engine_check (requireChannel_run ch s), if_pos hc, engine_check (requireLife_run u _ s),
      if_pos ((lifeReady_eq _).2 hl), engine_check (requireBound_run u ch.toNat s), if_pos hb, engine_bind_get]
    exact engine_bind_error h
  · rw [exec_process1Of]
    refine runCommand_trap ?_
    rw [cmdProcess1, engine_bind_ok (admitChannel_pass u ch s ⟨hl, hc, hb, hv⟩), engine_bind_get]
    exact engine_bind_error h

/-- Settles O16: the samples are checked in the order of the operands. -/
theorem nonfiniteInputFaults : Obligations.NonfiniteInputFaults := by
  intro u ch s hl hc hb i hi
  refine ⟨fun h0 => exec_of_nonfinite hl hc hb hi (requireFinite_arg0 u h0), ?_⟩
  rintro h0 rfl h1
  exact exec_of_nonfinite hl hc hb hi (requireFinite_arg1 h0 h1)

/-! ### Binding (R150, R151) -/

theorem exec_memReq (hi : exec i s = runCommand i (cmdMemReq u) s)
    (hl : (s.regs.get u).life = .srSet ∨ (s.regs.get u).life = .ready) :
    exec i s = .next (s.setRes0 (s.memReq u)) := by
  rw [hi, runCommand_ok]
  rw [cmdMemReq_run, if_pos ((lifeSrSet_eq _).2 hl)]

/-- MEM_SET by the base it is given: not aligned, past 2^32, or bound. -/
theorem exec_memSet (hi : exec i s = runCommand i (cmdMemSet u ch) s) (hc : ch.toNat < s.hw.nCh)
    (hl : (s.regs.get u).life = .srSet ∨ (s.regs.get u).life = .ready) :
    (s.win.arg0.toNat % 4 ≠ 0 → exec i s = .next (enterFault (encode i) .misaligned s.win.arg0 0 s)) ∧
    (s.win.arg0.toNat % 4 = 0 → 2 ^ 32 < s.win.arg0.toNat + (s.memReq u).toNat →
      exec i s = .next (enterFault (encode i) .addrRange s.win.arg0 0 s)) ∧
    (s.win.arg0.toNat % 4 = 0 → s.win.arg0.toNat + (s.memReq u).toNat ≤ 2 ^ 32 →
      exec i s = .next (bindChannel u ch.toNat s)) := by
  have hrun := cmdMemSet_run u ch s
  rw [if_pos hc, if_pos ((lifeSrSet_eq _).2 hl)] at hrun
  simp only [aligned4_iff, inRange_iff] at hrun
  rw [hi]
  refine ⟨fun ha => runCommand_trap ?_, fun ha hr => runCommand_trap ?_, fun ha hr => runCommand_ok ?_⟩
  · rw [hrun, if_neg ha]
  · rw [hrun, if_pos ha, if_neg (by omega)]
  · rw [hrun, if_pos ha, if_pos hr]

theorem encode_memSetDelay (ch : BitVec 6) :
    encode (.memSetDelay ch) = 0x32000000#32 ||| (ch.setWidth 32 <<< 16) := by
  revert ch
  decide

theorem encode_memSetReverb (ch : BitVec 6) :
    encode (.memSetReverb ch) = 0x32400000#32 ||| (ch.setWidth 32 <<< 16) := by
  revert ch
  decide

/-- Settles O49: both commands by their checks in order. -/
theorem memReqAndMemSet : Obligations.MemReqAndMemSet := by
  refine ⟨fun s => ⟨fun h => exec_memReq (u := .delay) rfl h, fun h => exec_memReq (u := .reverb) rfl h⟩,
    fun s ch hc => ⟨fun h => ?_, fun h => ?_⟩⟩
  · have := exec_memSet (u := .delay) (i := .memSetDelay ch) rfl hc h
    rwa [encode_memSetDelay] at this
  · have := exec_memSet (u := .reverb) (i := .memSetReverb ch) rfl hc h
    rwa [encode_memSetReverb] at this

/-! ### Register reads (R140, R160, R161) -/

theorem readCoef_of_opc (hopc : i.fields.opc = 0x0F#6) (hu : unitOfInstr i = some u) (s : State) :
    ∃ v, coefReg s u i.fields.sel = some v ∧ exec i s = .next (s.setRes0 v) := by
  obtain ⟨e, hshape, hexec⟩ := exec_shape i
  cases hshape with
  | readCoef _ u' reg _ unit reads =>
    cases unit.symm.trans hu
    exact ⟨reg s, reads s, (hexec s).trans (runCommand_ok (cmdReadCoef_run s reg))⟩
  | setParam _ _ _ _ _ h => exact absurd (h.symm.trans hopc) (by decide)
  | readState _ _ _ _ h => exact absurd (h.symm.trans hopc) (by decide)
  | nop => exact absurd hopc (by decide)
  | _ => simp at hopc

theorem readState_of_opc (hopc : i.fields.opc = 0x10#6) (hu : unitOfInstr i = some u) (hch : i.channel = some ch)
    (hc : ch.toNat < s.hw.nCh) :
    ∃ v, stateReg s u ch.toNat i.fields.sel = some v ∧ exec i s = .next (s.setRes0 v) := by
  obtain ⟨e, hshape, hexec⟩ := exec_shape i
  cases hshape with
  | readState _ u' c reg _ unit channel reads =>
    cases unit.symm.trans hu
    cases channel.symm.trans hch
    exact ⟨reg s ch.toNat, reads s ch.toNat, (hexec s).trans
      (runCommand_ok ((cmdReadState_run ch s reg).trans (if_pos hc)))⟩
  | setParam _ _ _ _ _ h => exact absurd (h.symm.trans hopc) (by decide)
  | readCoef _ _ _ h => exact absurd (h.symm.trans hopc) (by decide)
  | nop => exact absurd hopc (by decide)
  | _ => simp at hopc

/-- Settles O50: the register a read's select names is the one its command reads. -/
theorem nopAndRegisterReads : Obligations.NopAndRegisterReads :=
  ⟨⟨rfl, fun _ => rfl⟩, fun _ _ s hopc hu => readCoef_of_opc hopc hu s,
    fun _ _ _ _ hopc hu hch hc => readState_of_opc hopc hu hch hc⟩

end Sys2Proof.Machine
end

-- ==== Proofs: the control commands ====
section
/-! PROOFS. The control commands of every unit (40_protocol.md R142 to R144, R146, R147): the one effect each has, read
register by register. What an effect leaves of everything outside its unit is its command's frame. -/

namespace Sys2Proof.Machine
open Sys2Proof.Config

variable {s t : State} {u w : UnitId} {i : Instr}

/-! ### Nothing outside the unit -/

theorem not_mayStore (hopc : i.fields.opc ∈ [0x01#6, 0x02#6, 0x03#6, 0x05#6, 0x06#6]) : ¬MayStore i := by
  simp only [List.mem_cons, List.not_mem_nil, or_false] at hopc
  rintro (h | h | ⟨u, -, -, h | h | h⟩) <;> rw [h] at hopc <;> exact absurd hopc (by decide)

/-- A command of a unit that stores nothing and leaves the window keeps everything outside the unit. -/
theorem CommandFrame.onlyUnit (h : CommandFrame i s t) (hu : unitOfInstr i = some u) (hwin : t.win = s.win)
    (hopc : i.fields.opc ∈ [0x01#6, 0x02#6, 0x03#6, 0x05#6, 0x06#6]) : onlyUnit s t u :=
  ⟨fun v hv => h.others v fun e => hv (Option.some.inj (e.symm.trans hu)), h.hw, hwin, h.mem (not_mayStore hopc),
    h.inbox, h.reply⟩

/-! ### UPDATE_AUDIO (R147, 45_reverb.md R379 to R381) -/

theorem exec_updateAudio (h : (s.regs.get u).life = .ready) :
    exec (updateAudioOf u) s = .next (updateAudio u s) := by
  rw [exec_updateAudioOf, runCommand_ok]
  rw [cmdUpdateAudio_run, if_pos ((lifeReady_eq _).2 h)]

theorem updateAudio_of_ne_reverb (h : u ≠ .reverb) (s : State) : updateAudio u s = s := by
  cases u <;> first | rfl | exact absurd rfl h

/-- Settles O24: the REVERB hook is the three rules' formulas. -/
theorem updateAudio_holds : Obligations.UpdateAudio := by
  refine ⟨fun u s h hu => ?_, fun s h => ⟨reverbUpdateAudio s.regs.reverb.fs s.coefs.reverb, ?_, ?_⟩⟩
  · rw [exec_updateAudio h, updateAudio_of_ne_reverb hu]
  · exact exec_updateAudio (u := .reverb) h
  · have hstep : predelayStep s.coefs.reverb =
        let y := onePoleOf s.coefs.reverb.aPds s.coefs.reverb.pdS s.coefs.reverb.pdTarget
        let e := fSub y s.coefs.reverb.pdTarget
        if fNe s.coefs.reverb.aPds 0x3F800000#32 = true ∧ fLe (fMul e e) s.coefs.reverb.st2Pd = true
          then s.coefs.reverb.pdTarget else y := by
      simp only [← Bool.and_eq_true]
      rfl
    simp only [reverbUpdateAudio, hstep]
    rfl

/-! ### UPDATE_CTRL (R146) -/

theorem exec_updateCtrl (h : (s.regs.get u).life = .ready) : exec (updateCtrlOf u) s = .next (updateCtrl u s) := by
  rw [exec_updateCtrlOf, runCommand_ok]
  rw [cmdUpdateCtrl_run, if_pos ((lifeReady_eq _).2 h)]

/-- A DIRTY mask of 0 leaves nothing to do. -/
theorem updateCtrl_of_clean (h : (s.regs.get u).dirty = 0) : updateCtrl u s = s := by
  have hregs : { s.regs.get u with dirty := 0 } = s.regs.get u := by rw [← h]
  rw [updateCtrl, if_pos h, State.clearDirty, State.updRegs, hregs, PerUnit.set_get_self]

theorem params_updateCtrl (u : UnitId) (s : State) : (updateCtrl u s).coefs.params = s.coefs.params := by
  unfold updateCtrl
  rw [State.clearDirty_coefs]
  split
  · rfl
  · exact params_updateCtrlHook u _ _ _

/-- Settles O23: the hook writes derived registers only, and the mask is cleared. -/
theorem updateCtrl_holds : Obligations.UpdateCtrl := by
  intro u s h
  have hx := exec_updateCtrl h
  refine ⟨_, hx, updateCtrl_of_clean, by simp [updateCtrl, State.clearDirty], fun sel hsel => ?_, fun _ _ => rfl, ?_⟩
  · exact coefReg_of_params (params_updateCtrl u s) u hsel
  · exact (exec_commandFrame hx).onlyUnit (unit_updateCtrlOf u) rfl (by simp)

/-! ### RESET_COEFFS (R144, 45_reverb.md R376) -/

theorem exec_resetCoeffs (h : (s.regs.get u).life = .srSet ∨ (s.regs.get u).life = .ready) :
    exec (resetCoeffsOf u) s = .next (resetCoeffs u s) := by
  rw [exec_resetCoeffsOf, runCommand_ok]
  rw [cmdResetCoeffs_run, if_pos ((lifeSrSet_eq _).2 h)]

/-- The state UPDATE_CTRL runs from to recompute every derived register. -/
def allMarked (u : UnitId) (s : State) : State :=
  { s with regs := s.regs.set u { s.regs.get u with life := .ready, dirty := allDirty u } }

theorem updateCtrl_allMarked (u : UnitId) (s : State) :
    (updateCtrl u (allMarked u s)).coefs = updateCtrlHook u (s.regs.get u).fs (allDirty u) s.coefs := by
  have hget : (allMarked u s).regs.get u = { s.regs.get u with life := .ready, dirty := allDirty u } := by
    simp [allMarked]
  have hdirty : allDirty u ≠ 0 := by cases u <;> decide
  rw [updateCtrl, hget]
  exact if_neg hdirty

/-- But for REVERB, RESET_COEFFS recomputes what UPDATE_CTRL with every DIRTY bit set does. -/
theorem resetCoeffsHook_of_ne_reverb (h : u ≠ .reverb) (fs : F32) (c : Coefs) :
    resetCoeffsHook u fs c = updateCtrlHook u fs (allDirty u) c := by
  cases u <;> first | rfl | exact absurd rfl h

/-- Settles O22: the derived registers are UPDATE_CTRL's, with REVERB's own start values over them. -/
theorem resetCoeffs_holds : Obligations.ResetCoeffs := by
  intro u s h
  have hx := exec_resetCoeffs h
  have hlife : ((allMarked u s).regs.get u).life = .ready := by simp [allMarked]
  refine ⟨_, updateCtrl u (allMarked u s), hx, exec_updateCtrl hlife, by simp [resetCoeffs],
    fun ch => by simp [resetCoeffs], rfl, rfl, fun hu => ?_,
    ?_, fun sel hsel => ?_, ?_⟩
  · rw [updateCtrl_allMarked, ← resetCoeffsHook_of_ne_reverb hu]
    rfl
  · rintro rfl
    rw [updateCtrl_allMarked]
    have hst2 : fMul pdThresh pdThresh = 0x2B8CBCCC#32 := by decide
    show reverbResetCoeffs s.regs.reverb.fs s.coefs.reverb = _
    rw [reverbResetCoeffs, hst2]
    rfl
  · exact coefReg_of_params (params_resetCoeffsHook u _ _) u hsel
  · exact (exec_commandFrame hx).onlyUnit (unit_resetCoeffsOf u) rfl (by simp)

end Sys2Proof.Machine
end

-- ==== Proofs: INIT ====
section
/-! PROOFS. INIT of every unit (40_protocol.md R142), by the register tables of 10_state.md R34 and R37 to R44: each
register of the unit's bank has its INIT value, each register of its channels is 0. -/

namespace Sys2Proof.Machine
open Sys2Proof.Config

variable {s t : State} {u : UnitId} {sel : BitVec 8} {v x : Word}

theorem orReg_eq_some {a b : Option Word} (h : orReg a b = some v) : a = some v ∨ b = some v := by
  cases a with
  | none => exact .inr h
  | some w => exact .inl h

/-! ### The coefficient registers -/

theorem memReq_initUnit (u : UnitId) (s : State) : (initUnit u s).memReq u = 0 := by
  cases u <;> rfl

theorem commonReg_initUnit (h : commonReg (initUnit u s) u sel = some v) : v = initValue u x sel := by
  have hregs : (initUnit u s).regs.get u = initRegs u := by rw [initUnit_regs, PerUnit.get_set_self]
  simp only [commonReg, hregs, memReq_initUnit] at h
  split at h <;> cases h <;> cases u <;> rfl

theorem mm1Reg_initial (h : mm1Reg Mm1Bank.initial sel = some v) : v = mm1Init sel := by
  unfold mm1Reg at h
  split at h <;> cases h <;> rfl

theorem mm1Reg_initValue (h : mm1Reg Mm1Bank.initial sel = some v) : v = initValue .mm1 x sel := by
  unfold mm1Reg at h
  split at h <;> cases h <;> rfl

theorem mm2Reg_initial (h : mm2Reg Mm2Bank.initial sel = some v) : v = mm2Init sel := by
  unfold mm2Reg at h
  split at h <;> cases h <;> rfl

theorem mm2Reg_initValue (h : mm2Reg Mm2Bank.initial sel = some v) : v = initValue .mm2 x sel := by
  unfold mm2Reg at h
  split at h <;> cases h <;> rfl

/-- A read of an inner bank reads its DIRTY mask, or one of its registers from 0x80 on (R41). -/
theorem innerReg_eq_some {bank : BitVec 8 → Option Word} {d : Word} (h : innerReg bank d sel = some v) :
    sel = 0xE0#8 ∧ v = d ∨ (0x80 ≤ sel.toNat ∧ sel.toNat ≤ 0xCF) ∧ bank (sel - 0x80#8) = some v := by
  unfold innerReg at h
  split_ifs at h with hd hr
  · cases h
    exact .inl ⟨hd, rfl⟩
  · exact .inr ⟨hr, h⟩

/-- In the range of the inner bank, the table of INIT values is the inner core's. -/
theorem initValue_inner (hsel : 0x80 ≤ sel.toNat ∧ sel.toNat ≤ 0xCF) :
    (∀ u, u = .hp1 ∨ u = .ls1 → initValue u x sel = mm1Init (sel - 0x80#8)) ∧
      ∀ u, u = .ls2 ∨ u = .ap2 ∨ u = .peak → initValue u x sel = mm2Init (sel - 0x80#8) := by
  obtain ⟨hlo, hhi⟩ := hsel
  have hne : ∀ k : BitVec 8, k.toNat < 0x80 ∨ 0xCF < k.toNat → (sel = k) = False := by
    rintro k hk
    refine eq_false ?_
    rintro rfl
    omega
  constructor
  · rintro u (rfl | rfl) <;> simp [initValue, hne, hlo]
  · rintro u (rfl | rfl | rfl) <;> simp [initValue, hne, hlo]

theorem innerReg_mm1_initial (hu : u = .hp1 ∨ u = .ls1)
    (h : innerReg (mm1Reg Mm1Bank.initial) (allDirty .mm1) sel = some v) : v = initValue u x sel := by
  rcases innerReg_eq_some h with ⟨rfl, rfl⟩ | ⟨hsel, hv⟩
  · rcases hu with rfl | rfl <;> rfl
  · rw [(initValue_inner hsel).1 u hu]
    exact mm1Reg_initial hv

theorem innerReg_mm2_initial (hu : u = .ls2 ∨ u = .ap2 ∨ u = .peak)
    (h : innerReg (mm2Reg Mm2Bank.initial) (allDirty .mm2) sel = some v) : v = initValue u x sel := by
  rcases innerReg_eq_some h with ⟨rfl, rfl⟩ | ⟨hsel, hv⟩
  · rcases hu with rfl | rfl | rfl <;> rfl
  · rw [(initValue_inner hsel).2 u hu]
    exact mm2Reg_initial hv

theorem onePoleReg_initial (h : onePoleReg OnePoleCoefs.initial sel = some v) : v = initValue .onepole x sel := by
  unfold onePoleReg at h
  split at h <;> cases h <;> rfl

theorem hp1Reg_initial (h : hp1Reg Hp1Coefs.initial sel = some v) : v = initValue .hp1 x sel := by
  unfold hp1Reg at h
  split at h <;> cases h <;> rfl

theorem ls1Reg_initial (h : ls1Reg Ls1Coefs.initial sel = some v) : v = initValue .ls1 x sel := by
  unfold ls1Reg at h
  split at h <;> cases h <;> rfl

theorem ls2Reg_initial (h : ls2Reg Ls2Coefs.initial sel = some v) : v = initValue .ls2 x sel := by
  unfold ls2Reg at h
  split at h <;> cases h <;> rfl

theorem ap2Reg_initial (h : ap2Reg Ap2Coefs.initial sel = some v) : v = initValue .ap2 x sel := by
  unfold ap2Reg at h
  split at h <;> cases h <;> rfl

theorem peakReg_initial (h : peakReg PeakCoefs.initial sel = some v) : v = initValue .peak x sel := by
  unfold peakReg at h
  split at h <;> cases h <;> rfl

theorem delayReg_initial (h : delayReg (DelayCoefs.initial x) sel = some v) : v = initValue .delay x sel := by
  unfold delayReg at h
  split at h <;> cases h <;> rfl

/-- REVERB's tables, from 0x60 on, are 0 at INIT. -/
theorem initValue_reverb_table (hlo : 0x60 ≤ sel.toNat) (hhi : sel.toNat < 0x9F) : initValue .reverb x sel = 0 := by
  have hne : ∀ k : BitVec 8, k.toNat < 0x60 ∨ 0x9F ≤ k.toNat → (sel = k) = False := by
    rintro k hk
    refine eq_false ?_
    rintro rfl
    omega
  simp [initValue, hne]

theorem line_initial (j : RevLine) : ReverbCoefs.initial.n.get j = 0 ∧ ReverbCoefs.initial.cap.get j = 0 ∧
    ReverbCoefs.initial.off.get j = 0 := by cases j <;> exact ⟨rfl, rfl, rfl⟩

theorem tap_initial (k : TapIx) : ReverbCoefs.initial.tapLK.get k = 0 ∧ ReverbCoefs.initial.tapRK.get k = 0 := by
  cases k <;> exact ⟨rfl, rfl⟩

theorem reverbReg_initial (h : reverbReg ReverbCoefs.initial sel = some v) : v = initValue .reverb x sel := by
  have table {α : Type} {o : Option α} {f : α → Word} (hlo : 0x60 ≤ sel.toNat) (hhi : sel.toNat < 0x9F)
      (hf : ∀ a, f a = 0) (h : o.map f = some v) : v = initValue .reverb x sel := by
    obtain ⟨a, -, rfl⟩ := Option.map_eq_some_iff.1 h
    rw [hf, initValue_reverb_table hlo hhi]
  unfold reverbReg at h
  split at h
  case h_24 =>
    dsimp only at h
    split_ifs at h with h1 h2 h3 h4 h5
    · exact table (by omega) (by omega) (fun j => (line_initial j).1) h
    · exact table (by omega) (by omega) (fun j => (line_initial j).2.1) h
    · exact table (by omega) (by omega) (fun j => (line_initial j).2.2) h
    · exact table (by omega) (by omega) (fun k => (tap_initial k).1) h
    · exact table (by omega) (by omega) (fun k => (tap_initial k).2) h
  all_goals cases h; rfl

theorem coefReg_initUnit (h : coefReg (initUnit u s) u sel = some v) : v = initValue u s.win.arg0 sel := by
  unfold coefReg at h
  rcases orReg_eq_some h with h | h
  · exact commonReg_initUnit h
  · rw [initUnit_coefs] at h
    cases u with
    | onepole => exact onePoleReg_initial h
    | mm1 => exact mm1Reg_initValue h
    | mm2 => exact mm2Reg_initValue h
    | hp1 => exact (orReg_eq_some h).elim hp1Reg_initial (innerReg_mm1_initial (.inl rfl))
    | ls1 => exact (orReg_eq_some h).elim ls1Reg_initial (innerReg_mm1_initial (.inr rfl))
    | ls2 => exact (orReg_eq_some h).elim ls2Reg_initial (innerReg_mm2_initial (.inl rfl))
    | ap2 => exact (orReg_eq_some h).elim ap2Reg_initial (innerReg_mm2_initial (.inr (.inl rfl)))
    | peak => exact (orReg_eq_some h).elim peakReg_initial (innerReg_mm2_initial (.inr (.inr rfl)))
    | delay => exact delayReg_initial h
    | reverb => exact reverbReg_initial h

/-! ### The channel registers -/

theorem binding_unbindAll_eq (s : State) (u : UnitId) (ch : Nat) :
    (s.unbindAll u).binding u ch = { bound := false, base := 0 } := by
  by_cases hc : ch < s.hw.nCh <;> cases u <;>
    simp [State.unbindAll, State.binding, List.getD_eq_getElem?_getD, hc]

/-- A channel whose flag and binding are clear reads 0 in its flag registers. -/
theorem flagReg_of_cleared {ch : Nat} (hv : t.stValid u ch = false)
    (hb : t.binding u ch = { bound := false, base := 0 }) (h : flagReg t u ch sel = some v) : v = 0 := by
  simp only [flagReg, hv, hb] at h
  split_ifs at h <;> cases h <;> rfl

theorem getD_replicate {α : Type} (n ch : Nat) (a : α) : (List.replicate n a).getD ch a = a := by
  by_cases hc : ch < n <;> simp [List.getD_eq_getElem?_getD, hc]

theorem reverbStateReg_zero (h : reverbStateReg {} sel = some v) : v = 0 := by
  unfold reverbStateReg at h
  split at h
  case h_4 =>
    split_ifs at h
    obtain ⟨j, -, rfl⟩ := Option.map_eq_some_iff.1 h
    cases j <;> rfl
  all_goals cases h; rfl

theorem stateReg_initUnit {ch : Nat} (h : stateReg (initUnit u s) u ch sel = some v) : v = 0 := by
  have hv : (initUnit u s).stValid u ch = false :=
    (stValid_congr (s := s.clearValid u) (by simp [initUnit]) u ch).trans (State.stValid_clearValid_self s u ch)
  unfold stateReg at h
  rcases orReg_eq_some h with h | h
  · exact flagReg_of_cleared hv (binding_unbindAll_eq _ u ch) h
  · have hchans : (initUnit u s).chans = zeroChans u s.hw.nCh s.chans := by simp [initUnit]
    rw [hchans] at h
    cases u <;> simp only [zeroChans, getD_replicate] at h
    case onepole | delay => split_ifs at h; cases h; rfl
    case mm1 | hp1 | ls1 => unfold mm1StateReg at h; split at h <;> cases h; rfl
    case mm2 | ls2 | ap2 | peak => unfold mm2StateReg at h; split at h <;> cases h <;> rfl
    case reverb => exact reverbStateReg_zero h

theorem exec_init (h : u = .delay → nonnegLegal s.win.arg0) : exec (initOf u) s = .next (initUnit u s) := by
  rw [exec_initOf, runCommand_ok]
  rw [cmdInit_run, if_pos]
  cases u <;> simp [okNonneg_iff, h]

/-- Settles O18: INIT's effect register by register, and its one check. -/
theorem initSetsDefaults : Obligations.InitSetsDefaults := by
  refine ⟨fun u s h => ?_, fun s h => ?_⟩
  · have hx := exec_init h
    refine ⟨_, hx, by simp [initUnit_regs, initRegs], fun _ _ => coefReg_initUnit, fun _ _ _ => stateReg_initUnit, ?_⟩
    exact (exec_commandFrame hx).onlyUnit (unit_initOf u) (by simp) (by simp)
  · have hrun : cmdInit .delay s = .error (.trap .paramRange s.win.arg0 0) s := by
      rw [cmdInit_run, if_neg]
      simpa [okNonneg_iff] using h
    exact runCommand_trap hrun

end Sys2Proof.Machine
end

-- ==== Proofs: SET_SR ====
section
/-! PROOFS. SET_SR of every unit (40_protocol.md R143): the rate and the one constant of the units without memory
(41_one_pole.md R203, 42_svf.md R243, 43_eq.md R281), the line of DELAY (44_delay.md R345) and the tables of REVERB
(45_reverb.md R375). -/

namespace Sys2Proof.Machine
open Sys2Proof.Config

variable {s t : State} {u w : UnitId} {sel : BitVec 8} {fs : F32}

/-! ### The checks -/

theorem exec_setSr (hl : isInited (s.regs.get u).life) (hr : rateLegal s.win.arg0)
    (hok : okUnitRate u s.win.arg0 s.coefs = true) : exec (setSrOf u) s = .next (setRate u s.win.arg0 s) := by
  rw [exec_setSrOf, runCommand_ok]
  rw [cmdSetSr_run, if_pos ((lifeInited_eq _).2 hl), if_pos ((okRate_iff _).2 hr), if_pos hok]

/-- A rate that is not legal, or that the unit does not take, faults PARAM_RANGE. -/
theorem exec_setSr_refused (hl : isInited (s.regs.get u).life)
    (h : rateLegal s.win.arg0 → okUnitRate u s.win.arg0 s.coefs = false) :
    exec (setSrOf u) s = .next (enterFault (encode (setSrOf u)) .paramRange s.win.arg0 0 s) := by
  rw [exec_setSrOf, runCommand_trap]
  rw [cmdSetSr_run, if_pos ((lifeInited_eq _).2 hl)]
  by_cases hr : rateLegal s.win.arg0
  · rw [if_pos ((okRate_iff _).2 hr), if_neg (by simp [h hr])]
  · rw [if_neg (mt (okRate_iff _).1 hr)]

/-! ### The registers -/

/-- The registers of a unit's own bank, by READ_COEF's select (R37 to R43). -/
def ownReg (c : Coefs) (u : UnitId) (sel : BitVec 8) : Option Word :=
  match u with
  | .onepole => onePoleReg c.onepole sel
  | .mm1 => mm1Reg c.mm1 sel
  | .mm2 => mm2Reg c.mm2 sel
  | .hp1 => orReg (hp1Reg c.hp1 sel) (innerReg (mm1Reg c.hp1.inner) c.hp1.innerDirty sel)
  | .ls1 => orReg (ls1Reg c.ls1 sel) (innerReg (mm1Reg c.ls1.inner) c.ls1.innerDirty sel)
  | .ls2 => orReg (ls2Reg c.ls2 sel) (innerReg (mm2Reg c.ls2.inner) c.ls2.innerDirty sel)
  | .ap2 => orReg (ap2Reg c.ap2 sel) (innerReg (mm2Reg c.ap2.inner) c.ap2.innerDirty sel)
  | .peak => orReg (peakReg c.peak sel) (innerReg (mm2Reg c.peak.inner) c.peak.innerDirty sel)
  | .delay => delayReg c.delay sel
  | .reverb => reverbReg c.reverb sel

theorem coefReg_eq (s : State) (u : UnitId) (sel : BitVec 8) :
    coefReg s u sel = orReg (commonReg s u sel) (ownReg s.coefs u sel) := by cases u <;> rfl

/-- SET_SR writes LIFE and FS of the common registers; MEMREQ is the arena's, where the unit has one. -/
theorem commonReg_setRate (hsel : sel = 0xF4#8 → hasMemory u = false) :
    commonReg (setRate u fs s) u sel =
      if sel = 0xF0#8 then some 2 else if sel = 0xF2#8 then some fs else commonReg s u sel := by
  have hregs : (setRate u fs s).regs.get u = { s.regs.get u with fs := fs, life := .srSet } := by simp
  simp only [commonReg, hregs]
  split
  case h_5 =>
    have hm := hsel rfl
    cases u <;> first | rfl | cases hm
  case h_6 h0 _ h2 _ _ => rw [if_neg h0, if_neg h2]
  all_goals rfl

theorem kExpOf_eq (fs : F32) : kExpOf fs = fDiv 0xC0C90FDB#32 fs := rfl

theorem kPiOf_eq (fs : F32) : kPiOf fs = fDiv 0x40490FDB#32 fs := rfl

/-- The select of the one constant a filter computes from the sample rate (R37, R38, R39, R41). -/
def rateSel : UnitId → BitVec 8
  | .onepole | .mm1 | .mm2 => 0x40#8
  | _ => 0xC0#8

/-- The one constant a filter computes from the sample rate (R203, R243, R281). -/
def rateConst : UnitId → F32 → F32
  | .onepole, fs => kExpOf fs
  | _, fs => kPiOf fs

theorem mm1Reg_setSr (b : Mm1Bank) :
    mm1Reg (mm1SetSr fs b) sel = if sel = 0x40#8 then some (kPiOf fs) else mm1Reg b sel := by
  unfold mm1Reg
  split <;> simp_all [mm1SetSr]

theorem mm2Reg_setSr (b : Mm2Bank) :
    mm2Reg (mm2SetSr fs b) sel = if sel = 0x40#8 then some (kPiOf fs) else mm2Reg b sel := by
  unfold mm2Reg
  split <;> simp_all [mm2SetSr]

theorem onePoleReg_setSr (c : OnePoleCoefs) :
    onePoleReg (onePoleSetSr fs c) sel = if sel = 0x40#8 then some (kExpOf fs) else onePoleReg c sel := by
  unfold onePoleReg
  split <;> simp_all [onePoleSetSr]

/-- The inner core's register at 0x40 is the derived unit's at 0xC0 (R41), where the unit has none of its own. -/
theorem innerReg_at_rate {own : Option Word} {bank bank' : BitVec 8 → Option Word} {k d : Word}
    (hown : sel = 0xC0#8 → own = none) (h : ∀ r, bank' r = if r = 0x40#8 then some k else bank r) :
    orReg own (innerReg bank' d sel) = if sel = 0xC0#8 then some k else orReg own (innerReg bank d sel) := by
  by_cases hsel : sel = 0xC0#8
  · rw [if_pos hsel, hown hsel, hsel]
    exact h 0x40#8
  · have hne : sel - 0x80#8 ≠ 0x40#8 := fun e => hsel (by rw [← BitVec.sub_add_cancel sel 0x80#8, e]; rfl)
    rw [if_neg hsel, innerReg, innerReg, h, if_neg hne]

theorem ownReg_setSrHook (hm : hasMemory u = false) (rt : RevTable) (c : Coefs) :
    ownReg (setSrHook rt u fs c) u sel = if sel = rateSel u then some (rateConst u fs) else ownReg c u sel := by
  cases u with
  | onepole => exact onePoleReg_setSr c.onepole
  | mm1 => exact mm1Reg_setSr c.mm1
  | mm2 => exact mm2Reg_setSr c.mm2
  | hp1 => exact innerReg_at_rate (by rintro rfl; rfl) fun _ => mm1Reg_setSr c.hp1.inner
  | ls1 => exact innerReg_at_rate (by rintro rfl; rfl) fun _ => mm1Reg_setSr c.ls1.inner
  | ls2 => exact innerReg_at_rate (by rintro rfl; rfl) fun _ => mm2Reg_setSr c.ls2.inner
  | ap2 => exact innerReg_at_rate (by rintro rfl; rfl) fun _ => mm2Reg_setSr c.ap2.inner
  | peak => exact innerReg_at_rate (by rintro rfl; rfl) fun _ => mm2Reg_setSr c.peak.inner
  | delay | reverb => cases hm

/-- Every register of a filter after SET_SR. -/
theorem coefReg_setRate (hm : hasMemory u = false) :
    coefReg (setRate u fs s) u sel =
      if sel = 0xF0#8 then some 2 else if sel = 0xF2#8 then some fs
      else if sel = rateSel u then some (rateConst u fs) else coefReg s u sel := by
  rw [coefReg_eq, coefReg_eq, commonReg_setRate fun _ => hm, setRate_coefs, ownReg_setSrHook hm]
  by_cases hsel : sel = rateSel u
  · have hcommon : commonReg s u sel = none := by
      rw [hsel]
      cases u <;> rfl
    rw [if_pos hsel, hcommon]
    split_ifs <;> rfl
  · rw [if_neg hsel]
    split_ifs <;> rfl

theorem onlyUnit_setRate (hx : exec (setSrOf u) s = .next (setRate u fs s)) : onlyUnit s (setRate u fs s) u :=
  (exec_commandFrame hx).onlyUnit (unit_setSrOf u) (by simp) (by simp)

theorem setRate_of_no_memory (hm : hasMemory u = false) (s : State) :
    (setRate u fs s).valid = s.valid ∧ (setRate u fs s).binds = s.binds := by
  cases u <;> first | exact ⟨rfl, rfl⟩ | cases hm

/-- SET_SR of a unit with memory unbinds its channels and clears their flags. -/
theorem setRate_cleared (hm : hasMemory u = true) (s : State) (ch : Nat) :
    (setRate u fs s).stValid u ch = false ∧ (setRate u fs s).binding u ch = { bound := false, base := 0 } := by
  rw [setRate, unbindForRate, if_pos hm]
  refine ⟨State.stValid_clearValid_self _ u ch, ?_⟩
  rw [binding_congr (State.clearValid_binds _ u), binding_unbindAll_eq]

/-- Settles O19: the constant is the unit's own at 0x40 or its inner core's at 0xC0. -/
theorem setSrOfFilters : Obligations.SetSrOfFilters := by
  intro u s hm hl
  have hok : okUnitRate u s.win.arg0 s.coefs = true := by cases u <;> first | rfl | cases hm
  refine ⟨fun hr => ?_, fun hr => exec_setSr_refused hl fun h => absurd h hr⟩
  have hx := exec_setSr hl hr hok
  obtain ⟨hvalid, hbinds⟩ := setRate_of_no_memory (fs := s.win.arg0) hm s
  refine ⟨_, hx, fun sel => ?_, fun ch sel => ?_, onlyUnit_setRate hx⟩
  · rw [coefReg_setRate hm]
    cases u with
    | delay | reverb => cases hm
    | _ =>
      simp only [rateSel, rateConst, kExpOf_eq, kPiOf_eq, reduceCtorEq, ne_eq, or_self, or_true, true_or,
        not_true_eq_false, not_false_eq_true, and_true, and_false, and_self, if_false]
      congr
  · exact congrFun (congrFun (stateReg_congr (by rw [hvalid]) (binding_congr hbinds u) (by simp)) ch) sel

/-! ### DELAY -/

theorem magnitude_roundTo_zero (neg : Bool) {den : Nat} (hd : 0 < den) : magnitude (roundTo neg 0 den) = 0 := by
  have h := magnitude_roundTo_le neg (m := 0) hd (by decide) (Nat.zero_le _)
  exact Nat.le_zero.1 h

/-- A product of finite values that are not negative is not negative. -/
theorem scaled_fMul_nonneg {a b : F32} (ha : isFinite a = true) (hb : isFinite b = true) (ha0 : 0 ≤ scaled a)
    (hb0 : 0 ≤ scaled b) : 0 ≤ scaled (fMul a b) := by
  rw [fMul_of_finite ha hb]
  rw [scaled_eq_signed] at ha0 hb0
  cases hs : signBit a != signBit b
  · rw [scaled_eq_signed, signBit_roundTo]
    exact Int.natCast_nonneg _
  · have hzero : magnitude a * magnitude b = 0 := by
      cases hsa : signBit a
      · cases hsb : signBit b
        · simp [hsa, hsb] at hs
        · rw [hsb, signed_true] at hb0
          rw [show magnitude b = 0 by omega, Nat.mul_zero]
      · rw [hsa, signed_true] at ha0
        rw [show magnitude a = 0 by omega, Nat.zero_mul]
    rw [hzero, scaled_eq_signed, magnitude_roundTo_zero _ (by decide), signBit_roundTo]
    rfl

theorem isNaN_fMul {a b : F32} (ha : isFinite a = true) (hb : isFinite b = true) : isNaN (fMul a b) = false := by
  rw [fMul_of_finite ha hb, isNaN_roundTo]

theorem fLe_delayMax_iff {x : F32} (hx : isNaN x = false) : fLe x delayMax = true ↔ scaled x ≤ 16777215 * 2 ^ 149 := by
  have hmax : scaled delayMax = 16777215 * 2 ^ 149 := by decide
  have hnan : isNaN delayMax = false := by decide
  rw [fLe_iff hx, hmax]
  simp [hnan]

theorem delayReg_setSr (c : DelayCoefs) (h : sel ≠ 0x40#8) : delayReg (delaySetSr fs c) sel = delayReg c sel := by
  unfold delayReg
  split <;> first | rfl | exact absurd rfl h

/-- The line SET_SR sizes (R345). -/
theorem toNat_len_delaySetSr (c : DelayCoefs) (h0 : 0 ≤ scaled (delaySpan fs c))
    (hle : scaled (delaySpan fs c) ≤ 16777215 * 2 ^ 149) :
    ((delaySetSr fs c).len.toNat : Int) = realCeil (delaySpan fs c) + 1 ∧
      (delaySetSr fs c).memReq.toNat = 4 * (delaySetSr fs c).len.toNat := by
  have hceil : realCeil (delaySpan fs c) ≤ 16777215 := realCeil_le hle
  have hceil0 : 0 ≤ realCeil (delaySpan fs c) := by
    unfold realCeil
    omega
  unfold delaySetSr
  simp only [BitVec.toNat_ofNat]
  omega

/-- Settles O20: the span of the line decides between its two outcomes. -/
theorem setSrOfDelay : Obligations.SetSrOfDelay := by
  refine ⟨fun s hl hr => exec_setSr_refused (u := .delay) hl fun h => absurd h hr, fun s hl hr hmax => ?_⟩
  obtain ⟨hfin, hrate⟩ := hr
  obtain ⟨hmfin, hm0⟩ := hmax
  have hspan := fLe_delayMax_iff (isNaN_fMul hfin hmfin)
  refine ⟨fun hle => ?_, fun hgt => ?_⟩
  · have hx := exec_setSr (u := .delay) hl ⟨hfin, hrate⟩ (hspan.2 hle)
    have hnonneg := scaled_fMul_nonneg hfin hmfin (hrate.trans' (by decide)) hm0
    obtain ⟨hlen, hreq⟩ := toNat_len_delaySetSr s.coefs.delay hnonneg hle
    refine ⟨_, hx, hlen, hreq, fun sel hsel hsel' => ?_, fun ch => ?_, onlyUnit_setRate hx⟩
    · rw [coefReg_eq, coefReg_eq, commonReg_setRate fun h => absurd h hsel', setRate_coefs]
      have hown : ownReg (setSrHook s.hw.revTable .delay s.win.arg0 s.coefs) .delay sel = ownReg s.coefs .delay sel :=
        delayReg_setSr s.coefs.delay hsel
      rw [hown]
      split_ifs <;> rfl
    · obtain ⟨hvalid, hbind⟩ := setRate_cleared (fs := s.win.arg0) (u := .delay) rfl s ch
      exact ⟨rfl, congrArg (some ∘ flagWord) hvalid, congrArg (some ∘ flagWord ∘ Binding.bound) hbind,
        congrArg (some ∘ Binding.base) hbind⟩
  · refine exec_setSr_refused (u := .delay) hl fun _ => ?_
    exact Bool.eq_false_iff.2 fun h => absurd (hspan.1 h) (by omega)

/-! ### REVERB -/

theorem finite_of_reverbRate (h : reverbRateLegal fs) : isFinite fs = true ∧ 0 ≤ scaled fs := by
  obtain ⟨hfin, hlo, -⟩ := h
  exact ⟨hfin, hlo.trans' (by decide)⟩

/-- The ratio to the reference rate: from 0 to 26. -/
theorem ratio_bounds (h : reverbRateLegal fs) : AtMost (fDiv fs hz29761) 26 ∧ 0 ≤ scaled (fDiv fs hz29761) := by
  obtain ⟨hfin, hlo, hhi⟩ := h
  have hrate : AtMost fs 768000 := ⟨hfin, by rw [magnitude_eq_natAbs]; omega⟩
  refine ⟨atMost_fDiv (y := 29761) hrate (by decide) (by decide) (by decide) (by decide) (by decide) (by decide), ?_⟩
  have hsign : signBit fs = false := by
    cases hs : signBit fs
    · rfl
    · rw [scaled_eq_signed, hs, signed_true] at hlo
      omega
  rw [fDiv_of_finite hfin (by decide) (by decide), scaled_eq_signed, signBit_roundTo, hsign]
  exact Int.natCast_nonneg _

/-- A scaled length keeps to 32 bits, so its register holds it. -/
theorem toNat_scaledLength {ratio : F32} (hr : AtMost ratio 26) {l : Nat} (hl : l ≤ 2 ^ 19) :
    ((BitVec.ofNat 32 (scaledLength ratio l)).toNat : Int) = max 1 (realRound (fMul (toF32 l) ratio)) := by
  have hprod : AtMost (fMul (toF32 l) ratio) (2 ^ 19 * 26) :=
    atMost_fMul (atMost_toF32 (by omega)) hr (by decide) (Nat.mul_le_mul_right _ hl)
  have := realRound_toNat_le hprod
  rw [BitVec.toNat_ofNat, scaledLength]
  omega

theorem realCeil_nonneg {x : F32} (h : 0 ≤ scaled x) : 0 ≤ realCeil x := by
  unfold realCeil
  omega

section
variable {rt : RevTable} (ht : tableLegal rt) (hfs : reverbRateLegal fs) (c : ReverbCoefs)
include ht hfs

theorem toNat_n_reverbSetSr {j : RevLine} (hj : j ≠ .pd) : (((reverbSetSr rt fs c).n.get j).toNat : Int) =
    max 1 (realRound (fMul (toF32 (rt.length.get j)) (fDiv fs hz29761))) := by
  obtain ⟨-, hlen, -⟩ := ht
  simp only [reverbSetSr, PerLine.get_of, revN, if_neg hj]
  exact toNat_scaledLength (ratio_bounds hfs).1 (hlen j)

theorem toNat_taps_reverbSetSr (k : TapIx) :
    (((reverbSetSr rt fs c).tapLK.get k).toNat : Int) =
        max 1 (realRound (fMul (toF32 (rt.tapL.get k).pos) (fDiv fs hz29761))) ∧
      (((reverbSetSr rt fs c).tapRK.get k).toNat : Int) =
        max 1 (realRound (fMul (toF32 (rt.tapR.get k).pos) (fDiv fs hz29761))) := by
  obtain ⟨-, hlen, -, -, htap⟩ := ht
  obtain ⟨hl, hr⟩ := htap k
  have hlenL := hlen (rt.tapL.get k).line
  have hlenR := hlen (rt.tapR.get k).line
  simp only [reverbSetSr, PerTap.get_of]
  exact ⟨toNat_scaledLength (ratio_bounds hfs).1 (hl.le.trans hlenL),
    toNat_scaledLength (ratio_bounds hfs).1 (hr.le.trans hlenR)⟩

theorem toNat_cap_reverbSetSr (j : RevLine) : ((reverbSetSr rt fs c).cap.get j).toNat =
    revCap rt fs (fDiv fs hz29761) (fMul f8 (fDiv fs hz29761)) j := by
  obtain ⟨-, hlen, -⟩ := ht
  have := (revCap_bounds hlen hfs j).2
  unfold revCapMax at this
  simp only [reverbSetSr, PerLine.get_of, BitVec.toNat_ofNat]
  omega

theorem cap_pd_reverbSetSr :
    (((reverbSetSr rt fs c).cap.get .pd).toNat : Int) = realCeil (fMul 0x3DCCCCCD#32 fs) + 1 := by
  obtain ⟨hfin, hnonneg⟩ := finite_of_reverbRate hfs
  have hceil : 0 ≤ realCeil (fMul f01 fs) := realCeil_nonneg (scaled_fMul_nonneg (by decide) hfin (by decide) hnonneg)
  rw [toNat_cap_reverbSetSr ht hfs, revCap, if_pos rfl]
  change ((realCeil (fMul f01 fs)).toNat + 1 : Nat) = realCeil (fMul f01 fs) + 1
  omega

theorem cap_reverbSetSr {j : RevLine} (hj : j ≠ .pd) : (((reverbSetSr rt fs c).cap.get j).toNat : Int) =
    ((reverbSetSr rt fs c).n.get j).toNat +
      if j = .dd1 ∨ j = .dd3 then realCeil (fMul f8 (fDiv fs hz29761)) + 1 else 0 := by
  obtain ⟨hratio, hnonneg⟩ := ratio_bounds hfs
  have hceil : 0 ≤ realCeil (fMul f8 (fDiv fs hz29761)) :=
    realCeil_nonneg (scaled_fMul_nonneg (by decide) hratio.finite (by decide) hnonneg)
  have hn : ((reverbSetSr rt fs c).n.get j).toNat = revN rt (fDiv fs hz29761) j := by
    have h := toNat_n_reverbSetSr ht hfs c hj
    rw [revN, if_neg hj, scaledLength]
    omega
  rw [toNat_cap_reverbSetSr ht hfs, hn, revCap, if_neg hj]
  split_ifs <;> omega

end

/-- Settles O21: the hook's registers hold what they are computed as, since none passes 32 bits. -/
theorem setSrOfReverb : Obligations.SetSrOfReverb := by
  intro s hl
  have hrange := fun hfin => okReverbRate_iff (fs := s.win.arg0) hfin s.coefs
  refine ⟨fun ht hr => ?_, fun hr => exec_setSr_refused (u := .reverb) hl fun h => ?_⟩
  · have hx := exec_setSr (u := .reverb) hl (rateLegal_of_reverb hr) ((hrange hr.1).2 hr)
    refine ⟨_, hx, rfl, rfl, rfl, rfl, rfl, fun j => toNat_n_reverbSetSr ht hr _, toNat_taps_reverbSetSr ht hr _,
      cap_pd_reverbSetSr ht hr _, fun j => cap_reverbSetSr ht hr _, ?_, rfl, setRate_cleared rfl s, rfl,
      onlyUnit_setRate hx⟩
    obtain ⟨-, hlen, -⟩ := ht
    exact reverbLayout_setSr hlen hr s.coefs.reverb
  · exact Bool.eq_false_iff.2 fun hok => hr ((hrange h.1).1 hok)

end Sys2Proof.Machine
end

-- ==== Proofs: the checks of a batched command ====
section
/-! PROOFS. The operand checks of PROCESS and PROCESS_MULTI (40_protocol.md R156, R157, 60_exceptions.md R432): each list
of addresses is checked in order, and the first that does not pass stops the command with nothing changed. -/

namespace Sys2Proof.Machine
open Sys2Proof.Config

variable {s t : State} {u : UnitId} {i : Instr} {ch : BitVec 6} {e : Engine Unit} {n : Nat} {before after : List Word}
  {b : Word}

/-! ### Lists of addresses (R85, R86) -/

theorem requireBuffers_append (h : ∀ c ∈ before, bufferLegal n c) (rest : List Word) (s : State) :
    requireBuffers (4 * n) (before ++ rest) s = requireBuffers (4 * n) rest s := by
  induction before with
  | nil => rfl
  | cons c before ih =>
    obtain ⟨hc, hbefore⟩ := List.forall_mem_cons.1 h
    obtain ⟨h4, hr⟩ := (bufferLegal_iff n c).1 hc
    rw [List.cons_append, requireBuffers, h4, hr, require_true, engine_bind_pure, require_true, engine_bind_pure]
    exact ih hbefore

theorem requireBuffers_cons (n : Nat) (b : Word) (bs : List Word) (s : State) :
    requireBuffers (4 * n) (b :: bs) s =
      if aligned4 b = true then
        if inRange b (4 * n) = true then requireBuffers (4 * n) bs s else .error (.trap .addrRange b 0) s
      else .error (.trap .misaligned b 0) s := by
  rw [requireBuffers, engine_check (require_run _ _ _ s), engine_check (require_run _ _ _ s)]

/-- A command that stops as its check of these addresses does, by the first address that does not pass. -/
theorem exec_first_illegal (hx : exec i s = runCommand i e s) (hbefore : ∀ c ∈ before, bufferLegal n c)
    (hstop : ∀ x, requireBuffers (4 * n) (before ++ b :: after) s = .error x s → e s = .error x s) :
    (b.toNat % 4 ≠ 0 → exec i s = .next (enterFault (encode i) .misaligned b 0 s)) ∧
    (b.toNat % 4 = 0 → 2 ^ 32 < b.toNat + 4 * n → exec i s = .next (enterFault (encode i) .addrRange b 0 s)) := by
  rw [hx]
  rw [requireBuffers_append hbefore, requireBuffers_cons] at hstop
  refine ⟨fun h4 => runCommand_trap (hstop _ ?_), fun h4 hr => runCommand_trap (hstop _ ?_)⟩
  · rw [if_neg (mt (aligned4_iff b).1 h4)]
  · rw [if_pos ((aligned4_iff b).2 h4), if_neg (mt (inRange_iff b _).1 (by omega))]

/-! ### PROCESS -/

theorem cmdProcess_stops (ha : admitted s u ch.toNat) {x : Stop}
    (h : requireBuffers (4 * processN u s.win) (inArgs u s.win ++ outArgs u s.win) s = .error x s) :
    cmdProcess u ch s = .error x s := by
  rw [cmdProcess, engine_bind_ok (admitChannel_pass u ch s ha), engine_bind_get]
  exact engine_bind_error h

/-! ### PROCESS_MULTI -/

/-- PROCESS_MULTI of a READY unit checks its count of channels, then the channels (R157). -/
theorem cmdProcessMulti_ready (hl : (s.regs.get u).life = .ready) :
    ∃ k : Unit → Engine Unit, cmdProcessMulti u s =
      if (multiM u s.win).toNat ≤ s.hw.nCh then (requireChannels u 0 (multiM u s.win).toNat >>= k) s
      else .error (.trap .operandRange (multiM u s.win) 0) s := by
  have hcount := require_run (decide ((multiM u s.win).toNat ≤ s.hw.nCh)) .operandRange (multiM u s.win) s
  simp only [decide_eq_true_eq] at hcount
  exact ⟨_, by
    rw [cmdProcessMulti, engine_check (requireLife_run u _ s), if_pos ((lifeReady_eq _).2 hl), engine_bind_get,
      engine_check hcount]⟩

/-- The channels before the first that does not pass are passed over. -/
theorem requireChannels_from {d c k : Nat} (hd : d ≤ c) (hc : c < d + k)
    (h : ∀ c', d ≤ c' → c' < c → admitted s u c') :
    requireChannels u d k s = requireChannels u c (d + k - c) s := by
  induction k generalizing d with
  | zero => omega
  | succ k ih =>
    rcases Nat.eq_or_lt_of_le hd with rfl | hlt
    · rw [Nat.add_sub_cancel_left]
    · obtain ⟨-, -, hbound, hvalid⟩ := h d (le_refl d) hlt
      rw [requireChannels, engine_check (requireBound_run u d s), if_pos hbound,
        engine_check (requireValid_run u d s), if_pos hvalid, ih (by omega) (by omega) fun c' h1 h2 => h c' (by omega) h2]
      congr 1
      omega

/-- PROCESS_MULTI stops at the first channel that is not bound or not valid. -/
theorem exec_first_channel {c : Nat} (hl : (s.regs.get u).life = .ready) (hm : (multiM u s.win).toNat ≤ s.hw.nCh)
    (hc : c < (multiM u s.win).toNat) (h : ∀ c', c' < c → admitted s u c') :
    (hasMemory u = true → (s.binding u c).bound = false → exec (processMultiOf u) s =
      .next (enterFault (encode (processMultiOf u)) .memUnbound (BitVec.ofNat 32 c) 0 s)) ∧
    ((hasMemory u = true → (s.binding u c).bound = true) → s.stValid u c = false → exec (processMultiOf u) s =
      .next (enterFault (encode (processMultiOf u)) .stateInvalid (BitVec.ofNat 32 c) 0 s)) := by
  obtain ⟨k, hrun⟩ := cmdProcessMulti_ready (s := s) hl
  have hfirst := requireChannels_from (s := s) (u := u) (Nat.zero_le c)
    (k := (multiM u s.win).toNat) (by omega) fun c' _ => h c'
  obtain ⟨j, hj⟩ : ∃ j, 0 + (multiM u s.win).toNat - c = j + 1 := ⟨(multiM u s.win).toNat - c - 1, by omega⟩
  rw [hj, requireChannels, engine_check (requireBound_run u c s), engine_check (requireValid_run u c s)] at hfirst
  rw [if_pos hm] at hrun
  rw [exec_processMultiOf]
  refine ⟨fun hmem hb => runCommand_trap (hrun.trans (engine_bind_error ?_)),
    fun hb hv => runCommand_trap (hrun.trans (engine_bind_error ?_))⟩
  · rw [hfirst, if_neg (by simp [hmem, hb])]
  · rw [hfirst, if_pos hb, if_neg (by simp [hv])]

theorem cmdProcessMulti_stops_at_tables (ha : multiAdmitted s u) {x : Stop}
    (h : requireBuffers (4 * (multiM u s.win).toNat) (inArgs u s.win ++ outArgs u s.win) s = .error x s) :
    cmdProcessMulti u s = .error x s := by
  obtain ⟨hlife, hm, hch⟩ := ha
  rw [cmdProcessMulti, engine_check (requireLife_run u _ s), if_pos ((lifeReady_eq _).2 hlife), engine_bind_get,
    engine_check (require_run _ _ _ s), if_pos (decide_eq_true hm),
    engine_bind_ok (requireChannels_pass fun d _ hd => hch d (by omega))]
  exact engine_bind_error h

theorem cmdProcessMulti_stops_at_pointers (ha : multiAdmitted s u)
    (hT : ∀ T ∈ inArgs u s.win ++ outArgs u s.win, bufferLegal (multiM u s.win).toNat T)
    (ho : ∀ a ∈ tableReads u s.win, ordinary s a 4) {x : Stop}
    (h : requireBuffers (4 * multiN u s.win) (tablePointers u s) s = .error x s) :
    cmdProcessMulti u s = .error x s := by
  rw [cmdProcessMulti_run ha hT, runAccesses_ordinary (accessFrom_ordinary.2 ho), multiRest, flatten_operandTables]
  exact engine_bind_error h

/-- Settles O47: each check in its turn, what comes before it having passed. -/
theorem batchedOperandChecks : Obligations.BatchedOperandChecks := by
  refine ⟨fun u s ch before after b ha hsplit hbefore => ?_, fun u s hl => ⟨fun hm => ?_, fun c hm hc h => ?_,
    fun before after T ha hsplit hbefore => ?_, fun before after b ha hT ho hsplit hbefore => ?_⟩⟩
  · refine exec_first_illegal (after := after) (exec_processOf u ch s) hbefore fun x hx => cmdProcess_stops ha ?_
    rwa [hsplit]
  · obtain ⟨k, hrun⟩ := cmdProcessMulti_ready (s := s) hl
    rw [exec_processMultiOf, runCommand_trap (hrun.trans (if_neg (by omega)))]
  · exact exec_first_channel hl hm hc h
  · refine exec_first_illegal (after := after) (exec_processMultiOf u s) hbefore fun x hx =>
      cmdProcessMulti_stops_at_tables ha ?_
    rwa [hsplit]
  · refine exec_first_illegal (after := after) (exec_processMultiOf u s) hbefore fun x hx =>
      cmdProcessMulti_stops_at_pointers ha hT ho ?_
    rwa [hsplit]

end Sys2Proof.Machine
end

-- ==== Proofs: a sample that is not finite ====
section
/-! PROOFS. PROCESS and PROCESS_MULTI stopped by a sample that is not finite (40_protocol.md R156, R157, 60_exceptions.md
R440). NONFINITE comes from nowhere but the test of a sample's input words, which runs before anything of the sample is
done; so the state is the one in which the samples before it have left the block. -/

namespace Sys2Proof.Machine
open Sys2Proof.Config

/-! ### Computations that never report NONFINITE -/

/-- The stop of a sample that is not finite. -/
def Stop.IsNonfinite (x : Stop) : Prop := ∃ a b, x = .trap .nonfinite a b

/-- However a computation stops, it is not for a sample that is not finite. -/
def Engine.NeverNonfinite {α : Type} (e : Engine α) : Prop := ∀ s x t, e s = .error x t → ¬x.IsNonfinite

theorem isNonfinite_trap {c : FaultCode} {a b : Word} : (Stop.trap c a b).IsNonfinite ↔ c = .nonfinite := by
  constructor
  · rintro ⟨a', b', h⟩
    exact (Stop.trap.inj h).1
  · rintro rfl
    exact ⟨a, b, rfl⟩

section
variable {α β : Type} {e : Engine α} {k : α → Engine β} {c : FaultCode}

theorem neverNonfinite_pure (a : α) : Engine.NeverNonfinite (pure a) := fun _ _ _ h => nomatch h

theorem neverNonfinite_get : Engine.NeverNonfinite (get : Engine State) := fun _ _ _ h => nomatch h

theorem neverNonfinite_modify (f : State → State) : Engine.NeverNonfinite (modify f : Engine Unit) :=
  fun _ _ _ h => nomatch h

theorem neverNonfinite_throw {x : Stop} (hx : ¬x.IsNonfinite) : Engine.NeverNonfinite (throw x : Engine α) := by
  rintro s y t ⟨⟩
  exact hx

theorem neverNonfinite_bind (he : Engine.NeverNonfinite e) (hk : ∀ a, Engine.NeverNonfinite (k a)) :
    Engine.NeverNonfinite (e >>= k) := by
  intro s x t h
  rcases engine_bind_eq_error h with h | ⟨a, s', -, h⟩
  · exact he s x t h
  · exact hk a s' x t h

theorem neverNonfinite_require (hc : c ≠ .nonfinite) (b : Bool) (i : Word) :
    Engine.NeverNonfinite (require b c i) := by
  cases b
  · exact neverNonfinite_throw (mt isNonfinite_trap.1 hc)
  · exact neverNonfinite_pure ()

end

/-! ### Checks -/

theorem neverNonfinite_requireBound (u : UnitId) (c : Nat) : Engine.NeverNonfinite (requireBound u c) :=
  neverNonfinite_bind neverNonfinite_get fun s => by
    split
    · exact neverNonfinite_require (by decide) _ _
    · exact neverNonfinite_pure ()

theorem neverNonfinite_requireValid (u : UnitId) (c : Nat) : Engine.NeverNonfinite (requireValid u c) :=
  neverNonfinite_bind neverNonfinite_get fun _ => neverNonfinite_require (by decide) _ _

theorem neverNonfinite_requireLife (u : UnitId) (ok : Life → Bool) : Engine.NeverNonfinite (requireLife u ok) :=
  neverNonfinite_bind neverNonfinite_get fun _ => neverNonfinite_require (by decide) _ _

theorem neverNonfinite_admission (u : UnitId) (ch : BitVec 6) : Engine.NeverNonfinite (admitChannel u ch) :=
  neverNonfinite_bind (neverNonfinite_bind neverNonfinite_get fun _ => neverNonfinite_require (by decide) _ _) fun _ =>
    neverNonfinite_bind (neverNonfinite_requireLife _ _) fun _ =>
      neverNonfinite_bind (neverNonfinite_requireBound _ _) fun _ => neverNonfinite_requireValid _ _

theorem neverNonfinite_requireChannels (u : UnitId) (c k : Nat) : Engine.NeverNonfinite (requireChannels u c k) := by
  induction k generalizing c with
  | zero => exact neverNonfinite_pure ()
  | succ k ih =>
    exact neverNonfinite_bind (neverNonfinite_requireBound u c) fun _ =>
      neverNonfinite_bind (neverNonfinite_requireValid u c) fun _ => ih (c + 1)

theorem neverNonfinite_requireBuffers (n : Nat) (bs : List Word) : Engine.NeverNonfinite (requireBuffers n bs) := by
  induction bs with
  | nil => exact neverNonfinite_pure ()
  | cons b bs ih =>
    exact neverNonfinite_bind (neverNonfinite_require (by decide) _ _) fun _ =>
      neverNonfinite_bind (neverNonfinite_require (by decide) _ _) fun _ => ih

/-! ### Accesses and hooks -/

theorem neverNonfinite_busCheck (a : Nat) : Engine.NeverNonfinite (busCheck a) := by
  refine neverNonfinite_bind neverNonfinite_get fun s => ?_
  split
  · exact neverNonfinite_throw fun ⟨_, _, h⟩ => nomatch h
  · split
    · exact neverNonfinite_throw (mt isNonfinite_trap.1 (by decide))
    · exact neverNonfinite_throw fun ⟨_, _, h⟩ => nomatch h
    · exact neverNonfinite_pure ()

theorem neverNonfinite_memRead (a : Nat) : Engine.NeverNonfinite (memRead a) :=
  neverNonfinite_bind (neverNonfinite_busCheck a) fun _ =>
    neverNonfinite_bind neverNonfinite_get fun _ => neverNonfinite_pure _

theorem neverNonfinite_memWrite (a : Nat) (x : Word) : Engine.NeverNonfinite (memWrite a x) :=
  neverNonfinite_bind (neverNonfinite_busCheck a) fun _ => neverNonfinite_modify _

theorem neverNonfinite_dlRead (l : LineRef) (d : Nat) (f : F32) : Engine.NeverNonfinite (dlRead l d f) :=
  neverNonfinite_bind neverNonfinite_get fun _ => neverNonfinite_bind (neverNonfinite_memRead _) fun _ => by
    split
    · exact neverNonfinite_pure _
    · exact neverNonfinite_bind (neverNonfinite_memRead _) fun _ => neverNonfinite_pure _

theorem neverNonfinite_dlWrite (l : LineRef) (x : F32) : Engine.NeverNonfinite (dlWrite l x) :=
  neverNonfinite_bind neverNonfinite_get fun _ => neverNonfinite_bind (neverNonfinite_memWrite _ x) fun _ =>
    neverNonfinite_modify _

theorem neverNonfinite_allpassAt (l : LineRef) (d : Nat) (f u g : F32) : Engine.NeverNonfinite (allpassAt l d f u g) :=
  neverNonfinite_bind (neverNonfinite_dlRead l d f) fun _ =>
    neverNonfinite_bind (neverNonfinite_dlWrite l _) fun _ => neverNonfinite_pure _

theorem neverNonfinite_ap (ch : Nat) (j : RevLine) (u g : F32) : Engine.NeverNonfinite (ap ch j u g) :=
  neverNonfinite_bind neverNonfinite_get fun _ => neverNonfinite_allpassAt _ _ _ u g

theorem neverNonfinite_dly (ch : Nat) (j : RevLine) (u : F32) : Engine.NeverNonfinite (dly ch j u) :=
  neverNonfinite_bind neverNonfinite_get fun _ => neverNonfinite_bind (neverNonfinite_dlRead _ _ _) fun _ =>
    neverNonfinite_bind (neverNonfinite_dlWrite _ u) fun _ => neverNonfinite_pure _

theorem neverNonfinite_readTaps (ch : Nat) (tap : PerTap RevTap) (k : PerTap Word) (ts : List TapIx) :
    Engine.NeverNonfinite (readTaps ch tap k ts) := by
  induction ts with
  | nil => exact neverNonfinite_pure []
  | cons x ts ih =>
    exact neverNonfinite_bind (neverNonfinite_dlRead _ _ _) fun _ =>
      neverNonfinite_bind ih fun _ => neverNonfinite_pure _

theorem neverNonfinite_taps (ch : Nat) : Engine.NeverNonfinite (taps ch) :=
  neverNonfinite_bind neverNonfinite_get fun _ => neverNonfinite_bind (neverNonfinite_readTaps _ _ _ _) fun _ =>
    neverNonfinite_bind (neverNonfinite_readTaps _ _ _ _) fun _ => neverNonfinite_pure _

theorem neverNonfinite_tankHalf (ch : Nat) (j1 j2 j3 j4 : RevLine) (u : F32) (di : Word) (df : F32)
    (yp : ReverbState → F32) (put : F32 → ReverbState → ReverbState) :
    Engine.NeverNonfinite (tankHalf ch j1 j2 j3 j4 u di df yp put) :=
  neverNonfinite_bind neverNonfinite_get fun _ => neverNonfinite_bind (neverNonfinite_allpassAt _ _ _ _ _) fun _ =>
    neverNonfinite_bind (neverNonfinite_dly _ _ _) fun _ => neverNonfinite_bind neverNonfinite_get fun _ =>
      neverNonfinite_bind (neverNonfinite_modify _) fun _ =>
        neverNonfinite_bind (neverNonfinite_ap _ _ _ _) fun _ => neverNonfinite_dlWrite _ _

theorem neverNonfinite_reverbStep (ch : Nat) (xl xr : F32) : Engine.NeverNonfinite (reverbStep ch xl xr) := by
  refine neverNonfinite_bind (neverNonfinite_taps ch) fun y => neverNonfinite_bind neverNonfinite_get fun s => ?_
  refine neverNonfinite_bind (neverNonfinite_dlRead _ _ _) fun l4 => ?_
  refine neverNonfinite_bind (neverNonfinite_dlRead _ _ _) fun r4 => ?_
  refine neverNonfinite_bind (neverNonfinite_dlWrite _ _) fun _ => ?_
  refine neverNonfinite_bind (neverNonfinite_dlRead _ _ _) fun p => neverNonfinite_bind neverNonfinite_get fun s' => ?_
  refine neverNonfinite_bind (neverNonfinite_modify _) fun _ => ?_
  refine neverNonfinite_bind (neverNonfinite_ap _ _ _ _) fun _ => neverNonfinite_bind (neverNonfinite_ap _ _ _ _) fun _ => ?_
  refine neverNonfinite_bind (neverNonfinite_ap _ _ _ _) fun _ => neverNonfinite_bind (neverNonfinite_ap _ _ _ _) fun _ => ?_
  refine neverNonfinite_bind (neverNonfinite_tankHalf _ _ _ _ _ _ _ _ _ _) fun _ => ?_
  refine neverNonfinite_bind (neverNonfinite_tankHalf _ _ _ _ _ _ _ _ _ _) fun _ => ?_
  exact neverNonfinite_pure [y.1, y.2]

theorem neverNonfinite_delayStep (ch : Nat) (x : F32) : Engine.NeverNonfinite (delayStep ch x) :=
  neverNonfinite_bind (neverNonfinite_dlWrite _ x) fun _ => neverNonfinite_bind neverNonfinite_get fun _ =>
    neverNonfinite_bind (neverNonfinite_dlRead _ _ _) fun y => neverNonfinite_pure [y]

theorem neverNonfinite_process1Hook (u : UnitId) (ch : Nat) (xs : List F32) :
    Engine.NeverNonfinite (process1Hook u ch xs) := by
  refine neverNonfinite_bind neverNonfinite_get fun s => ?_
  cases u with
  | delay => exact neverNonfinite_delayStep ch _
  | reverb => exact neverNonfinite_reverbStep ch _ _
  | _ => exact neverNonfinite_bind (neverNonfinite_modify _) fun _ => neverNonfinite_pure [_]

theorem neverNonfinite_loadSamples (i : Nat) (bs : List Word) : Engine.NeverNonfinite (loadSamples i bs) := by
  induction bs with
  | nil => exact neverNonfinite_pure []
  | cons b bs ih =>
    exact neverNonfinite_bind (neverNonfinite_memRead _) fun _ =>
      neverNonfinite_bind ih fun _ => neverNonfinite_pure _

theorem neverNonfinite_storeSamples (i : Nat) (bs : List Word) (ys : List F32) :
    Engine.NeverNonfinite (storeSamples i bs ys) := by
  induction bs generalizing ys with
  | nil => exact neverNonfinite_pure ()
  | cons b bs ih =>
    cases ys with
    | nil => exact neverNonfinite_pure ()
    | cons y ys => exact neverNonfinite_bind (neverNonfinite_memWrite _ y) fun _ => ih ys

theorem neverNonfinite_loadChannels (pin : List (List Word)) (i c k : Nat) :
    Engine.NeverNonfinite (loadChannels pin i c k) := by
  induction k generalizing c with
  | zero => exact neverNonfinite_pure []
  | succ k ih =>
    exact neverNonfinite_bind (neverNonfinite_loadSamples i _) fun _ =>
      neverNonfinite_bind (ih (c + 1)) fun _ => neverNonfinite_pure _

theorem neverNonfinite_processChannels (u : UnitId) (pout : List (List Word)) (i c : Nat) (xss : List (List F32)) :
    Engine.NeverNonfinite (processChannels u pout i c xss) := by
  induction xss generalizing c with
  | nil => exact neverNonfinite_pure ()
  | cons xs xss ih =>
    exact neverNonfinite_bind (neverNonfinite_process1Hook u c xs) fun ys =>
      neverNonfinite_bind (neverNonfinite_storeSamples i _ ys) fun _ => ih (c + 1)

/-! ### The checks of a batched command -/

section
variable {s t : State} {u : UnitId} {ch : BitVec 6} {n : Nat} {bs : List Word}

/-- A list of buffers is legal, or it stops the command with nothing changed. -/
theorem requireBuffers_cases (n : Nat) (bs : List Word) (s : State) :
    (∀ b ∈ bs, bufferLegal n b) ∨
    ∃ x, requireBuffers (4 * n) bs s = .error x s ∧ ¬x.IsNonfinite := by
  rcases requireBuffers_state (4 * n) bs s with h | ⟨x, h⟩
  · have hlegal := answers_requireBuffers n bs s
    rw [h] at hlegal
    cases hlegal with
    | ok h => exact .inl h.2
  · exact .inr ⟨x, h, neverNonfinite_requireBuffers _ _ _ _ _ h⟩

/-- PROCESS stops at a check with nothing changed, or its channel and its buffers pass. -/
theorem cmdProcess_cases (u : UnitId) (ch : BitVec 6) (s : State) :
    (admitted s u ch.toNat ∧ ∀ b ∈ inArgs u s.win ++ outArgs u s.win, bufferLegal (processN u s.win) b) ∨
    ∃ x, cmdProcess u ch s = .error x s ∧ ¬x.IsNonfinite := by
  rcases admitChannel_cases (u := u) (ch := ch) (s := s) with ⟨-, ha⟩ | ⟨c, a, hstop⟩
  · rcases requireBuffers_cases (processN u s.win) (inArgs u s.win ++ outArgs u s.win) s with hb | ⟨x, hstop, hx⟩
    · exact .inl ⟨ha, hb⟩
    · exact .inr ⟨x, cmdProcess_stops ha hstop, hx⟩
  · exact .inr ⟨_, engine_bind_error hstop, neverNonfinite_admission u ch _ _ _ hstop⟩

/-- Accesses from one state are all answered, or the first that is not ends them in that state. -/
theorem accessFrom_cases (rs : List Region) (s : State) (as : List Nat) :
    (∀ a ∈ as, regionAt rs a 4 = none) ∨ ∃ x : Stop, ¬x.IsNonfinite ∧
      ∀ {α : Type} (r : EStateM.Result Stop State α), runAccesses rs (accessFrom s as) r = .error x s := by
  induction as with
  | nil => exact .inl fun _ h => nomatch h
  | cons a as ih =>
    cases hr : regionAt rs a 4 with
    | none =>
      refine ih.imp (fun h => List.forall_mem_cons.2 ⟨hr, h⟩) fun ⟨x, hx, h⟩ => ⟨x, hx, fun r => ?_⟩
      exact (runAccesses_cons_ordinary hr r).trans (h r)
    | some kind =>
      cases kind
      · exact .inr ⟨_, mt isNonfinite_trap.1 (by decide), fun r => runAccesses_cons_busError hr r⟩
      · exact .inr ⟨_, (fun ⟨_, _, h⟩ => nomatch h), fun r => runAccesses_cons_sideEffect hr r⟩

/-- What PROCESS_MULTI asks before its first sample: its channels are admitted, its tables pass and are read, and the
pointers in them pass (R157). -/
structure MultiPasses (u : UnitId) (s : State) : Prop where
  admitted : multiAdmitted s u
  tables : ∀ T ∈ inArgs u s.win ++ outArgs u s.win, bufferLegal (multiM u s.win).toNat T
  reads : ∀ a ∈ tableReads u s.win, ordinary s a 4
  pointers : ∀ b ∈ tablePointers u s, bufferLegal (multiN u s.win) b

/-- PROCESS_MULTI whose checks pass runs the control-rate step, then its samples. -/
theorem MultiPasses.run (h : MultiPasses u s) : cmdProcessMulti u s =
    forSamples (multiSample u (multiM u s.win).toNat (operandTables u s (inArgs u s.win))
      (operandTables u s (outArgs u s.win))) 0 (multiN u s.win) (updateCtrl u s) := by
  rw [cmdProcessMulti_run h.admitted h.tables, runAccesses_ordinary (accessFrom_ordinary.2 h.reads)]
  exact multiRest_run (le_refl _) (by rw [flatten_operandTables]; exact h.pointers) s

/-- The channels of a PROCESS_MULTI are admitted, or one of them stops it with nothing changed. -/
theorem multiAdmitted_or_stops (u : UnitId) (s : State) : multiAdmitted s u ∨
    ∃ x, cmdProcessMulti u s = .error x s ∧ ¬x.IsNonfinite := by
  by_cases hl : (s.regs.get u).life = .ready
  · obtain ⟨k, hrun⟩ := cmdProcessMulti_ready (s := s) hl
    by_cases hm : (multiM u s.win).toNat ≤ s.hw.nCh
    · rw [if_pos hm] at hrun
      have hch := answers_requireChannels u 0 (multiM u s.win).toNat s
      generalize hr : requireChannels u 0 (multiM u s.win).toNat s = r at hch
      cases hch with
      | ok h => exact .inl ⟨hl, hm, fun c hc => ⟨hl, by omega, h.2 c (Nat.zero_le c) (by omega)⟩⟩
      | trap x a b t =>
        have hsame : t = s := keeps_error (requireChannels_same u 0 _) hr
        rw [hsame] at hr
        exact .inr ⟨_, hrun.trans (engine_bind_error hr), neverNonfinite_requireChannels _ _ _ _ _ _ hr⟩
    · exact .inr ⟨_, hrun.trans (if_neg hm), mt isNonfinite_trap.1 (by decide)⟩
  · have hstop : cmdProcessMulti u s = .error (.trap .lifecycle (lifeCode (s.regs.get u).life) 0) s := by
      rw [cmdProcessMulti, engine_check (requireLife_run u _ s), if_neg (mt (lifeReady_eq _).1 hl)]
    exact .inr ⟨_, hstop, mt isNonfinite_trap.1 (by decide)⟩

/-- PROCESS_MULTI stops at a check with nothing changed, or everything it asks holds. -/
theorem cmdProcessMulti_cases (u : UnitId) (s : State) : MultiPasses u s ∨
    ∃ x, cmdProcessMulti u s = .error x s ∧ ¬x.IsNonfinite := by
  rcases multiAdmitted_or_stops u s with ha | hstop
  · rcases requireBuffers_cases (multiM u s.win).toNat (inArgs u s.win ++ outArgs u s.win) s with hT | ⟨x, hstop, hx⟩
    · rcases accessFrom_cases s.hw.regions s (tableReads u s.win) with ho | ⟨x, hx, hstop⟩
      · rcases requireBuffers_cases (multiN u s.win) (tablePointers u s) s with hp | ⟨x, hstop, hx⟩
        · exact .inl ⟨ha, hT, ho, hp⟩
        · exact .inr ⟨x, cmdProcessMulti_stops_at_pointers ha hT ho hstop, hx⟩
      · exact .inr ⟨x, (cmdProcessMulti_run ha hT).trans (hstop _), hx⟩
    · exact .inr ⟨x, cmdProcessMulti_stops_at_tables ha hstop, hx⟩
  · exact .inr hstop

end

/-! ### The sample that stops the loop -/

section
variable {s t r : State} {u : UnitId} {ch : BitVec 6} {i n : Nat} {a b : Word} {c : FaultCode}

theorem ignoresWindow_win {α : Type} {e : Engine α} (he : Engine.IgnoresWindow e) {x : α} (h : e s = .ok x t) :
    t.win = s.win := by
  obtain ⟨-, hsame⟩ := EStateM.Result.ok.inj (h.symm.trans (ignoresWindow_ok he h s.win))
  rw [hsame]

/-- A loop over samples that a fault stops has done the samples before the one it stops in. -/
theorem forSamples_eq_trap {body : Nat → Engine Unit} {i k : Nat} (h : forSamples body i k s = .error (.trap c a b) r) :
    ∃ j t b', j < k ∧ forSamples body i j s = .ok () t ∧ body (i + j) t = .error (.trap c a b') r ∧
      b = BitVec.ofNat 32 (i + j) := by
  induction k generalizing i s with
  | zero => cases h
  | succ k ih =>
    rcases engine_bind_eq_error h with hfirst | ⟨_, s', hfirst, hrest⟩
    · unfold atSample at hfirst
      split at hfirst
      next hbody =>
        cases hfirst
        exact ⟨0, s, _, by omega, rfl, hbody, rfl⟩
      next hne => exact absurd hfirst (hne c a b r)
    · obtain ⟨j, t, b', hj, hdone, hbody, hb⟩ := ih hrest
      rw [Nat.add_right_comm, Nat.add_assoc] at hbody hb
      exact ⟨j + 1, t, b', by omega, (engine_bind_ok hfirst).trans hdone, hbody, hb⟩

/-- A sample that loads its input words, tests them and then does the rest: where the test stops it, nothing is done. -/
theorem nonfinite_before_effect {α : Type} {load : Engine α} {vals : α → List F32} {rest : α → Engine Unit}
    (hsame : Engine.Keeps Same load) (hload : Engine.NeverNonfinite load) (hrest : ∀ x, Engine.NeverNonfinite (rest x))
    (h : (load >>= fun x => requireFinite (vals x) >>= fun _ => rest x) t = .error (.trap .nonfinite a b) r) : r = t := by
  rcases engine_bind_eq_error h with hl | ⟨x, t1, hl, h⟩
  · exact absurd (isNonfinite_trap.2 rfl) (hload _ _ _ hl)
  · have ht1 : t1 = t := keeps_ok hsame hl
    rcases engine_bind_eq_error h with htest | ⟨_, t2, -, h⟩
    · exact (keeps_error (keeps_requireFinite same_refl _) htest).trans ht1
    · exact absurd (isNonfinite_trap.2 rfl) (hrest _ _ _ _ h)

theorem processSample_nonfinite {c : Nat} {ins outs : List Word}
    (h : processSample u c ins outs i t = .error (.trap .nonfinite a b) r) : r = t :=
  nonfinite_before_effect (loadSamples_same i ins) (neverNonfinite_loadSamples i ins)
    (fun xs => neverNonfinite_bind (neverNonfinite_modify _) fun _ =>
      neverNonfinite_bind (neverNonfinite_process1Hook u c xs) fun _ => neverNonfinite_storeSamples i outs _) h

theorem multiSample_nonfinite {m : Nat} {pin pout : List (List Word)}
    (h : multiSample u m pin pout i t = .error (.trap .nonfinite a b) r) : r = t :=
  nonfinite_before_effect (loadChannels_same pin i 0 m) (neverNonfinite_loadChannels pin i 0 m)
    (fun xss => neverNonfinite_bind (neverNonfinite_modify _) fun _ => neverNonfinite_processChannels u pout i 0 xss) h

theorem statusOf_injective {c c' : FaultCode} (h : statusOf c = statusOf c') : c = c' := by
  cases c <;> cases c' <;> first | rfl | exact absurd h (by decide)

/-- A batched command that ends NONFINITE: its checks `P` passed, and its loop stopped in some sample `j` in the state the
samples before it leave, whatever the window they start from. -/
theorem nonfinite_sample {cmd : Instr} {e : Engine Unit} {P : Prop} {body : Nat → Engine Unit}
    (hcases : P ∨ ∃ x, e s = .error x s ∧ ¬x.IsNonfinite) (hrun : P → e s = forSamples body 0 n (updateCtrl u s))
    (hbody : ∀ j, Engine.IgnoresWindow (body j))
    (hprecise : ∀ i t a b r, body i t = .error (.trap .nonfinite a b) r → r = t)
    (hclear : statusFault s.win.status = false) (hx : runCommand cmd e s = .next t)
    (hst : t.win.status = statusOf .nonfinite) :
    P ∧ ∃ j a r, j < n ∧ t = enterFault (encode cmd) .nonfinite a (BitVec.ofNat 32 j) r ∧ r.win = s.win ∧
      ∀ w, forSamples body 0 j (updateCtrl u { s with win := w }) = .ok () { r with win := w } := by
  rcases runCommand_next hx with hok | ⟨c, a, b, r, herr, rfl⟩
  · rcases hcases with hP | ⟨x, hstop, -⟩
    · have hwin := ignoresWindow_win (ignoresWindow_forSamples hbody 0 n) ((hrun hP).symm.trans hok)
      rw [hwin] at hst
      exact absurd ((statusFault_statusOf .nonfinite).symm.trans ((congrArg statusFault hst).symm.trans hclear)) (by decide)
    · exact nomatch hstop.symm.trans hok
  · obtain rfl := statusOf_injective hst
    rcases hcases with hP | ⟨x, hstop, hx⟩
    · obtain ⟨j, t, b', hj, hdone, hstop, rfl⟩ := forSamples_eq_trap ((hrun hP).symm.trans herr)
      obtain rfl := hprecise _ _ _ _ _ hstop
      have hloop := ignoresWindow_forSamples hbody 0 j
      have hwin : r.win = (updateCtrl u s).win := ignoresWindow_win hloop hdone
      exact ⟨hP, j, a, r, hj, by rw [Nat.zero_add], hwin, ignoresWindow_ok hloop hdone⟩
    · obtain rfl : x = _ := (EStateM.Result.error.inj (hstop.symm.trans herr)).1
      exact absurd (isNonfinite_trap.2 rfl) hx

theorem statusFault_withCount (u : UnitId) (w : Window) (n : Word) :
    statusFault (withCount u w n).status = statusFault w.status := by cases u <;> rfl

theorem statusFault_withMultiCount (u : UnitId) (w : Window) (n : Word) :
    statusFault (withMultiCount u w n).status = statusFault w.status := by cases u <;> rfl

/-- PROCESS of fewer samples, from the state in which the longer one passes its checks. -/
theorem cmdProcess_shorter {j : Nat} (ha : admitted s u ch.toNat)
    (hb : ∀ b ∈ inArgs u s.win ++ outArgs u s.win, bufferLegal (processN u s.win) b) (hj : j < processN u s.win) :
    cmdProcess u ch { s with win := withCount u s.win (BitVec.ofNat 32 j) } =
      forSamples (processSample u ch.toNat (inArgs u s.win) (outArgs u s.win)) 0 j
        (updateCtrl u { s with win := withCount u s.win (BitVec.ofNat 32 j) }) := by
  have hcount : (BitVec.ofNat 32 j).toNat = j := Nat.mod_eq_of_lt (hj.trans (processN_lt u s.win))
  have hrun := cmdProcess_run (s := { s with win := withCount u s.win (BitVec.ofNat 32 j) }) (u := u) (ch := ch) ha
  simp only [inArgs_withCount, outArgs_withCount, processN_withCount, hcount] at hrun
  exact hrun fun b hb' => bufferLegal_mono hj.le (hb b hb')

/-- PROCESS_MULTI of fewer samples, from the state in which the longer one passes its checks. -/
theorem MultiPasses.run_shorter {j : Nat} (h : MultiPasses u s) (hj : j < multiN u s.win) :
    cmdProcessMulti u { s with win := withMultiCount u s.win (BitVec.ofNat 32 j) } =
      forSamples (multiSample u (multiM u s.win).toNat (operandTables u s (inArgs u s.win))
        (operandTables u s (outArgs u s.win))) 0 j
        (updateCtrl u { s with win := withMultiCount u s.win (BitVec.ofNat 32 j) }) := by
  have hcount : (BitVec.ofNat 32 j).toNat = j := Nat.mod_eq_of_lt (hj.trans (multiN_lt u s.win))
  have hshort : MultiPasses u { s with win := withMultiCount u s.win (BitVec.ofNat 32 j) } := by
    obtain ⟨⟨hlife, hm, hch⟩, htables, hreads, hpointers⟩ := h
    refine ⟨⟨hlife, ?_, ?_⟩, ?_, ?_, ?_⟩
    · rwa [multiM_withMultiCount]
    · rwa [multiM_withMultiCount]
    · rwa [inArgs_withMultiCount, outArgs_withMultiCount, multiM_withMultiCount]
    · simp only [tableReads, inArgs_withMultiCount, outArgs_withMultiCount, multiM_withMultiCount]
      exact hreads
    · simp only [tablePointers, inArgs_withMultiCount, outArgs_withMultiCount, multiM_withMultiCount,
        multiN_withMultiCount, hcount]
      exact fun b hb => bufferLegal_mono hj.le (hpointers b hb)
  have hrun := hshort.run
  simpa only [inArgs_withMultiCount, outArgs_withMultiCount, multiM_withMultiCount, multiN_withMultiCount, hcount,
    operandTables_withMultiCount] using hrun

/-- Settles O46: the loop stops in the state the samples before leave, which a command of only those samples reaches. -/
theorem nonfiniteSampleIsPrecise : Obligations.NonfiniteSampleIsPrecise := by
  refine ⟨fun u s t ch hclear hx hst => ?_, fun u s t hclear hx hst => ?_⟩
  · rw [exec_processOf] at hx
    obtain ⟨⟨ha, hb⟩, j, a, r, hj, rfl, hwin, hdone⟩ := nonfinite_sample (cmdProcess_cases u ch s)
      (fun ⟨ha, hb⟩ => cmdProcess_run ha hb) (ignoresWindow_processSample u ch.toNat _ _)
      (fun _ _ _ _ _ => processSample_nonfinite) hclear hx hst
    refine ⟨{ r with win := withCount u s.win (BitVec.ofNat 32 j) }, ?_,
      (statusFault_withCount u s.win _).trans hclear, rfl, rfl⟩
    exact (exec_processOf u ch _).trans (runCommand_ok ((cmdProcess_shorter ha hb hj).trans (hdone _)))
  · rw [exec_processMultiOf] at hx
    obtain ⟨hp, j, a, r, hj, rfl, hwin, hdone⟩ := nonfinite_sample (cmdProcessMulti_cases u s)
      (fun h => h.run) (ignoresWindow_multiSample u _ _ _)
      (fun _ _ _ _ _ => multiSample_nonfinite) hclear hx hst
    refine ⟨{ r with win := withMultiCount u s.win (BitVec.ofNat 32 j) }, ?_,
      (statusFault_withMultiCount u s.win _).trans hclear, rfl, rfl⟩
    exact (exec_processMultiOf u _).trans (runCommand_ok ((hp.run_shorter hj).trans (hdone _)))

end

end Sys2Proof.Machine
end

-- ==== Proofs: what a batched command writes ====
section
/-! PROOFS. The bytes a batched command can change (40_protocol.md R156, R157): the words of its output buffers and the
arenas of its channels (20_memory.md R92), whether it runs to its end or stops part-way. -/

namespace Sys2Proof.Machine
open Sys2Proof.Config

/-! ### The state a computation ends in -/

/-- The state a computation's answer leaves, a value or a stop. -/
def endState {α : Type} : EStateM.Result Stop State α → State
  | .ok _ t => t
  | .error _ t => t

section
variable {α : Type} {s t : State} {u : UnitId} {ch a : Nat}

theorem keeps_iff {R : State → State → Prop} {e : Engine α} : Engine.Keeps R e ↔ ∀ s, R s (endState (e s)) := by
  refine forall_congr' fun s => ?_
  cases e s <;> rfl

/-- A fault's entry leaves data memory as the command left it. -/
theorem runCommand_mem {i : Instr} {e : Engine Unit} (h : runCommand i e s = .next t) :
    t.mem = (endState (e s)).mem := by
  rcases runCommand_next h with hok | ⟨c, a, b, r, herr, rfl⟩
  · rw [hok]
    rfl
  · rw [herr]
    rfl

/-- Accesses end where they all lead, or in the state before one of them. -/
theorem endState_runAccesses {P : State → Prop} (rs : List Region) {accs : List (Nat × State)}
    {r : EStateM.Result Stop State α} (haccs : ∀ p ∈ accs, P p.2) (hr : P (endState r)) :
    P (endState (runAccesses rs accs r)) := by
  induction accs with
  | nil => exact hr
  | cons p accs ih =>
    obtain ⟨hp, hrest⟩ := List.forall_mem_cons.1 haccs
    obtain ⟨a, q⟩ := p
    cases hk : regionAt rs a 4 with
    | none =>
      rw [runAccesses_cons_ordinary hk]
      exact ih hrest
    | some kind =>
      cases kind
      · rw [runAccesses_cons_busError hk]
        exact hp
      · rw [runAccesses_cons_sideEffect hk]
        exact hp

/-! ### A channel's arena -/

/-- An address in the arena of a channel (R92). -/
def inArena (s : State) (u : UnitId) (ch a : Nat) : Prop :=
  arenaBase s u ch ≤ a ∧ a < arenaBase s u ch + arenaSize s u

/-- A word of a line stands in its channel's arena (R340, R375). -/
theorem lineAddr_inArena (h : Inv s) (hb : (s.binding u ch).bound = true) {l : LineRef} (hl : l ∈ unitLines u ch)
    {k : Nat} (hk : k < lineCap s l) :
    arenaBase s u ch ≤ lineAddr s l k ∧ lineAddr s l k + 4 ≤ arenaBase s u ch + arenaSize s u := by
  have hlay := (h.unit u).layout (((h.unit u).flags ch).2 hb).1
  cases u with
  | delay =>
    obtain rfl := List.mem_singleton.1 hl
    obtain ⟨-, -, hreq⟩ := hlay
    have hsize : arenaSize s .delay = 4 * lineCap s (.delay ch) := hreq
    have haddr : lineAddr s (.delay ch) k = arenaBase s .delay ch + 4 * k := rfl
    omega
  | reverb =>
    obtain ⟨j, -, rfl⟩ := List.mem_map.1 hl
    obtain ⟨-, hoff, hreq⟩ := hlay
    have hsum := capSum_before s.coefs.reverb j
    have hsize : arenaSize s .reverb = 4 * capSum s.coefs.reverb revLines := hreq
    have hcap : lineCap s (.reverb ch j) = (s.coefs.reverb.cap.get j).toNat := rfl
    have haddr : lineAddr s (.reverb ch j) k =
        arenaBase s .reverb ch + 4 * capSum s.coefs.reverb (linesBefore j) + 4 * k := by
      rw [← hoff]
      rfl
    omega
  | _ => cases hl

/-- Data memory outside the arena of a channel is the same in two states. -/
def SameBeyond (u : UnitId) (ch : Nat) (s t : State) : Prop :=
  ∀ a, ¬inArena s u ch a → readByte t.mem a = readByte s.mem a

theorem SameBeyond.of_mem (h : t.mem = s.mem) : SameBeyond u ch s t := fun _ _ => by rw [h]

/-- The addresses one REVERB sample accesses stand in the channel's lines (R393). -/
theorem reverbAccesses_inLine (h : ReverbInUse s ch) :
    ∀ p ∈ reverbAccesses s ch, ∃ j k, k < lineCap s (.reverb ch j) ∧ p.1 = lineAddr s (.reverb ch j) k := by
  have hat : ∀ j d, ∃ j' k, k < lineCap s (.reverb ch j') ∧ lineAt s ch j d = lineAddr s (.reverb ch j') k :=
    fun j d => ⟨j, _, lineIndex_lt (h.lines j) d, rfl⟩
  have hnext : ∀ j, ∃ j' k, k < lineCap s (.reverb ch j') ∧ lineNext s ch j = lineAddr s (.reverb ch j') k :=
    fun j => ⟨j, _, (h.lines j).cursor, rfl⟩
  have hmod : ∀ (c : Bool) j d (n : Nat), (∀ p ∈ (if c = true then [] else [(lineAt s ch j d, n)]),
      ∃ j' k, k < lineCap s (.reverb ch j') ∧ p.1 = lineAddr s (.reverb ch j') k) ↔ True := by
    intro c j d n
    cases c <;> simp [hat]
  simp only [reverbAccesses, List.forall_mem_append, List.forall_mem_cons, List.forall_mem_map, hat, hnext, hmod,
    List.not_mem_nil, false_implies, implies_true, and_self]

/-- Where the words of REVERB's lines stand after some stages of a sample. -/
theorem sameBeyond_stageAt (h : Inv s) (ha : admitted s .reverb ch) (r : ReverbSample) (n : Nat) :
    SameBeyond .reverb ch s (stageAt s ch r n) := by
  obtain ⟨-, -, hb, -⟩ := id ha
  refine fun a hout => readByte_writeLines_other s ch r.word (linesWritten n) fun j _ hj => hout ?_
  obtain ⟨hlo, hhi⟩ := lineAddr_inArena h (hb rfl) (List.mem_map_of_mem (mem_revLines j))
    ((reverbInUse h ha).lines j).cursor
  have hnext : lineNext s ch j = lineAddr s (.reverb ch j) (lineCursor s (.reverb ch j)) := rfl
  exact ⟨by omega, by omega⟩

theorem sameBeyond_afterWrite (h : Inv s) (ha : admitted s .delay ch) (x : F32) :
    SameBeyond .delay ch s (afterWrite s (.delay ch) x) := by
  intro a hout
  obtain ⟨-, -, hb, -⟩ := id ha
  obtain ⟨hlo, hhi⟩ := lineAddr_inArena h (hb rfl) (List.mem_singleton.2 rfl) (delayLineOk h ha).cursor
  refine readByte_writeWord_other _ _ _ _ ?_
  have hnot : ¬(lineAddr s (.delay ch) (lineCursor s (.delay ch)) ≤ a ∧
      a < lineAddr s (.delay ch) (lineCursor s (.delay ch)) + 4) := fun hin => hout ⟨by omega, by omega⟩
  omega

/-- One sample of an admitted channel accesses words of the channel's arena, and changes no byte outside it. -/
theorem process1Hook_accesses (h : Inv s) (ha : admitted s u ch) (xs : List F32) :
    ∃ accs ys t, process1Hook u ch xs s = runAccesses s.hw.regions accs (.ok ys t) ∧
      (∀ p ∈ accs, arenaBase s u ch ≤ p.1 ∧ p.1 + 4 ≤ arenaBase s u ch + arenaSize s u) ∧
      (∀ p ∈ accs, SameBeyond u ch s p.2) ∧ SameBeyond u ch s t := by
  obtain ⟨-, -, hb, -⟩ := id ha
  cases u with
  | delay =>
    have hline := delayLineOk h ha
    have hwritten := sameBeyond_afterWrite h ha (sample0 xs)
    have hin : ∀ {k}, k < lineCap s (.delay ch) → _ := fun hk =>
      lineAddr_inArena h (hb rfl) (List.mem_singleton.2 rfl) hk
    refine ⟨_, _, _, (process1Hook_delay ch xs s).trans (delayStep_run hline _), ?_, ?_, hwritten⟩
    · refine List.forall_mem_cons.2 ⟨hin hline.cursor, List.forall_mem_map.2 ?_⟩
      have hok := lineOk_afterWrite hline (sample0 xs)
      have hread : ∀ d, arenaBase s .delay ch ≤ lineAddr (afterWrite s (.delay ch) (sample0 xs)) (.delay ch)
            (lineIndex (afterWrite s (.delay ch) (sample0 xs)) (.delay ch) d) ∧
          lineAddr (afterWrite s (.delay ch) (sample0 xs)) (.delay ch)
            (lineIndex (afterWrite s (.delay ch) (sample0 xs)) (.delay ch) d) + 4 ≤
            arenaBase s .delay ch + arenaSize s .delay := fun d => hin (lineIndex_lt hok d)
      unfold readAddrs
      split <;> simp [hread]
    · exact List.forall_mem_cons.2 ⟨.of_mem rfl, List.forall_mem_map.2 fun _ _ => hwritten⟩
  | reverb =>
    have huse := reverbInUse h ha
    refine ⟨_, _, _, (process1Hook_reverb ch xs s).trans (reverbStep_run huse _ _ rfl), ?_, ?_,
      sameBeyond_stageAt h ha _ 14⟩
    · refine List.forall_mem_map.2 fun p hp => ?_
      obtain ⟨j, k, hk, haddr⟩ := reverbAccesses_inLine huse p hp
      rw [haddr]
      exact lineAddr_inArena h (hb rfl) (List.mem_map_of_mem (mem_revLines j)) hk
    · exact List.forall_mem_map.2 fun p _ => sameBeyond_stageAt h ha _ p.2
  | _ => exact ⟨[], _, _, rfl, (fun _ hp => nomatch hp), (fun _ hp => nomatch hp), fun _ _ => rfl⟩

end

/-! ### What the samples leave alone -/

/-- What every part of a sample keeps, and so what two states between samples agree on. -/
structure BatchStep (u : UnitId) (s t : State) : Prop where
  hw : t.hw = s.hw
  win : t.win = s.win
  regs : t.regs = s.regs
  valid : t.valid = s.valid
  binds : t.binds = s.binds
  arena : arenaSize t u = arenaSize s u
  inv : Inv s → Inv t

section
variable {s t r : State} {u : UnitId} {c : Nat}

theorem BatchStep.refl (s : State) : BatchStep u s s := ⟨rfl, rfl, rfl, rfl, rfl, rfl, id⟩

theorem BatchStep.trans (h : BatchStep u s t) (h' : BatchStep u t r) : BatchStep u s r where
  hw := h'.hw.trans h.hw
  win := h'.win.trans h.win
  regs := h'.regs.trans h.regs
  valid := h'.valid.trans h.valid
  binds := h'.binds.trans h.binds
  arena := h'.arena.trans h.arena
  inv := h'.inv ∘ h.inv

theorem HookStep.batchStep (h : HookStep s t) : BatchStep u s t where
  hw := h.hw
  win := h.win
  regs := h.regs
  valid := h.valid
  binds := h.binds
  arena := congrArg BitVec.toNat (SameArena.of_eq h.coefs u).memReq
  inv := h.inv

theorem batchStep_updateAudio (u : UnitId) (s : State) : BatchStep u s (updateAudio u s) where
  hw := rfl
  win := rfl
  regs := rfl
  valid := rfl
  binds := rfl
  arena := congrArg BitVec.toNat
    (SameArena.memReq (s := s) (t := updateAudio u s) (sameArena_updateAudioHook u u _ _))
  inv h := inv_updateAudio h u

theorem batchStep_store (s : State) {a : Nat} (x : Word) (hr : a + 4 ≤ 2 ^ 32) :
    BatchStep u s { s with mem := writeWord s.mem a x } where
  hw := rfl
  win := rfl
  regs := rfl
  valid := rfl
  binds := rfl
  arena := by cases u <;> rfl
  inv := invKept_store s x hr

theorem BatchStep.admits (k : BatchStep u s t) (h : admitted s u c) : admitted t u c := by
  rwa [admitted, k.regs, k.hw, binding_congr k.binds, stValid_congr k.valid]

theorem BatchStep.inArena_iff (k : BatchStep u s t) (c a : Nat) : inArena t u c a ↔ inArena s u c a := by
  rw [inArena, inArena, arenaBase, arenaBase, k.arena, binding_congr k.binds]

theorem arenaSize_updateCtrl (u : UnitId) (s : State) : arenaSize (updateCtrl u s) u = arenaSize s u := by
  refine congrArg BitVec.toNat (SameArena.memReq (s := s) (t := updateCtrl u s) ?_)
  show SameArena s.coefs (if (s.regs.get u).dirty = 0 then s.coefs else _) u
  split
  · exact .refl _ u
  · exact sameArena_updateCtrlHook u u _ _ _

theorem inArena_updateCtrl (u : UnitId) (s : State) (c a : Nat) :
    inArena (updateCtrl u s) u c a ↔ inArena s u c a := by
  rw [inArena, inArena, arenaSize_updateCtrl]
  rfl

theorem admitted_updateCtrl (h : admitted s u c) : admitted (updateCtrl u s) u c := by
  obtain ⟨hlife, hrest⟩ := h
  refine ⟨?_, hrest⟩
  show (UnitRegs.life ((s.regs.set u _).get u)) = _
  rwa [PerUnit.get_set_self]

end

/-! ### Bytes no sample changes -/

section
variable {s t : State} {u : UnitId} {C free : Nat → Prop} {c i : Nat} {bs : List Word}

/-- The channels `C` of a unit are admitted, and the bytes `free` are in no arena of theirs. -/
structure SamplesStart (u : UnitId) (C free : Nat → Prop) (s : State) : Prop where
  inv : Inv s
  admits : ∀ c, C c → admitted s u c
  apart : ∀ c, C c → ∀ a, free a → ¬inArena s u c a

/-- From a state with such channels, what is done is such as a sample does, and leaves the bytes `free` as they were. -/
def Untouched (u : UnitId) (C free : Nat → Prop) (s t : State) : Prop :=
  SamplesStart u C free s → BatchStep u s t ∧ ∀ a, free a → readByte t.mem a = readByte s.mem a

theorem SamplesStart.step (h : SamplesStart u C free s) (k : BatchStep u s t) : SamplesStart u C free t where
  inv := k.inv h.inv
  admits c hc := k.admits (h.admits c hc)
  apart c hc a ha := mt (k.inArena_iff c a).1 (h.apart c hc a ha)

theorem SamplesStart.updateCtrl (h : SamplesStart u C free s) : SamplesStart u C free (updateCtrl u s) where
  inv := inv_updateCtrl h.inv u
  admits c hc := admitted_updateCtrl (h.admits c hc)
  apart c hc a ha := mt (inArena_updateCtrl u s c a).1 (h.apart c hc a ha)

theorem Untouched.refl (s : State) : Untouched u C free s s := fun _ => ⟨.refl s, fun _ _ => rfl⟩

theorem Untouched.trans (s t r : State) (h : Untouched u C free s t) (h' : Untouched u C free t r) :
    Untouched u C free s r := by
  intro hs
  obtain ⟨k, hsame⟩ := h hs
  obtain ⟨k', hsame'⟩ := h' (hs.step k)
  exact ⟨k.trans k', fun a ha => (hsame' a ha).trans (hsame a ha)⟩

theorem untouched_process1Hook (hc : C c) (xs : List F32) :
    Engine.Keeps (Untouched u C free) (process1Hook u c xs) := by
  refine keeps_iff.2 fun s hs => ⟨(keeps_iff.1 (keeps_process1Hook channelRel_hookStep u c xs) s).batchStep, fun a ha => ?_⟩
  obtain ⟨accs, ys, t, hrun, -, haccs, hend⟩ := process1Hook_accesses hs.inv (hs.admits c hc) xs
  have hbeyond : SameBeyond u c s (endState (process1Hook u c xs s)) := by
    rw [hrun]
    exact endState_runAccesses s.hw.regions haccs hend
  exact hbeyond a (hs.apart c hc a ha)

theorem untouched_storeSamples (hfree : ∀ b ∈ bs, ∀ a, free a → ¬(b.toNat + 4 * i ≤ a ∧ a < b.toNat + 4 * i + 4))
    (ys : List F32) : Engine.Keeps (Untouched u C free) (storeSamples i bs ys) := by
  refine keeps_storeSamples .refl .trans (fun b hb s y _ hr _ => ⟨batchStep_store s y hr, fun a ha => ?_⟩) ys
  have hout := hfree b hb a ha
  exact readByte_writeWord_other _ _ _ _ (by omega)

theorem untouched_updateAudio : Engine.Keeps (Untouched u C free) (modify (updateAudio u)) :=
  keeps_modify fun s _ => ⟨batchStep_updateAudio u s, fun _ _ => rfl⟩

/-- Sample `i` of PROCESS changes no byte outside the words of its results and its channel's arena. -/
theorem untouched_processSample (hc : C c) (ins : List Word)
    (hfree : ∀ b ∈ bs, ∀ a, free a → ¬(b.toNat + 4 * i ≤ a ∧ a < b.toNat + 4 * i + 4)) :
    Engine.Keeps (Untouched u C free) (processSample u c ins bs i) :=
  keeps_bind .trans (keeps_of_same .refl (loadSamples_same i ins)) fun xs =>
    keeps_bind .trans (keeps_requireFinite .refl xs) fun _ =>
      keeps_bind .trans untouched_updateAudio fun _ =>
        keeps_bind .trans (untouched_process1Hook hc xs) fun ys => untouched_storeSamples hfree ys

theorem untouched_processChannels {pout : List (List Word)} {xss : List (List F32)}
    (hC : ∀ d, c ≤ d → d < c + xss.length → C d ∧
      ∀ b ∈ channelBuffers pout d, ∀ a, free a → ¬(b.toNat + 4 * i ≤ a ∧ a < b.toNat + 4 * i + 4)) :
    Engine.Keeps (Untouched u C free) (processChannels u pout i c xss) := by
  induction xss generalizing c with
  | nil => exact keeps_pure .refl ()
  | cons xs xss ih =>
    obtain ⟨hc, hfree⟩ := hC c (le_refl c) (by simp)
    refine keeps_bind .trans (untouched_process1Hook hc xs) fun ys => ?_
    refine keeps_bind .trans (untouched_storeSamples hfree ys) fun _ => ih fun d h1 h2 => ?_
    exact hC d (by omega) (by rw [List.length_cons]; omega)

/-- The input words of a sample are as many lists as there are channels. -/
theorem loadChannels_length {pin : List (List Word)} {k : Nat} {xss : List (List F32)}
    (h : loadChannels pin i c k s = .ok xss t) : xss.length = k := by
  induction k generalizing c s xss with
  | zero => cases h; rfl
  | succ k ih =>
    obtain ⟨xs, s1, -, h⟩ := engine_bind_eq_ok h
    obtain ⟨rest, s2, hrest, h⟩ := engine_bind_eq_ok h
    cases h
    rw [List.length_cons, ih hrest]

/-- Sample `i` of PROCESS_MULTI changes no byte outside the words of its results and its channels' arenas. -/
theorem untouched_multiSample {m : Nat} (pin : List (List Word)) {pout : List (List Word)}
    (hC : ∀ d, d < m → C d ∧
      ∀ b ∈ channelBuffers pout d, ∀ a, free a → ¬(b.toNat + 4 * i ≤ a ∧ a < b.toNat + 4 * i + 4)) :
    Engine.Keeps (Untouched u C free) (multiSample u m pin pout i) := by
  refine keeps_iff.2 fun s => ?_
  cases hload : loadChannels pin i 0 m s with
  | error x t =>
    rw [multiSample, engine_bind_error hload]
    exact keeps_error (keeps_of_same .refl (loadChannels_same pin i 0 m)) hload
  | ok xss t =>
    have hlen := loadChannels_length hload
    have hsame : t = s := keeps_ok (loadChannels_same pin i 0 m) hload
    rw [multiSample, engine_bind_ok hload, hsame]
    refine keeps_iff.1 ?_ s
    refine keeps_bind .trans (keeps_requireFinite .refl _) fun _ => keeps_bind .trans untouched_updateAudio fun _ => ?_
    exact untouched_processChannels fun d _ hd => hC d (by omega)

end

/-! ### The batched commands -/

section
variable {s : State} {u : UnitId} {C : Nat → Prop} {a n : Nat}

/-- A loop over samples none of which changes a byte leaves it as it was. -/
theorem forSamples_untouched {body : Nat → Engine Unit} (h : SamplesStart u C (· = a) s)
    (hbody : ∀ i, i < n → Engine.Keeps (Untouched u C (· = a)) (body i)) :
    readByte (endState (forSamples body 0 n (updateCtrl u s))).mem a = readByte s.mem a :=
  (keeps_iff.1 (keeps_forSamples .refl .trans fun i _ hi => hbody i (by omega)) _ h.updateCtrl).2 a rfl

/-- Settles O44: the samples of a command change nothing else, and its checks nothing at all. -/
theorem batchedCommandsWriteOnlyOutputs : Obligations.BatchedCommandsWriteOnlyOutputs := by
  refine ⟨fun u s t ch h hx a hout harena => ?_, fun u s t h hx a hout harena => ?_⟩
  · rw [exec_processOf] at hx
    rw [runCommand_mem hx]
    rcases cmdProcess_cases u ch s with ⟨ha, hb⟩ | ⟨x, hstop, -⟩
    · rw [cmdProcess_run ha hb]
      have hstart : SamplesStart u (· = ch.toNat) (· = a) s :=
        ⟨h, fun c hc => hc ▸ ha, fun c hc a' ha' => hc ▸ ha' ▸ harena⟩
      refine forSamples_untouched hstart fun i hi => ?_
      refine untouched_processSample (C := (· = ch.toNat)) rfl _ fun b hb' a' ha' => ?_
      have hbuffer := hout b hb'
      omega
    · rw [hstop]
      rfl
  · rw [exec_processMultiOf] at hx
    rw [runCommand_mem hx]
    rcases cmdProcessMulti_cases u s with hp | ⟨x, hstop, -⟩
    · rw [hp.run]
      obtain ⟨-, -, hch⟩ := hp.admitted
      have hstart : SamplesStart u (· < (multiM u s.win).toNat) (· = a) s :=
        ⟨h, hch, fun c hc a' ha' => ha' ▸ harena c hc⟩
      refine forSamples_untouched hstart fun i hi => untouched_multiSample _ fun d hd => ⟨hd, ?_⟩
      rw [channelBuffers_operandTables u s _ hd]
      refine List.forall_mem_map.2 fun T hT a' ha' => ?_
      have hbuffer := hout T hT d hd
      omega
    · rw [hstop]
      rfl

end

end Sys2Proof.Machine
end

-- ==== Proofs: batched commands that complete ====
section
/-! PROOFS. PROCESS and PROCESS_MULTI on ordinary buffers of finite samples (40_protocol.md R156, R157): every sample
finds its input words as they were at the start, because nothing is written over one before it is read, and so each sample
runs to its end. -/

namespace Sys2Proof.Machine
open Sys2Proof.Config

variable {s t : State} {u : UnitId} {C : Nat → Prop} {c i n : Nat}

/-! ### A sample on ordinary memory -/

/-- The channels `C` of a unit are admitted, their arenas ordinary memory. -/
structure PlainStart (u : UnitId) (C : Nat → Prop) (s : State) : Prop where
  inv : Inv s
  admits : ∀ c, C c → admitted s u c
  plain : ∀ c, C c → hasMemory u = true → ordinary s (arenaBase s u c) (arenaSize s u)

theorem PlainStart.step (h : PlainStart u C s) (k : BatchStep u s t) : PlainStart u C t where
  inv := k.inv h.inv
  admits c hc := k.admits (h.admits c hc)
  plain c hc hm := by
    have hplain := h.plain c hc hm
    rwa [ordinary, k.hw, k.arena, arenaBase, binding_congr k.binds]

theorem BatchStep.bufferPlain (k : BatchStep u s t) {b : Word} (h : bufferPlain s b n) : bufferPlain t b n := by
  rwa [Machine.bufferPlain, ordinary, k.hw]

theorem arenaSize_noMemory (s : State) (hm : hasMemory u = false) : arenaSize s u = 0 := by
  cases u <;> first | rfl | cases hm

/-- One sample of an admitted channel whose arena is ordinary memory. -/
theorem process1Hook_ok (h : PlainStart u C s) (hc : C c) (xs : List F32) :
    ∃ ys t, process1Hook u c xs s = .ok ys t ∧ BatchStep u s t := by
  obtain ⟨accs, ys, t, hrun, hin, -, -⟩ := process1Hook_accesses h.inv (h.admits c hc) xs
  have hplain : ∀ p ∈ accs, regionAt s.hw.regions p.1 4 = none := fun p hp => by
    obtain ⟨hlo, hhi⟩ := hin p hp
    cases hm : hasMemory u with
    | true => exact regionAt_none_sub _ (h.plain c hc hm) hlo hhi
    | false =>
      rw [arenaSize_noMemory s hm] at hhi
      omega
  rw [runAccesses_ordinary hplain] at hrun
  exact ⟨ys, t, hrun, (keeps_ok (keeps_process1Hook channelRel_hookStep u c xs) hrun).batchStep⟩

theorem storeSamples_ok (hi : i < n) {bs : List Word} (hbs : ∀ b ∈ bs, bufferPlain s b n) (ys : List F32) :
    ∃ t, storeSamples i bs ys s = .ok () t ∧ BatchStep u s t := by
  induction bs generalizing s ys with
  | nil => exact ⟨s, rfl, .refl s⟩
  | cons b bs ih =>
    cases ys with
    | nil => exact ⟨s, rfl, .refl s⟩
    | cons y ys =>
      obtain ⟨⟨h4, hr, ho⟩, hrest⟩ := List.forall_mem_cons.1 hbs
      obtain ⟨t, hrun, k⟩ := ih (s := { s with mem := writeWord s.mem (b.toNat + 4 * i) y }) hrest ys
      have hword : regionAt s.hw.regions (b.toNat + 4 * i) 4 = none := regionAt_none_sub _ ho (by omega) (by omega)
      have hstore := memWrite_run (s := s) (a := b.toNat + 4 * i) (by omega) (by omega) y
      rw [runAccesses_cons_ordinary hword, runAccesses_nil] at hstore
      exact ⟨t, (engine_bind_ok hstore).trans hrun, (batchStep_store s y (by omega)).trans k⟩

theorem loadSamples_ok (hi : i < n) {bs : List Word} (hbs : ∀ b ∈ bs, bufferPlain s b n) :
    loadSamples i bs s = .ok (bs.map fun b => readWord s.mem (b.toNat + 4 * i)) s := by
  rw [loadSamples_run hi fun b hb => ⟨(hbs b hb).1, (hbs b hb).2.1⟩]
  refine runAccesses_ordinary (accessFrom_ordinary.2 (List.forall_mem_map.2 fun b hb => ?_)) _
  obtain ⟨-, -, ho⟩ := hbs b hb
  exact regionAt_none_sub _ ho (by omega) (by omega)

/-- The input words of sample `i` of some channels. -/
theorem loadChannels_ok (hi : i < n) {pin : List (List Word)} {k : Nat}
    (h : ∀ d, c ≤ d → d < c + k → ∀ b ∈ channelBuffers pin d, bufferPlain s b n) :
    loadChannels pin i c k s = .ok ((List.range' c k).map fun d =>
      (channelBuffers pin d).map fun b => readWord s.mem (b.toNat + 4 * i)) s := by
  induction k generalizing c with
  | zero => rfl
  | succ k ih =>
    rw [loadChannels, engine_bind_ok (loadSamples_ok hi (h c (le_refl c) (by omega))),
      engine_bind_ok (ih fun d h1 h2 => h d (by omega) (by omega)), List.range'_succ]
    rfl

/-- Sample `i` of PROCESS on ordinary buffers, its input words finite. -/
theorem processSample_ok (hi : i < n) (h : PlainStart u C s) (hc : C c) {ins outs : List Word}
    (hbs : ∀ b ∈ ins ++ outs, bufferPlain s b n) (hf : ∀ b ∈ ins, isFinite (readWord s.mem (b.toNat + 4 * i)) = true) :
    ∃ t, processSample u c ins outs i s = .ok () t := by
  obtain ⟨hins, houts⟩ := List.forall_mem_append.1 hbs
  have kaudio := batchStep_updateAudio u s
  obtain ⟨ys, t, hhook, k⟩ := process1Hook_ok (h.step kaudio) hc
    (ins.map fun b => readWord s.mem (b.toNat + 4 * i))
  obtain ⟨r, hstore, -⟩ := storeSamples_ok (u := u) (s := t) hi (fun b hb =>
    (kaudio.trans k).bufferPlain (houts b hb)) ys
  refine ⟨r, ?_⟩
  rw [processSample, engine_bind_ok (loadSamples_ok hi hins), engine_bind_ok (requireFinite_pass s ?_),
    engine_bind_modify, engine_bind_ok hhook, hstore]
  exact List.forall_mem_map.2 hf

/-- The channels of one sample of PROCESS_MULTI, one after the other. -/
theorem processChannels_ok (hi : i < n) (h : PlainStart u C s) {pout : List (List Word)} {xss : List (List F32)}
    (hC : ∀ d, c ≤ d → d < c + xss.length → C d ∧ ∀ b ∈ channelBuffers pout d, bufferPlain s b n) :
    ∃ t, processChannels u pout i c xss s = .ok () t := by
  induction xss generalizing c s with
  | nil => exact ⟨s, rfl⟩
  | cons xs xss ih =>
    obtain ⟨hc, hbs⟩ := hC c (le_refl c) (by simp)
    obtain ⟨ys, t, hhook, k⟩ := process1Hook_ok h hc xs
    obtain ⟨r, hstore, k'⟩ := storeSamples_ok (u := u) (s := t) hi (fun b hb => k.bufferPlain (hbs b hb)) ys
    obtain ⟨q, hrest⟩ := ih (h.step (k.trans k')) (c := c + 1) fun d h1 h2 => by
      obtain ⟨hd, hbs⟩ := hC d (by omega) (by rw [List.length_cons]; omega)
      exact ⟨hd, fun b hb => (k.trans k').bufferPlain (hbs b hb)⟩
    exact ⟨q, (engine_bind_ok hhook).trans ((engine_bind_ok hstore).trans hrest)⟩

/-- Sample `i` of PROCESS_MULTI on ordinary buffers, its input words finite. -/
theorem multiSample_ok (hi : i < n) {m : Nat} (h : PlainStart u (· < m) s) {pin pout : List (List Word)}
    (hin : ∀ d, d < m → ∀ b ∈ channelBuffers pin d, bufferPlain s b n)
    (hout : ∀ d, d < m → ∀ b ∈ channelBuffers pout d, bufferPlain s b n)
    (hf : ∀ d, d < m → ∀ b ∈ channelBuffers pin d, isFinite (readWord s.mem (b.toNat + 4 * i)) = true) :
    ∃ t, multiSample u m pin pout i s = .ok () t := by
  obtain ⟨t, hrun⟩ := processChannels_ok (c := 0) (pout := pout) hi (h.step (batchStep_updateAudio u s))
    (xss := (List.range' 0 m).map fun d => (channelBuffers pin d).map fun b => readWord s.mem (b.toNat + 4 * i))
    fun d _ hd => by
      rw [List.length_map, List.length_range'] at hd
      exact ⟨by omega, hout d (by omega)⟩
  refine ⟨t, ?_⟩
  rw [multiSample, engine_bind_ok (loadChannels_ok hi fun d _ hd => hin d (by omega)),
    engine_bind_ok (requireFinite_pass s ?_), engine_bind_modify, hrun]
  refine List.forall_mem_flatten.2 (List.forall_mem_map.2 fun d hd => List.forall_mem_map.2 (hf d ?_))
  have := List.mem_range'_1.1 hd
  omega

/-! ### A loop of samples on ordinary memory -/

theorem readWord_congr {m m' : List Host.Cell} {x : Nat} (h : ∀ a, x ≤ a → a < x + 4 → readByte m' a = readByte m a) :
    readWord m' x = readWord m x := by
  rw [readWord, readWord, h x (by omega) (by omega), h (x + 1) (by omega) (by omega), h (x + 2) (by omega) (by omega),
    h (x + 3) (by omega) (by omega)]

/-- A loop each of whose samples runs to its end. -/
theorem forSamples_ok {P : Nat → State → Prop} {body : Nat → Engine Unit} {k : Nat}
    (hstep : ∀ j s, i ≤ j → j < i + k → P j s → ∃ t, body j s = .ok () t ∧ P (j + 1) t) (h : P i s) :
    ∃ t, forSamples body i k s = .ok () t ∧ P (i + k) t := by
  induction k generalizing i s with
  | zero => exact ⟨s, rfl, h⟩
  | succ k ih =>
    obtain ⟨t, hfirst, ht⟩ := hstep i s (le_refl i) (by omega) h
    obtain ⟨r, hrest, hr⟩ := ih (fun j q h1 h2 => hstep j q (by omega) (by omega)) ht
    exact ⟨r, (engine_bind_ok (atSample_ok hfirst)).trans hrest, by rwa [Nat.add_right_comm, Nat.add_assoc] at hr⟩

/-- A batched command of `n` samples on ordinary memory: its channels, its input buffers and its output buffers. -/
structure PlainBatch (u : UnitId) (C : Nat → Prop) (ins outs : Word → Prop) (n : Nat) (s : State) : Prop where
  start : PlainStart u C s
  insPlain : ∀ b, ins b → bufferPlain s b n
  outsPlain : ∀ b, outs b → bufferPlain s b n
  finite : ∀ b, ins b → samplesFinite s b n
  clear : ∀ b, ins b → ∀ c, C c → hasMemory u = true → clearOfArena s u c b n
  ahead : ∀ b, ins b → ∀ o, outs o → readBeforeWritten b o n

section
variable {ins outs : Word → Prop}

/-- The control-rate step moves nothing a batched command asks about. -/
theorem PlainBatch.updateCtrl (h : PlainBatch u C ins outs n s) : PlainBatch u C ins outs n (updateCtrl u s) where
  start := by
    refine ⟨inv_updateCtrl h.start.inv u, fun c hc => admitted_updateCtrl (h.start.admits c hc), fun c hc hm => ?_⟩
    rw [arenaSize_updateCtrl]
    exact h.start.plain c hc hm
  insPlain := h.insPlain
  outsPlain := h.outsPlain
  finite := h.finite
  clear b hb c hc hm := by
    rw [clearOfArena, arenaSize_updateCtrl]
    exact h.clear b hb c hc hm
  ahead := h.ahead

/-- A byte of the input words from sample `i` on. -/
def inputByte (ins : Word → Prop) (n i a : Nat) : Prop :=
  ∃ b j, ins b ∧ i ≤ j ∧ j < n ∧ b.toNat + 4 * j ≤ a ∧ a < b.toNat + 4 * j + 4

/-- A state before sample `i`: the input words from there on are as they were at the start. -/
def InputsKept (u : UnitId) (ins : Word → Prop) (n : Nat) (s : State) (i : Nat) (t : State) : Prop :=
  BatchStep u s t ∧ ∀ a, inputByte ins n i a → readByte t.mem a = readByte s.mem a

/-- No arena holds an input byte. -/
theorem PlainBatch.samplesStart (h : PlainBatch u C ins outs n s) : SamplesStart u C (inputByte ins n i) s := by
  refine ⟨h.start.inv, h.start.admits, fun c hc a ⟨b, j, hb, _, hj, hlo, hhi⟩ ⟨hbase, htop⟩ => ?_⟩
  cases hm : hasMemory u with
  | true =>
    have hclear := h.clear b hb c hc hm
    rw [clearOfArena] at hclear
    omega
  | false =>
    rw [arenaSize_noMemory s hm] at htop
    omega

/-- No result of a sample is stored over an input word of a later one. -/
theorem PlainBatch.storesClear (h : PlainBatch u C ins outs n s) {o : Word} (ho : outs o) {a : Nat}
    (ha : inputByte ins n (i + 1) a) : ¬(o.toNat + 4 * i ≤ a ∧ a < o.toNat + 4 * i + 4) := by
  obtain ⟨b, j, hb, hij, hj, hlo, hhi⟩ := ha
  have hne := h.ahead b hb o ho j i (by omega) hj
  obtain ⟨hb4, -, -⟩ := h.insPlain b hb
  obtain ⟨ho4, -, -⟩ := h.outsPlain o ho
  omega

/-- Samples that change only their results' words and their channels' arenas, and run to their ends on finite input
words, all run to their ends. -/
theorem PlainBatch.complete (h : PlainBatch u C ins outs n s) {body : Nat → Engine Unit}
    (hkeeps : ∀ i free, (∀ o, outs o → ∀ a, free a → ¬(o.toNat + 4 * i ≤ a ∧ a < o.toNat + 4 * i + 4)) →
      Engine.Keeps (Untouched u C free) (body i))
    (hok : ∀ i t, i < n → BatchStep u s t → (∀ b, ins b → isFinite (readWord t.mem (b.toNat + 4 * i)) = true) →
      ∃ r, body i t = .ok () r) :
    ∃ t, forSamples body 0 n s = .ok () t ∧ BatchStep u s t := by
  suffices hstep : ∀ i t, i < n → InputsKept u ins n s i t →
      ∃ r, body i t = .ok () r ∧ InputsKept u ins n s (i + 1) r by
    obtain ⟨t, hrun, k, -⟩ := forSamples_ok (P := InputsKept u ins n s) (i := 0) (k := n) (s := s)
      (fun i t _ hi => hstep i t (by omega)) ⟨.refl s, fun _ _ => rfl⟩
    exact ⟨t, hrun, k⟩
  rintro i t hi ⟨k, hsame⟩
  obtain ⟨r, hrun⟩ := hok i t hi k fun b hb => by
    rw [readWord_congr fun a hlo hhi => hsame a ⟨b, i, hb, le_refl i, hi, hlo, hhi⟩]
    exact h.finite b hb i hi
  obtain ⟨k', hsame'⟩ := keeps_ok (hkeeps i (inputByte ins n (i + 1)) fun o ho a ha => h.storesClear ho ha) hrun
    (h.samplesStart.step k)
  refine ⟨r, hrun, k.trans k', fun a ha => (hsame' a ha).trans (hsame a ?_)⟩
  obtain ⟨b, j, hb, hij, hrest⟩ := ha
  exact ⟨b, j, hb, by omega, hrest⟩

end

/-! ### The commands -/

/-- What a batched command that runs to its end leaves as it was. -/
theorem completes_of_batchStep {cmd : Instr} (hu : unitOfInstr cmd = some u) (hx : exec cmd s = .next t)
    (k : BatchStep u (updateCtrl u s) t) :
    exec cmd s = .next t ∧ t.win = s.win ∧ t.regs.get u = { s.regs.get u with dirty := 0 } ∧ t.valid = s.valid ∧
      t.binds = s.binds ∧ ∀ v, v ≠ u → sameUnit s t v := by
  refine ⟨hx, k.win, ?_, k.valid, k.binds, fun v hv => (exec_commandFrame hx).others v ?_⟩
  · rw [k.regs]
    exact PerUnit.get_set_self _ _ _
  · rw [hu]
    exact fun h => hv (Option.some.inj h).symm

/-- Settles O42: the one channel's samples all run to their ends. -/
theorem processCompletes : Obligations.ProcessCompletes := by
  intro u s ch h ha harena hplain hin
  have hbatch : PlainBatch u (· = ch.toNat) (· ∈ inArgs u s.win) (· ∈ outArgs u s.win) (processN u s.win) s :=
    { start := ⟨h, fun c hc => hc ▸ ha, fun c hc hm => hc ▸ harena hm⟩
      insPlain := fun b hb => hplain b (List.mem_append_left _ hb)
      outsPlain := fun b hb => hplain b (List.mem_append_right _ hb)
      finite := fun b hb => (hin b hb).1
      clear := fun b hb c hc hm => hc ▸ (hin b hb).2.1 hm
      ahead := fun b hb => (hin b hb).2.2 }
  obtain ⟨t, hrun, k⟩ := hbatch.updateCtrl.complete
    (body := processSample u ch.toNat (inArgs u s.win) (outArgs u s.win))
    (fun i free hfree => untouched_processSample (C := (· = ch.toNat)) rfl _ hfree)
    (fun i t hi k hf => processSample_ok hi (hbatch.updateCtrl.start.step k) rfl
      (fun b hb => k.bufferPlain (hplain b hb)) hf)
  have hx : exec (processOf u ch) s = .next t := by
    rw [exec_processOf]
    refine runCommand_ok ((cmdProcess_run ha fun b hb => ?_).trans hrun)
    obtain ⟨h4, hr, -⟩ := hplain b hb
    exact ⟨h4, hr⟩
  exact ⟨t, completes_of_batchStep (unit_processOf u ch) hx k⟩

/-- The buffers that the tables of a list of operands name (R157). -/
def tableBuffer (u : UnitId) (s : State) (ts : List Word) (b : Word) : Prop :=
  ∃ T ∈ ts, ∃ c, c < (multiM u s.win).toNat ∧ tableEntry s T c = b

theorem tableBuffer_of_mem {ts : List Word} {d : Nat} (hd : d < (multiM u s.win).toNat) {b : Word}
    (hb : b ∈ channelBuffers (operandTables u s ts) d) : tableBuffer u s ts b := by
  rw [channelBuffers_operandTables u s ts hd] at hb
  obtain ⟨T, hT, rfl⟩ := List.mem_map.1 hb
  exact ⟨T, hT, d, hd, rfl⟩

/-- Settles O43: the channels' samples all run to their ends. -/
theorem processMultiCompletes : Obligations.ProcessMultiCompletes := by
  intro u s h hlife hm hch htables hin
  have hbatch : PlainBatch u (· < (multiM u s.win).toNat) (tableBuffer u s (inArgs u s.win))
      (tableBuffer u s (outArgs u s.win)) (multiN u s.win) s :=
    { start := ⟨h, fun c hc => (hch c hc).1, fun c hc => (hch c hc).2⟩
      insPlain := fun b ⟨T, hT, c, hc, hb⟩ => hb ▸ (htables T (List.mem_append_left _ hT)).2 c hc
      outsPlain := fun b ⟨T, hT, c, hc, hb⟩ => hb ▸ (htables T (List.mem_append_right _ hT)).2 c hc
      finite := fun b ⟨T, hT, c, hc, hb⟩ => hb ▸ (hin T hT c hc).1
      clear := fun b ⟨T, hT, c, hc, hb⟩ c' hc' => hb ▸ ((hin T hT c hc).2 c' hc').1
      ahead := fun b ⟨T, hT, c, hc, hb⟩ o ⟨T', hT', c', hc', ho⟩ => hb ▸ ho ▸ ((hin T hT c hc).2 c' hc').2 T' hT' }
  have hpasses : MultiPasses u s := by
    refine ⟨⟨hlife, hm, fun c hc => (hch c hc).1⟩, fun T hT => ?_, fun a ha => ?_, fun b hb => ?_⟩
    · obtain ⟨⟨h4, hr, -⟩, -⟩ := htables T hT
      exact ⟨h4, hr⟩
    · obtain ⟨T, hT, hc⟩ := List.mem_flatMap.1 ha
      obtain ⟨c, hlt, rfl⟩ := List.mem_map.1 hc
      obtain ⟨⟨-, -, ho⟩, -⟩ := htables T hT
      have hlt := List.mem_range.1 hlt
      exact regionAt_none_sub _ ho (by omega) (by omega)
    · obtain ⟨T, hT, hc⟩ := List.mem_flatMap.1 hb
      obtain ⟨c, hlt, rfl⟩ := List.mem_map.1 hc
      obtain ⟨h4, hr, -⟩ := (htables T hT).2 c (List.mem_range.1 hlt)
      exact ⟨h4, hr⟩
  obtain ⟨t, hrun, k⟩ := hbatch.updateCtrl.complete
    (body := multiSample u (multiM u s.win).toNat (operandTables u s (inArgs u s.win))
      (operandTables u s (outArgs u s.win)))
    (fun i free hfree => untouched_multiSample _ fun d hd =>
      ⟨hd, fun b hb => hfree b (tableBuffer_of_mem hd hb)⟩)
    (fun i t hi k hf => multiSample_ok hi (hbatch.updateCtrl.start.step k)
      (fun d hd b hb => k.bufferPlain (hbatch.insPlain b (tableBuffer_of_mem hd hb)))
      (fun d hd b hb => k.bufferPlain (hbatch.outsPlain b (tableBuffer_of_mem hd hb)))
      (fun d hd b hb => hf b (tableBuffer_of_mem hd hb)))
  have hx : exec (processMultiOf u) s = .next t := by
    rw [exec_processMultiOf]
    exact runCommand_ok (hpasses.run.trans hrun)
  exact ⟨t, completes_of_batchStep (unit_processMultiOf u) hx k⟩

end Sys2Proof.Machine
end

-- ==== Proofs: a batched command and the host's loop ====
section
/-! PROOFS. PROCESS and PROCESS_MULTI come to a host's loop of single-sample commands (40_protocol.md R153, R156, R157,
60_exceptions.md R440). The engine's loop keeps the window and the host's commands write it, so the two go through the
same states but for the window; where a sample of one stops, the other stops at the same place. -/

namespace Sys2Proof.Machine
open Sys2Proof.Config

variable {s q : State} {u : UnitId} {w : Window} {i n : Nat}

/-! ### Computations that answer, part by part -/

section
variable {α β : Type} {e : Engine α} {k : α → Engine β} {P : β → State → Prop}

theorem answers_left (h : Answers P ((e >>= k) s)) : Answers (fun _ _ => True) (e s) := by
  cases he : e s with
  | ok a t => exact .ok trivial
  | error x t =>
    rw [engine_bind_error he] at h
    cases h
    exact .trap _ _ _ _

theorem answers_right (h : Answers P ((e >>= k) s)) {a : α} {t : State} (he : e s = .ok a t) : Answers P (k a t) := by
  rwa [engine_bind_ok he] at h

theorem answers_of_atSample {e : Engine Unit} {P : Unit → State → Prop} (h : Answers P (atSample i e s)) :
    Answers P (e s) := by
  unfold atSample at h
  split at h
  next heq =>
    rw [heq]
    exact .trap _ _ _ _
  next => exact h

/-- A command that answers a next state answered. -/
theorem answers_of_next {cmd : Instr} {e : Engine Unit} {t : State} (h : runCommand cmd e s = .next t) :
    Answers (fun _ _ => True) (e s) := by
  rcases runCommand_next h with hok | ⟨c, a, b, r, herr, -⟩
  · rw [hok]
    exact .ok trivial
  · rw [herr]
    exact .trap _ _ _ _

theorem atSample_congr (i : Nat) {e e' : Engine Unit} {s s' : State} (h : e s = e' s') :
    atSample i e s = atSample i e' s' := by
  rw [atSample, atSample, h]

theorem atSample_bind (e : Engine Unit) (k : Unit → Engine Unit) :
    atSample i (e >>= k) s = (atSample i e >>= fun _ => atSample i (k ())) s := by
  rw [engine_bind, atSample, engine_bind, atSample]
  cases he : e s with
  | ok a t => rfl
  | error x t => cases x <;> rfl

/-- Accesses that answer: all are ordinary, or the host's loop finds the one that fails. -/
theorem runAccesses_firstFailing {as : List Nat} {r : EStateM.Result Stop State β}
    (h : Answers P (runAccesses s.hw.regions (accessFrom s as) r)) :
    (firstFailing s as = none ∧ ∀ a ∈ as, ordinary s a 4) ∨
    ∃ a, firstFailing s as = some a ∧
      runAccesses s.hw.regions (accessFrom s as) r = .error (.trap .busError (BitVec.ofNat 32 a) 0) s := by
  induction as with
  | nil => exact .inl ⟨rfl, fun _ ha => nomatch ha⟩
  | cons a as ih =>
    rw [accessFrom_cons] at h ⊢
    cases hr : regionAt s.hw.regions a 4 with
    | none =>
      rw [runAccesses_cons_ordinary hr] at h ⊢
      rw [firstFailing, List.find?_cons_of_neg (by simp [hr])]
      exact (ih h).imp_left fun ⟨hnone, hrest⟩ => ⟨hnone, List.forall_mem_cons.2 ⟨hr, hrest⟩⟩
    | some kind =>
      cases kind
      · exact .inr ⟨a, by rw [firstFailing, List.find?_cons_of_pos (by simp [hr])], runAccesses_cons_busError hr r⟩
      · rw [runAccesses_cons_sideEffect hr] at h
        cases h

end

/-! ### The two loops' ends -/

/-- The host's loop goes on from where it ended, if it ended with every sample done. -/
def hostThen (o : Option LoopEnd) (f : State → Option LoopEnd) : Option LoopEnd :=
  match o with
  | some (.done t) => f t
  | some (.fault status info0 i t) => some (.fault status info0 i t)
  | none => none

theorem hostLoop_succ (u : UnitId) (lanes : List Lane) (i k : Nat) (s : State) :
    hostLoop u lanes i (k + 1) s = hostThen (hostSample u lanes i s) (hostLoop u lanes (i + 1) k) := by
  rw [hostLoop]
  rcases hostSample u lanes i s with _ | t | _ <;> rfl

theorem hostChannels_cons (u : UnitId) (i : Nat) (x : Lane × List F32) (rest : List (Lane × List F32)) (s : State) :
    hostChannels u i (x :: rest) s = hostThen (hostChannels u i [x] s) (hostChannels u i rest) := by
  obtain ⟨l, xs⟩ := x
  simp only [hostChannels]
  cases exec (process1Of u l.ch) { s with win := withSamples s.win xs } with
  | next t =>
    dsimp only
    by_cases hf : statusFault t.win.status = true
    · simp only [if_pos hf, hostThen]
    · simp only [if_neg hf]
      cases hostStores i l.outs [t.win.res0, t.win.res1] t <;> rfl
  | _ => rfl

/-- An end of the engine's and one of the host's loop: the same states but for the window, the same fault in the same
sample. -/
inductive HostEnds : EStateM.Result Stop State Unit → Option LoopEnd → Prop
  | done (q : State) (w : Window) (hw : statusFault w.status = false) :
    HostEnds (.ok () q) (some (.done { q with win := w }))
  | fault (c : FaultCode) (a : Word) (i : Nat) (q : State) (w : Window) :
    HostEnds (.error (.trap c a (BitVec.ofNat 32 i)) q) (some (.fault (statusOf c) a i { q with win := w }))

theorem HostEnds.bind {e : Engine Unit} {k : Unit → Engine Unit} {o : Option LoopEnd} {f : State → Option LoopEnd}
    (h : HostEnds (e q) o)
    (hk : ∀ q' w', e q = .ok () q' → statusFault w'.status = false → HostEnds (k () q') (f { q' with win := w' })) :
    HostEnds ((e >>= k) q) (hostThen o f) := by
  generalize hr : e q = r at h
  cases h with
  | done q' w' hw =>
    rw [engine_bind_ok hr]
    exact hk q' w' hr hw
  | fault c a i q' w' =>
    rw [engine_bind_error hr]
    exact .fault c a i q' w'

/-! ### One channel's sample -/

/-- How many input samples a unit takes, and how many results it makes (R148, R156). -/
def sampleWidth : UnitId → Nat
  | .reverb => 2
  | _ => 1

theorem length_inArgs (u : UnitId) (w : Window) : (inArgs u w).length = sampleWidth u := by cases u <;> rfl

theorem length_outArgs (u : UnitId) (w : Window) : (outArgs u w).length = sampleWidth u := by cases u <;> rfl

/-- The samples a host puts in its operands are the ones PROCESS1 takes. -/
theorem sampleArgs_withSamples (w : Window) {xs : List F32} (h : xs.length = sampleWidth u) :
    sampleArgs u (withSamples w xs) = xs := by
  cases u with
  | reverb =>
    obtain ⟨xl, xr, rfl⟩ := List.length_eq_two.1 h
    rfl
  | _ =>
    obtain ⟨x, rfl⟩ := List.length_eq_one_iff.1 h
    rfl

theorem status_withSamples (w : Window) (xs : List F32) : (withSamples w xs).status = w.status := by
  rcases xs with _ | ⟨x, _ | ⟨y, xs⟩⟩ <;> rfl

/-- A property of a computation's value, whatever it starts from. -/
def Engine.Returns {α : Type} (P : α → Prop) (e : Engine α) : Prop := ∀ s a t, e s = .ok a t → P a

theorem returns_pure {α : Type} {P : α → Prop} {a : α} (h : P a) : Engine.Returns P (pure a) := by
  rintro s b t ⟨⟩
  exact h

theorem returns_bind {α β : Type} {P : β → Prop} {e : Engine α} {k : α → Engine β} (h : ∀ a, Engine.Returns P (k a)) :
    Engine.Returns P (e >>= k) := by
  intro s b t he
  obtain ⟨a, s', -, hk⟩ := engine_bind_eq_ok he
  exact h a s' b t hk

/-- One sample of a unit makes as many results as the unit has outputs. -/
theorem process1Hook_length (u : UnitId) (ch : Nat) (xs : List F32) :
    Engine.Returns (·.length = sampleWidth u) (process1Hook u ch xs) := by
  refine returns_bind fun s => ?_
  cases u with
  | delay => exact returns_bind fun _ => returns_bind fun _ => returns_bind fun _ => returns_pure rfl
  | reverb =>
    refine returns_bind fun _ => returns_bind fun _ => returns_bind fun _ => returns_bind fun _ => returns_bind fun _ => ?_
    refine returns_bind fun _ => returns_bind fun _ => returns_bind fun _ => returns_bind fun _ => returns_bind fun _ => ?_
    exact returns_bind fun _ => returns_bind fun _ => returns_bind fun _ => returns_bind fun _ => returns_pure rfl
  | _ => exact returns_bind fun _ => returns_pure rfl

/-- RES0 and RES1 after a unit's results are written: the results, and what was there (R148). -/
theorem setResults_withWin (q : State) (w : Window) {ys : List F32} (h : ys.length = sampleWidth u) :
    ∃ w' zs, State.setResults { q with win := w } ys = { q with win := w' } ∧ w'.status = w.status ∧
      [w'.res0, w'.res1] = ys ++ zs := by
  have hlen : ys.length = 1 ∨ ys.length = 2 := by
    rw [h]
    cases u <;> simp [sampleWidth]
  rcases hlen with hlen | hlen
  · obtain ⟨y, rfl⟩ := List.length_eq_one_iff.1 hlen
    exact ⟨{ w with res0 := y }, [w.res1], rfl, rfl, rfl⟩
  · obtain ⟨yl, yr, rfl⟩ := List.length_eq_two.1 hlen
    exact ⟨{ w with res0 := yl, res1 := yr }, [], rfl, rfl, rfl⟩

/-- The stores of a channel's results, by the engine and by the host. -/
theorem storeSamples_ends (hi : i < n) {bs : List Word} (hbs : ∀ b ∈ bs, bufferLegal n b) {ys zs : List F32}
    (hlen : bs.length ≤ ys.length) (hw : statusFault w.status = false)
    (h : Answers (fun _ _ => True) (storeSamples i bs ys q)) :
    HostEnds (atSample i (storeSamples i bs ys) q) (some (hostStores i bs (ys ++ zs) { q with win := w })) := by
  induction bs generalizing q ys with
  | nil =>
    rw [storeSamples, hostStores]
    · exact .done q w hw
    all_goals simp
  | cons b bs ih =>
    obtain ⟨y, ys, rfl⟩ := List.exists_cons_of_length_pos (Nat.zero_lt_of_lt hlen)
    obtain ⟨⟨h4, hr⟩, hrest⟩ := List.forall_mem_cons.1 hbs
    have hstore := memWrite_run (s := q) (a := b.toNat + 4 * i) (by omega) (by omega) y
    have hans := answers_left h
    rw [storeSamples, List.cons_append, hostStores]
    cases hreg : regionAt q.hw.regions (b.toNat + 4 * i) 4 with
    | none =>
      rw [runAccesses_cons_ordinary hreg, runAccesses_nil] at hstore
      rw [if_neg (by simp), atSample_congr i (engine_bind_ok hstore)]
      exact ih hrest (Nat.le_of_succ_le_succ hlen) (answers_right h hstore)
    | some kind =>
      cases kind
      · rw [runAccesses_cons_busError hreg] at hstore
        rw [if_pos rfl, atSample_trap (engine_bind_error hstore)]
        exact .fault _ _ _ _ _
      · rw [hstore, runAccesses_cons_sideEffect hreg] at hans
        cases hans

/-- What the engine does with one channel's samples (R156, R157). -/
def laneStep (u : UnitId) (i : Nat) (l : Lane) (xs : List F32) : Engine Unit := do
  let ys ← process1Hook u l.ch.toNat xs
  storeSamples i l.outs ys

/-- A channel a batched command may process, its buffers as many as the unit asks for and legal. -/
structure LaneReady (u : UnitId) (n : Nat) (s : State) (l : Lane) : Prop where
  admits : admitted s u l.ch.toNat
  insCount : l.ins.length = sampleWidth u
  outsCount : l.outs.length = sampleWidth u
  insLegal : ∀ b ∈ l.ins, bufferLegal n b
  outsLegal : ∀ b ∈ l.outs, bufferLegal n b

theorem LaneReady.step {t : State} {l : Lane} (h : LaneReady u n s l) (k : BatchStep u s t) : LaneReady u n t l :=
  ⟨k.admits h.admits, h.insCount, h.outsCount, h.insLegal, h.outsLegal⟩

section
variable {l : Lane} {xs : List F32}

/-- A PROCESS1 of the host, whatever its window holds beside the samples, does what the hook does. -/
theorem cmdProcess1_withSamples (ha : admitted q u l.ch.toNat) (hxs : xs.length = sampleWidth u)
    (hf : ∀ v ∈ xs, isFinite v = true) (w : Window) :
    cmdProcess1 u l.ch { q with win := withSamples w xs } =
      match withWin (withSamples w xs) (process1Hook u l.ch.toNat xs q) with
      | .ok ys t => .ok () (t.setResults ys)
      | .error x t => .error x t := by
  have hargs : sampleArgs u (withSamples w xs) = xs := sampleArgs_withSamples w hxs
  have hrun := cmdProcess1_run (s := { q with win := withSamples w xs }) (u := u) (ch := l.ch) ha (by rwa [hargs])
  rwa [hargs, ignoresWindow_process1Hook] at hrun

theorem exec_hostProcess1_ok (ha : admitted q u l.ch.toNat) (hxs : xs.length = sampleWidth u)
    (hf : ∀ v ∈ xs, isFinite v = true) (w : Window) {ys : List F32} {p : State}
    (hrun : process1Hook u l.ch.toNat xs q = .ok ys p) :
    exec (process1Of u l.ch) { q with win := withSamples w xs } =
      .next (State.setResults { p with win := withSamples w xs } ys) := by
  have hcmd := cmdProcess1_withSamples ha hxs hf w
  rw [hrun] at hcmd
  exact (exec_process1Of u l.ch _).trans (runCommand_ok hcmd)

theorem exec_hostProcess1_trap (ha : admitted q u l.ch.toNat) (hxs : xs.length = sampleWidth u)
    (hf : ∀ v ∈ xs, isFinite v = true) (w : Window) {c : FaultCode} {a b : Word} {p : State}
    (hrun : process1Hook u l.ch.toNat xs q = .error (.trap c a b) p) :
    exec (process1Of u l.ch) { q with win := withSamples w xs } =
      .next (enterFault (encode (process1Of u l.ch)) c a b { p with win := withSamples w xs }) := by
  have hcmd := cmdProcess1_withSamples ha hxs hf w
  rw [hrun] at hcmd
  exact (exec_process1Of u l.ch _).trans (runCommand_trap hcmd)

theorem hostChannels_fault {t : State}
    (hx : exec (process1Of u l.ch) { s with win := withSamples s.win xs } = .next t)
    (hf : statusFault t.win.status = true) :
    hostChannels u i [(l, xs)] s = some (.fault t.win.status t.win.faultInfo0 i t) := by
  simp only [hostChannels, hx, if_pos hf]

theorem hostChannels_stores {t : State}
    (hx : exec (process1Of u l.ch) { s with win := withSamples s.win xs } = .next t)
    (hf : statusFault t.win.status = false) :
    hostChannels u i [(l, xs)] s = some (hostStores i l.outs [t.win.res0, t.win.res1] t) := by
  simp only [hostChannels, hx, hf]
  cases hostStores i l.outs [t.win.res0, t.win.res1] t <;> rfl

/-- One channel's sample, by the engine and by the host. -/
theorem laneStep_ends (hl : LaneReady u n q l) (hi : i < n) (hxs : xs.length = sampleWidth u)
    (hf : ∀ v ∈ xs, isFinite v = true) (hw : statusFault w.status = false)
    (h : Answers (fun _ _ => True) (laneStep u i l xs q)) :
    HostEnds (atSample i (laneStep u i l xs) q) (hostChannels u i [(l, xs)] { q with win := w }) := by
  have hhook := answers_left h
  cases hrun : process1Hook u l.ch.toNat xs q with
  | ok ys p =>
    have hlen : ys.length = sampleWidth u := process1Hook_length u l.ch.toNat xs q ys p hrun
    obtain ⟨w', zs, hres, hstatus, hzs⟩ := setResults_withWin p (withSamples w xs) hlen
    have hclear : statusFault w'.status = false := by rwa [hstatus, status_withSamples]
    have hexec := exec_hostProcess1_ok hl.admits hxs hf w hrun
    rw [hres] at hexec
    have hstores := storeSamples_ends (zs := zs) hi hl.outsLegal (by rw [hl.outsCount, hlen]) hclear
      (answers_right h hrun)
    rw [hostChannels_stores hexec hclear, hzs, laneStep, atSample_congr i (engine_bind_ok hrun)]
    exact hstores
  | error x p =>
    rw [hrun] at hhook
    cases hhook with
    | trap c a b =>
      have hexec := exec_hostProcess1_trap hl.admits hxs hf w hrun
      rw [hostChannels_fault hexec (statusFault_statusOf c), laneStep, atSample_trap (engine_bind_error hrun)]
      exact .fault c a i p _

end

/-! ### One sample of all channels -/

/-- A sample of some channels, by the engine and by the host: the loads, the test, the audio-rate update, then `rest`
and the host's channels, which end alike. -/
theorem sample_ends {α : Type} {lanes : List Lane} {load : Engine α} {flat : α → List F32} {rest : α → Engine Unit}
    {x : α} (hload : load q = runAccesses q.hw.regions (accessFrom q (laneLoads lanes i)) (.ok x q))
    (hflat : flat x = lanes.flatMap (laneSamples q i)) (hlife : (q.regs.get u).life = .ready)
    (hrest : (∀ v ∈ flat x, isFinite v = true) → Answers (fun _ _ => True) (rest x (updateAudio u q)) →
      HostEnds (atSample i (rest x) (updateAudio u q))
        (hostChannels u i (lanes.map fun l => (l, laneSamples q i l)) { updateAudio u q with win := w }))
    (h : Answers (fun _ _ => True)
      ((load >>= fun x => requireFinite (flat x) >>= fun _ => modify (updateAudio u) >>= fun _ => rest x) q)) :
    HostEnds (atSample i
        (load >>= fun x => requireFinite (flat x) >>= fun _ => modify (updateAudio u) >>= fun _ => rest x) q)
      (hostSample u lanes i { q with win := w }) := by
  have hloads := answers_left h
  rw [hload] at hloads
  have hsamples : (lanes.flatMap (laneSamples { q with win := w } i)) = flat x := hflat.symm
  rw [hostSample]
  rcases runAccesses_firstFailing hloads with ⟨hnone, hall⟩ | ⟨a, hsome, hstop⟩
  · rw [show firstFailing { q with win := w } (laneLoads lanes i) = none from hnone, hsamples]
    have htest := requireFinite_run (flat x) q
    rw [runAccesses_ordinary (accessFrom_ordinary.2 hall)] at hload
    have h := answers_right h hload
    rw [atSample_congr i (engine_bind_ok hload)]
    cases hfind : (flat x).find? fun v => !isFinite v with
    | some v =>
      rw [hfind] at htest
      rw [atSample_trap (engine_bind_error htest)]
      exact .fault _ _ _ _ _
    | none =>
      rw [hfind] at htest
      have hfin : ∀ v ∈ flat x, isFinite v = true := fun v hv => by simpa using List.find?_eq_none.1 hfind v hv
      have haudio := exec_updateAudio (s := { q with win := w }) (u := u) hlife
      dsimp only
      rw [haudio, atSample_congr i (engine_bind_ok htest), atSample_congr i (engine_bind_modify _ _ _)]
      exact hrest hfin (answers_right h htest)
  · rw [show firstFailing { q with win := w } (laneLoads lanes i) = some a from hsome]
    rw [hstop] at hload
    rw [atSample_trap (engine_bind_error hload)]
    exact .fault _ _ _ _ _

/-! ### What a sample keeps -/

theorem channelRel_batchStep (u : UnitId) : ChannelRel (BatchStep u) where
  refl := .refl
  trans _ _ _ := .trans
  onePole s ch st := (channelRel_hookStep.onePole s ch st).batchStep
  mm1 s v ch st := (channelRel_hookStep.mm1 s v ch st).batchStep
  mm2 s v ch st := (channelRel_hookStep.mm2 s v ch st).batchStep
  reverb s ch f hf := (channelRel_hookStep.reverb s ch f hf).batchStep
  line s l x h4 hr := (channelRel_hookStep.line s l x h4 hr).batchStep

theorem batchStep_storeSamples (bs : List Word) (ys : List F32) :
    Engine.Keeps (BatchStep u) (storeSamples i bs ys) :=
  keeps_storeSamples .refl (fun _ _ _ => .trans) (fun _ _ s y _ hr => batchStep_store s y hr) ys

theorem batchStep_laneStep (l : Lane) (xs : List F32) : Engine.Keeps (BatchStep u) (laneStep u i l xs) :=
  keeps_bind (fun _ _ _ => .trans) (keeps_process1Hook (channelRel_batchStep u) u _ xs) fun ys =>
    batchStep_storeSamples l.outs ys

theorem batchStep_processSample (ch : Nat) (ins outs : List Word) :
    Engine.Keeps (BatchStep u) (processSample u ch ins outs i) :=
  keeps_processSample (channelRel_batchStep u) (batchStep_updateAudio u) fun _ _ s y _ hr => batchStep_store s y hr

theorem batchStep_multiSample (m : Nat) (pin pout : List (List Word)) :
    Engine.Keeps (BatchStep u) (multiSample u m pin pout i) :=
  have hrel := channelRel_batchStep u
  keeps_bind hrel.trans (keeps_of_same .refl (loadChannels_same pin i 0 m)) fun _ =>
    keeps_bind hrel.trans (keeps_requireFinite .refl _) fun _ =>
      keeps_bind hrel.trans (keeps_modify (batchStep_updateAudio u)) fun _ =>
        keeps_processChannels hrel fun _ _ _ _ _ s y _ hr => batchStep_store s y hr

/-! ### The samples of PROCESS and of PROCESS_MULTI -/

theorem length_laneSamples (q : State) (i : Nat) (l : Lane) : (laneSamples q i l).length = l.ins.length := by
  rw [laneSamples, List.length_map]

/-- Sample `i` of PROCESS, by the engine and by the host. -/
theorem processSample_ends {l : Lane} (hl : LaneReady u n q l) (hi : i < n) (hw : statusFault w.status = false)
    (h : Answers (fun _ _ => True) (processSample u l.ch.toNat l.ins l.outs i q)) :
    HostEnds (atSample i (processSample u l.ch.toNat l.ins l.outs i) q) (hostSample u [l] i { q with win := w }) := by
  have hload := loadSamples_run hi hl.insLegal q
  refine sample_ends (flat := id) (rest := laneStep u i l) (x := laneSamples q i l) ?_ ?_ hl.admits.1
    (fun hf hrest => ?_) h
  · rw [laneLoads, List.flatMap_cons, List.flatMap_nil, List.append_nil]
    exact hload
  · rw [List.flatMap_cons, List.flatMap_nil, List.append_nil]
    rfl
  · exact laneStep_ends (hl.step (batchStep_updateAudio u q)) hi (by rw [length_laneSamples, hl.insCount]) hf hw hrest

/-- The words of sample `i` of consecutive channels, as they stand in memory. -/
theorem loadChannels_values (hi : i < n) {pin : List (List Word)} (c k : Nat)
    (h : ∀ d, c ≤ d → d < c + k → ∀ b ∈ channelBuffers pin d, bufferLegal n b) (s : State) :
    loadChannels pin i c k s = runAccesses s.hw.regions
      (accessFrom s ((List.range' c k).flatMap fun d => (channelBuffers pin d).map fun b => b.toNat + 4 * i))
      (.ok ((List.range' c k).map fun d => (channelBuffers pin d).map fun b => readWord s.mem (b.toNat + 4 * i)) s) := by
  induction k generalizing c with
  | zero => rfl
  | succ k ih =>
    rw [List.range'_succ, List.flatMap_cons, accessFrom_append]
    exact runAccesses_bind_run (loadSamples_run hi (h c (le_refl c) (by omega)) s)
      (runAccesses_bind (ih (c + 1) fun d h1 h2 => h d (by omega) (by omega)) _)

/-- The lanes of consecutive channels, with the buffers of some tables. -/
def tableLane (pin pout : List (List Word)) (c : Nat) : Lane :=
  ⟨BitVec.ofNat 6 c, channelBuffers pin c, channelBuffers pout c⟩

/-- The channels of one sample of PROCESS_MULTI, by the engine and by the host. -/
theorem processChannels_ends {pin pout : List (List Word)} {vals : Nat → List F32} {c k : Nat} (hi : i < n)
    (h64 : c + k ≤ 64) (hl : ∀ d, c ≤ d → d < c + k → LaneReady u n q (tableLane pin pout d))
    (hvals : ∀ d, c ≤ d → d < c + k → (vals d).length = sampleWidth u ∧ ∀ v ∈ vals d, isFinite v = true)
    (hw : statusFault w.status = false)
    (h : Answers (fun _ _ => True) (processChannels u pout i c ((List.range' c k).map vals) q)) :
    HostEnds (atSample i (processChannels u pout i c ((List.range' c k).map vals)) q)
      (hostChannels u i ((List.range' c k).map fun d => (tableLane pin pout d, vals d)) { q with win := w }) := by
  induction k generalizing c q w with
  | zero => exact .done q w hw
  | succ k ih =>
    have hch : (tableLane pin pout c).ch.toNat = c := Nat.mod_eq_of_lt (show c < 2 ^ 6 by omega)
    have hsplit : processChannels u pout i c (vals c :: (List.range' (c + 1) k).map vals) =
        (laneStep u i (tableLane pin pout c) (vals c) >>= fun _ =>
          processChannels u pout i (c + 1) ((List.range' (c + 1) k).map vals)) := by
      rw [laneStep, hch, bind_assoc]
      rfl
    obtain ⟨hlen, hf⟩ := hvals c (le_refl c) (by omega)
    rw [List.range'_succ, List.map_cons, hsplit] at h
    rw [List.range'_succ, List.map_cons, List.map_cons, hsplit, atSample_bind, hostChannels_cons]
    refine (laneStep_ends (hl c (le_refl c) (by omega)) hi hlen hf hw (answers_left h)).bind fun q' w' hok hw' => ?_
    have hstep := atSample_eq_ok.1 hok
    have kept : BatchStep u q q' := keeps_ok (batchStep_laneStep _ _) hstep
    exact ih (by omega) (fun d h1 h2 => (hl d (by omega) (by omega)).step kept)
      (fun d h1 h2 => hvals d (by omega) (by omega)) hw' (answers_right h hstep)

/-- Sample `i` of PROCESS_MULTI, by the engine and by the host. -/
theorem multiSample_ends {pin pout : List (List Word)} {m : Nat} (hi : i < n) (h64 : m ≤ 64)
    (hlife : (q.regs.get u).life = .ready) (hl : ∀ d, d < m → LaneReady u n q (tableLane pin pout d))
    (hw : statusFault w.status = false) (h : Answers (fun _ _ => True) (multiSample u m pin pout i q)) :
    HostEnds (atSample i (multiSample u m pin pout i) q)
      (hostSample u ((List.range m).map (tableLane pin pout)) i { q with win := w }) := by
  have hload := loadChannels_values hi (pin := pin) 0 m (fun d _ hd => (hl d (by omega)).insLegal) q
  refine sample_ends (flat := List.flatten) (rest := processChannels u pout i 0)
    (x := (List.range' 0 m).map fun d => laneSamples q i (tableLane pin pout d)) ?_ ?_ hlife (fun hf hrest => ?_) h
  · rw [laneLoads, List.flatMap_map, List.range_eq_range']
    exact hload
  · rw [List.flatMap_map, List.range_eq_range', List.flatMap_def]
  · rw [List.map_map, List.range_eq_range']
    refine processChannels_ends hi (by omega) (fun d _ hd => (hl d (by omega)).step (batchStep_updateAudio u q))
      (fun d _ hd => ⟨?_, fun v hv => hf v ?_⟩) hw hrest
    · rw [length_laneSamples, (hl d (by omega)).insCount]
    · exact List.mem_flatten.2 ⟨_, List.mem_map_of_mem (List.mem_range'_1.2 ⟨Nat.zero_le d, hd⟩), hv⟩

/-! ### The loops -/

/-- Loops whose samples end alike end alike. -/
theorem hostLoop_ends {body : Nat → Engine Unit} {lanes : List Lane} {k : Nat}
    (hkeeps : ∀ j, Engine.Keeps (BatchStep u) (body j))
    (hsample : ∀ j q w, j < n → BatchStep u s q → statusFault w.status = false →
      Answers (fun _ _ => True) (body j q) → HostEnds (atSample j (body j) q) (hostSample u lanes j { q with win := w }))
    (hk : i + k ≤ n) (hq : BatchStep u s q) (hw : statusFault w.status = false)
    (h : Answers (fun _ _ => True) (forSamples body i k q)) :
    HostEnds (forSamples body i k q) (hostLoop u lanes i k { q with win := w }) := by
  induction k generalizing i q w with
  | zero => exact .done q w hw
  | succ k ih =>
    rw [hostLoop_succ]
    refine (hsample i q w (by omega) hq hw (answers_of_atSample (answers_left h))).bind fun q' w' hok hw' => ?_
    exact ih (by omega) (hq.trans (keeps_ok (hkeeps i) (atSample_eq_ok.1 hok))) hw' (answers_right h hok)

/-- A command that comes to a loop of samples ends as the host's loop does, its window restored but for a fault's
entry. -/
theorem finish_of_ends {cmd : Instr} {e : Engine Unit} {t : State} {o : Option LoopEnd}
    (hends : HostEnds (e s) o) (hwin : (endState (e s)).win = w) (hx : runCommand cmd e s = .next t) :
    ∃ z, o = some z ∧ t = z.finish w (encode cmd) := by
  rw [runCommand] at hx
  generalize hr : e s = r at hends hwin hx
  cases hends with
  | done q w' hw =>
    refine ⟨_, rfl, ?_⟩
    subst hwin
    exact (Host.Outcome.next.inj hx).symm
  | fault c a i q w' =>
    refine ⟨_, rfl, ?_⟩
    subst hwin
    exact (Host.Outcome.next.inj hx).symm

/-- A batched command of a READY unit that comes to a loop of samples, each of which ends as the host's does. -/
theorem hostLoop_of_run {cmd : Instr} {e : Engine Unit} {body : Nat → Engine Unit} {lanes : List Lane} {t : State}
    (hlife : (s.regs.get u).life = .ready) (hclear : statusFault s.win.status = false)
    (hrun : e s = forSamples body 0 n (updateCtrl u s)) (hkeeps : ∀ j, Engine.Keeps (BatchStep u) (body j))
    (hsample : ∀ j q w, j < n → BatchStep u (updateCtrl u s) q → statusFault w.status = false →
      Answers (fun _ _ => True) (body j q) → HostEnds (atSample j (body j) q) (hostSample u lanes j { q with win := w }))
    (hx : runCommand cmd e s = .next t) :
    ∃ s1 z, exec (updateCtrlOf u) s = .next s1 ∧ hostLoop u lanes 0 n s1 = some z ∧
      t = z.finish s.win (encode cmd) := by
  have hans := answers_of_next hx
  have hends := hostLoop_ends (w := s.win) hkeeps hsample (by omega) (.refl _) hclear (hrun ▸ hans)
  have hkept : BatchStep u (updateCtrl u s) (endState (forSamples body 0 n (updateCtrl u s))) :=
    keeps_iff.1 (keeps_forSamples .refl (fun _ _ _ => .trans) fun j _ _ => hkeeps j) _
  rw [← hrun] at hends hkept
  obtain ⟨z, hz, ht⟩ := finish_of_ends hends hkept.win hx
  exact ⟨updateCtrl u s, z, exec_updateCtrl hlife, hz, ht⟩

theorem LaneReady.updateCtrl {l : Lane} (h : LaneReady u n s l) : LaneReady u n (updateCtrl u s) l :=
  ⟨admitted_updateCtrl h.admits, h.insCount, h.outsCount, h.insLegal, h.outsLegal⟩

/-- The lanes of a PROCESS_MULTI are the tables' entries, channel by channel (R157). -/
theorem multiLanes_eq (u : UnitId) (s : State) : multiLanes u s = (List.range (multiM u s.win).toNat).map
    (tableLane (operandTables u s (inArgs u s.win)) (operandTables u s (outArgs u s.win))) := by
  refine List.map_congr_left fun c hc => ?_
  have hc := List.mem_range.1 hc
  rw [tableLane, channelBuffers_operandTables u s _ hc, channelBuffers_operandTables u s _ hc]

theorem multiLane_ready {d : Nat} (hp : MultiPasses u s) (h64 : s.hw.nCh ≤ 64) (hd : d < (multiM u s.win).toNat) :
    LaneReady u (multiN u s.win) s
      (tableLane (operandTables u s (inArgs u s.win)) (operandTables u s (outArgs u s.win)) d) := by
  obtain ⟨-, hm, hch⟩ := hp.admitted
  have hnum : (BitVec.ofNat 6 d).toNat = d := Nat.mod_eq_of_lt (show d < 2 ^ 6 by omega)
  refine ⟨?_, ?_, ?_, channelBuffers_legal hp.pointers hd (List.subset_append_left _ _),
    channelBuffers_legal hp.pointers hd (List.subset_append_right _ _)⟩
  · exact hnum.symm ▸ hch d hd
  · show (channelBuffers (operandTables u s (inArgs u s.win)) d).length = _
    rw [channelBuffers_operandTables u s _ hd, List.length_map, length_inArgs]
  · show (channelBuffers (operandTables u s (outArgs u s.win)) d).length = _
    rw [channelBuffers_operandTables u s _ hd, List.length_map, length_outArgs]

/-- A PROCESS_MULTI whose operands pass and that answers has read its tables. -/
theorem multiPasses_of_next {cmd : Instr} {t : State} (ha : multiAdmitted s u) (hop : multiOperands s u)
    (hx : runCommand cmd (cmdProcessMulti u) s = .next t) : MultiPasses u s := by
  obtain ⟨hT, hreads, hpointers⟩ := hop
  have hans := answers_of_next hx
  rw [cmdProcessMulti_run ha hT] at hans
  rcases runAccesses_firstFailing hans with ⟨-, ho⟩ | ⟨a, hsome, -⟩
  · exact ⟨ha, hT, ho, hpointers⟩
  · exact absurd (by simpa using List.find?_some hsome) (hreads a (List.mem_of_find?_eq_some hsome))

theorem life_updateCtrl (u : UnitId) (s : State) : ((updateCtrl u s).regs.get u).life = (s.regs.get u).life := by
  show UnitRegs.life ((s.regs.set u _).get u) = _
  rw [PerUnit.get_set_self]

/-- Settles O45: the engine's loop and the host's, sample by sample. -/
theorem processIsTheHostLoop : Obligations.ProcessIsTheHostLoop := by
  refine ⟨fun u s t ch hclear ha hb hx => ?_, fun u s t h64 hclear ha hop hx => ?_⟩
  · rw [exec_processOf] at hx
    obtain ⟨hins, houts⟩ := List.forall_mem_append.1 hb
    have hlane : LaneReady u (processN u s.win) s (processLane u ch s.win) :=
      ⟨ha, length_inArgs u s.win, length_outArgs u s.win, hins, houts⟩
    exact hostLoop_of_run ha.1 hclear (cmdProcess_run ha hb) (fun _ => batchStep_processSample _ _ _)
      (fun j q w hj k hw h => processSample_ends (hlane.updateCtrl.step k) hj hw h) hx
  · rw [exec_processMultiOf] at hx
    obtain ⟨hlife, hm, -⟩ := id ha
    have hp := multiPasses_of_next ha hop hx
    rw [multiLanes_eq]
    exact hostLoop_of_run hlife hclear hp.run (fun _ => batchStep_multiSample _ _ _)
      (fun j q w hj k hw h => multiSample_ends hj (hm.trans h64) (by rw [k.regs, life_updateCtrl, hlife])
        (fun d hd => (multiLane_ready hp h64 hd).updateCtrl.step k) hw h) hx

end Sys2Proof.Machine
end

-- ==== Proofs: the one-pole smoother ====
section
/-! PROOFS. ONEPOLE (41_one_pole.md): its derived registers, its samples in all six variants, the two multipliers at
which a sample is copied bit for bit, and its setters. -/

namespace Sys2Proof.Machine
open Sys2Proof.Config

variable {s t : State} {u : UnitId} {ch : BitVec 6} {ys : List F32}

/-! ### UPDATE_CTRL (R204, R205) -/

/-- Where the hook has nothing to do for a mask of 0, UPDATE_CTRL is the hook for the mask there is, and the mask
cleared. -/
theorem updateCtrl_eq_hook (h : updateCtrlHook u (s.regs.get u).fs 0 s.coefs = s.coefs) : updateCtrl u s =
    { s with coefs := updateCtrlHook u (s.regs.get u).fs (s.regs.get u).dirty s.coefs }.clearDirty u := by
  unfold updateCtrl
  split
  next h0 => rw [h0, h]
  next => rfl

theorem onePoleUpdate_clean (c : OnePoleCoefs) : onePoleUpdate 0 c = c := by
  simp [onePoleUpdate, dirtyBit]

/-- Settles O25: the hook recomputes a register where its bit is set, and with no bit set it has nothing to do. -/
theorem updateCtrlOfOnePole : Obligations.UpdateCtrlOfOnePole := by
  intro s hl
  have hclean : updateCtrlHook .onepole (s.regs.get .onepole).fs 0 s.coefs = s.coefs := by
    rw [updateCtrlHook, onePoleUpdate_clean]
  have hx := exec_updateCtrl (u := .onepole) hl
  rw [updateCtrl_eq_hook hclean] at hx
  exact hx

/-! ### A sample of a unit without memory (40_protocol.md R145, R148) -/

theorem list_set_getD_self {α : Type} (l : List α) (i : Nat) (d : α) : l.set i (l.getD i d) = l := by
  rcases Nat.lt_or_ge i l.length with h | h
  · rw [List.getD_eq_getElem _ _ h, List.set_getElem_self]
  · exact List.set_eq_of_length_le h

/-- Writing back the flag a channel has changes nothing, whether the block has the channel or not. -/
theorem setStValid_stValid (s : State) (u : UnitId) (ch : Nat) : s.setStValid u ch (s.stValid u ch) = s := by
  rw [State.setStValid, State.stValid, list_set_getD_self, PerUnit.set_get_self]

/-- RESET_STATE of a unit without memory: the hook's outcome from the state as it is, the channel valid and the outputs
in RES. -/
theorem exec_resetState_of_hook (hm : hasMemory u = false) (hc : ch.toNat < s.hw.nCh)
    (hl : (s.regs.get u).life = .ready) (hf : ∀ v ∈ sampleArgs u s.win, isFinite v = true)
    (hhook : resetStateHook u ch.toNat (sampleArgs u s.win) s = .ok ys t) :
    exec (resetStateOf u ch) s = .next ((t.setStValid u ch.toNat true).setResults ys) := by
  have hstart : s.beforeSeed u ch.toNat = s := by
    rw [State.beforeSeed, hm]
    simp only [Bool.not_false, Bool.and_true, setStValid_stValid]
  rw [exec_resetStateOf, runCommand_ok]
  rw [cmdResetState_run u ch s hc hl (by simp [hm]) hf, hstart, hhook]

/-- PROCESS1 of an admitted channel and finite samples: the hook's outcome, the outputs in RES. -/
theorem exec_process1_of_hook (ha : admitted s u ch.toNat) (hf : ∀ v ∈ sampleArgs u s.win, isFinite v = true)
    (hhook : process1Hook u ch.toNat (sampleArgs u s.win) s = .ok ys t) :
    exec (process1Of u ch) s = .next (t.setResults ys) := by
  rw [exec_process1Of, runCommand_ok]
  rw [cmdProcess1_run u ch s ha hf, hhook]

/-! ### The samples (R210, R213, R214) -/

theorem onePoleMul_eq (c : OnePoleCoefs) (yp x : F32) :
    onePoleMul c yp x = if fNe c.aUp c.aDown = true ∧ fLe yp x = false then c.aDown else c.aUp := by
  simp only [onePoleMul, onePoleAsym, Bool.and_eq_true, Bool.not_eq_true']

/-- R214 with its snap written out: to the input, when sticky, off the exact hold and near enough. -/
theorem onePoleStep_eq (c : OnePoleCoefs) (yp x : F32) :
    onePoleStep c yp x =
      if onePoleSticky c = true ∧ fNe (onePoleMul c yp x) f1 = true ∧
          onePoleSnap c (fSub (op1 (onePoleMul c yp x) yp x) x) x = true
        then x else op1 (onePoleMul c yp x) yp x := by
  simp only [onePoleStep, Bool.and_eq_true, and_assoc]

/-- PROCESS1 of an admitted channel, by the output `y` of R214's recurrence. -/
theorem exec_process1Onepole (ha : admitted s .onepole ch.toNat) (hf : isFinite s.win.arg0 = true) {y : F32}
    (hy : onePoleStep s.coefs.onepole (s.chans.onepole.getD ch.toNat {}).yZ1 s.win.arg0 = y) :
    exec (.process1Onepole ch) s = .next { s with
      win := { s.win with res0 := y }
      chans := { s.chans with onepole := s.chans.onepole.set ch.toNat { yZ1 := y } } } := by
  subst hy
  exact exec_process1_of_hook (u := .onepole) ha (sampleArgs_finite _ _ hf nofun) rfl

/-- Settles O31: RESET_STATE's hook seeds the channel with the sample, PROCESS1's is R214. -/
theorem onePoleSamples : Obligations.OnePoleSamples := by
  intro s ch hf hc hl
  refine ⟨?_, fun hv => ?_⟩
  · exact exec_resetState_of_hook (u := .onepole) rfl hc hl (sampleArgs_finite _ _ hf nofun) rfl
  · refine exec_process1Onepole ⟨hl, hc, nofun, hv⟩ hf ?_
    rw [onePoleStep_eq, onePoleMul_eq]
    rfl

/-! ### The exact hold and the exact pass (R215) -/

/-- Both multipliers alike, R214 has no choice to make. -/
theorem onePoleMul_of_same {c : OnePoleCoefs} {a : F32} (hu : c.aUp = a) (hd : c.aDown = a) (yp x : F32) :
    onePoleMul c yp x = a := by
  rw [onePoleMul, hu, hd, ite_self]

theorem onePoleStep_of_hold {c : OnePoleCoefs} {yp x : F32} (h : onePoleMul c yp x = f1) : onePoleStep c yp x = yp := by
  have hne : fNe f1 f1 = false := by decide
  have hop : op1 f1 yp x = yp := if_pos (by decide)
  rw [onePoleStep_eq, h, hne, hop, if_neg (by simp)]

theorem onePoleStep_of_pass {c : OnePoleCoefs} {yp x : F32} (h : onePoleMul c yp x = f0) : onePoleStep c yp x = x := by
  have hop : op1 f0 yp x = x := (if_neg (by decide)).trans (if_pos (by decide))
  rw [onePoleStep_eq, h, hop, ite_self]

/-- Settles O32: at 1 the snap is off and the recurrence holds; at 0 the recurrence gives the input, as a snap would. -/
theorem onePoleHoldsAndPasses : Obligations.OnePoleHoldsAndPasses := fun _ _ hf ha =>
  ⟨fun hup hdown => exec_process1Onepole ha hf (onePoleStep_of_hold (onePoleMul_of_same hup hdown _ _)),
    fun hup hdown => exec_process1Onepole ha hf (onePoleStep_of_pass (onePoleMul_of_same hup hdown _ _))⟩

/-! ### The setters (R220 to R227) -/

/-- Settles O51: each setter checks its legal set; those of a time constant write its cutoff. -/
theorem settersOfOnePole : Obligations.SettersOfOnePole := by
  refine ⟨?cutoff, ?cutoffUp, ?cutoffDown, ?tau, ?tauUp, ?tauDown, ?stickyThresh, ?stickyMode⟩
  case cutoff | cutoffUp | cutoffDown =>
    exact setterRule_of rfl (fun _ => rfl) okCutoff_iff fun _ _ _ => rfl
  case tau | tauUp | tauDown =>
    refine setterRule_of rfl (fun _ => rfl) okCutoff_iff fun _ _ ht => ?_
    simp only [tauCutoff_eq ht]
  case stickyThresh => exact setterRule_of rfl (fun _ => rfl) okNonneg_iff fun _ _ _ => rfl
  case stickyMode => exact setterRule_of rfl (fun _ => rfl) okFlag_iff fun _ _ _ => rfl

end Sys2Proof.Machine
end

-- ==== Proofs: the multi-mode filter cores ====
section
/-! PROOFS. MM1 and MM2 (42_svf.md): their derived registers, the seed and the step of a channel, and their setters. -/

namespace Sys2Proof.Machine
open Sys2Proof.Config

variable {s : State} {u : UnitId} {ch : BitVec 6}

/-! ### UPDATE_CTRL (R245 to R248, R265) -/

/-- UPDATE_CTRL of a READY unit whose hook has nothing to do for a mask of 0: the hook, and the mask cleared. -/
theorem exec_updateCtrl_of_hook (hl : (s.regs.get u).life = .ready)
    (hclean : updateCtrlHook u (s.regs.get u).fs 0 s.coefs = s.coefs) :
    exec (updateCtrlOf u) s = .next
      ({ s with coefs := updateCtrlHook u (s.regs.get u).fs (s.regs.get u).dirty s.coefs }.clearDirty u) := by
  rw [exec_updateCtrl hl, updateCtrl_eq_hook hclean]

theorem mm1Update_clean (b : Mm1Bank) : mm1Update 0 b = b := by simp [mm1Update, dirtyBit]

theorem mm2Update_clean (b : Mm2Bank) : mm2Update 0 b = b := by simp [mm2Update, dirtyBit]

/-- R265 by the bits of the mask: the bits that recompute G1 recompute the G it is made from. -/
theorem mm1Update_eq (m : Word) (b : Mm1Bank) :
    let g := svfGain b.kPi b.cutoff b.prewarpAtCutoff b.prewarpFreq
    mm1Update m b = { b with
      g := if m.getLsbD 0 ∨ m.getLsbD 1 then g else b.g
      g1 := if m.getLsbD 0 ∨ m.getLsbD 1 then fDiv g (fAdd f1 g) else b.g1
      cxAct := if m.getLsbD 2 then b.coeffX else b.cxAct
      clpAct := if m.getLsbD 2 then b.coeffLp else b.clpAct } := by
  simp only [mm1Update, dirtyBit, Bool.or_eq_true]
  split <;> rfl

/-- R248 by the bits of the mask: GK and HP_D are recomputed where G or K is. The conditions are the hook's, decided
another way. -/
theorem mm2Update_eq (m : Word) (b : Mm2Bank) :
    let g := if m.getLsbD 0 ∨ m.getLsbD 2 then svfGain b.kPi b.cutoff b.prewarpAtCutoff b.prewarpFreq else b.g
    let k := if m.getLsbD 1 then dampingOf b.q else b.k
    let gk := if m.getLsbD 0 ∨ m.getLsbD 1 ∨ m.getLsbD 2 then fAdd g k else b.gk
    mm2Update m b = { b with
      g := g, k := k, gk := gk
      hpD := if m.getLsbD 0 ∨ m.getLsbD 1 ∨ m.getLsbD 2 then fDiv f1 (fAdd f1 (fMul g gk)) else b.hpD
      cxAct := if m.getLsbD 3 then b.coeffX else b.cxAct
      clpAct := if m.getLsbD 3 then b.coeffLp else b.clpAct
      cbpAct := if m.getLsbD 3 then b.coeffBp else b.cbpAct
      chpAct := if m.getLsbD 3 then b.coeffHp else b.chpAct } := by
  simp only [mm2Update, dirtyBit, Bool.or_eq_true, or_assoc]
  congr!

/-- Settles O26: either hook by the bits of its mask, and with no bit set it has nothing to do. -/
theorem updateCtrlOfMultiMode : Obligations.UpdateCtrlOfMultiMode := by
  refine ⟨fun s hl => ?mm1, fun s hl => ?mm2⟩
  case mm1 =>
    have hx := exec_updateCtrl_of_hook (u := .mm1) hl (by rw [updateCtrlHook, mm1Update_clean])
    rw [updateCtrlHook, mm1Update_eq] at hx
    exact hx
  case mm2 =>
    have hx := exec_updateCtrl_of_hook (u := .mm2) hl (by rw [updateCtrlHook, mm2Update_clean])
    rw [updateCtrlHook, mm2Update_eq] at hx
    exact hx

/-! ### The samples (R250, R251, R267, R268) -/

/-- RESET_STATE of MM1 seeds the channel and answers as R267 does. -/
theorem exec_resetStateMm1 (hf : isFinite s.win.arg0 = true) (hc : ch.toNat < s.hw.nCh)
    (hl : s.regs.mm1.life = .ready) :
    exec (.resetStateMm1 ch) s = .next { s with
      win := { s.win with res0 := (mm1Reset s.coefs.mm1 s.win.arg0).1 }
      valid := { s.valid with mm1 := s.valid.mm1.set ch.toNat true }
      chans := { s.chans with mm1 := s.chans.mm1.set ch.toNat (mm1Reset s.coefs.mm1 s.win.arg0).2 } } :=
  exec_resetState_of_hook (u := .mm1) rfl hc hl (sampleArgs_finite _ _ hf nofun) rfl

/-- PROCESS1 of MM1 on an admitted channel is R268's step of that channel. -/
theorem exec_process1Mm1 (hf : isFinite s.win.arg0 = true) (ha : admitted s .mm1 ch.toNat) :
    let r := mm1Step s.coefs.mm1 (s.chans.mm1.getD ch.toNat {}) s.win.arg0
    exec (.process1Mm1 ch) s = .next { s with
      win := { s.win with res0 := r.1 }
      chans := { s.chans with mm1 := s.chans.mm1.set ch.toNat r.2 } } :=
  exec_process1_of_hook (u := .mm1) ha (sampleArgs_finite _ _ hf nofun) rfl

/-- RESET_STATE of MM2 seeds the channel and answers as R250 does. -/
theorem exec_resetStateMm2 (hf : isFinite s.win.arg0 = true) (hc : ch.toNat < s.hw.nCh)
    (hl : s.regs.mm2.life = .ready) :
    exec (.resetStateMm2 ch) s = .next { s with
      win := { s.win with res0 := (mm2Reset s.coefs.mm2 s.win.arg0).1 }
      valid := { s.valid with mm2 := s.valid.mm2.set ch.toNat true }
      chans := { s.chans with mm2 := s.chans.mm2.set ch.toNat (mm2Reset s.coefs.mm2 s.win.arg0).2 } } :=
  exec_resetState_of_hook (u := .mm2) rfl hc hl (sampleArgs_finite _ _ hf nofun) rfl

/-- PROCESS1 of MM2 on an admitted channel is R251's step of that channel. -/
theorem exec_process1Mm2 (hf : isFinite s.win.arg0 = true) (ha : admitted s .mm2 ch.toNat) :
    let r := mm2Step s.coefs.mm2 (s.chans.mm2.getD ch.toNat {}) s.win.arg0
    exec (.process1Mm2 ch) s = .next { s with
      win := { s.win with res0 := r.1 }
      chans := { s.chans with mm2 := s.chans.mm2.set ch.toNat r.2 } } :=
  exec_process1_of_hook (u := .mm2) ha (sampleArgs_finite _ _ hf nofun) rfl

/-- Settles O33: the four commands are the cores' seeds and steps, whose formulas are the rules'. -/
theorem multiModeSamples : Obligations.MultiModeSamples := fun _ _ hf hc =>
  ⟨fun hl => ⟨exec_resetStateMm1 hf hc hl, fun hv => exec_process1Mm1 hf ⟨hl, hc, nofun, hv⟩⟩,
    fun hl => ⟨exec_resetStateMm2 hf hc hl, fun hv => exec_process1Mm2 hf ⟨hl, hc, nofun, hv⟩⟩⟩

/-! ### The setters (R252 to R259, R269 to R273) -/

/-- Settles O52: each setter writes the one register it names, by its legal set. -/
theorem settersOfMultiMode : Obligations.SettersOfMultiMode := by
  refine ⟨?cutoff1, ?prewarpAtCutoff1, ?prewarpFreq1, ?coeffX1, ?coeffLp1, ?cutoff2, ?q2, ?prewarpAtCutoff2,
    ?prewarpFreq2, ?coeffX2, ?coeffLp2, ?coeffBp2, ?coeffHp2⟩
  case cutoff1 | cutoff2 => exact setterRule_of rfl (fun _ => rfl) okNonneg_iff fun _ _ _ => rfl
  case prewarpAtCutoff1 | prewarpAtCutoff2 => exact setterRule_of rfl (fun _ => rfl) okFlag_iff fun _ _ _ => rfl
  case prewarpFreq1 | prewarpFreq2 => exact setterRule_of rfl (fun _ => rfl) okPositive_iff fun _ _ _ => rfl
  case coeffX1 | coeffLp1 | q2 | coeffX2 | coeffLp2 | coeffBp2 | coeffHp2 =>
    exact setterRule_of rfl (fun _ => rfl) okFinite_iff fun _ _ _ => rfl

end Sys2Proof.Machine
end

-- ==== Proofs: the derived filter stages ====
section
/-! PROOFS. HP1, LS1, LS2, AP2 and PEAK (43_eq.md): each is a translation into its inner MM1 or MM2 bank, and a sample of
it is the inner core's; and their setters. -/

namespace Sys2Proof.Machine
open Sys2Proof.Config

variable {s : State} {u : UnitId} {ch : BitVec 6}

/-! ### UPDATE_CTRL (R280, R284, R290, R298, R307, R314) -/

/-- UPDATE_CTRL of a READY unit with some DIRTY bit set: the hook, and the mask cleared. -/
theorem exec_updateCtrl_of_dirty (hl : (s.regs.get u).life = .ready) (hd : (s.regs.get u).dirty ≠ 0) :
    exec (updateCtrlOf u) s = .next
      ({ s with coefs := updateCtrlHook u (s.regs.get u).fs (s.regs.get u).dirty s.coefs }.clearDirty u) := by
  rw [exec_updateCtrl hl, updateCtrl, if_neg hd]

/-- UPDATE_CTRL of unit MM1 holding a bank with every DIRTY bit set is the refresh of that bank (R280). -/
theorem exec_updateCtrl_staleMm1 (s : State) (b : Mm1Bank) : exec .updateCtrlMm1 (staleMm1 s b) = .next
    ({ staleMm1 s b with coefs := { s.coefs with mm1 := mm1Refresh b } }.clearDirty .mm1) :=
  exec_updateCtrl_of_dirty (u := .mm1) rfl (by decide : 0b111#32 ≠ 0)

/-- UPDATE_CTRL of unit MM2 holding a bank with every DIRTY bit set is the refresh of that bank (R280). -/
theorem exec_updateCtrl_staleMm2 (s : State) (b : Mm2Bank) : exec .updateCtrlMm2 (staleMm2 s b) = .next
    ({ staleMm2 s b with coefs := { s.coefs with mm2 := mm2Refresh b } }.clearDirty .mm2) :=
  exec_updateCtrl_of_dirty (u := .mm2) rfl (by decide : 0b1111#32 ≠ 0)

/-- Settles O27: each unit's hook is its translation, which ends with the refresh of the inner bank for the parameters
it has written there. -/
theorem updateCtrlOfDerivedFilters : Obligations.UpdateCtrlOfDerivedFilters := by
  refine ⟨?hp1, ?ls1, ?ls2, ?ap2, ?peak⟩
  case hp1 => exact fun s hl hd =>
    ⟨_, _, exec_updateCtrl_of_dirty (u := .hp1) hl hd, exec_updateCtrl_staleMm1 s _, rfl⟩
  case ls1 => exact fun s hl hd =>
    ⟨_, _, exec_updateCtrl_of_dirty (u := .ls1) hl hd, exec_updateCtrl_staleMm1 s _, rfl⟩
  case ls2 => exact fun s hl hd =>
    ⟨_, _, exec_updateCtrl_of_dirty (u := .ls2) hl hd, exec_updateCtrl_staleMm2 s _, rfl⟩
  case ap2 => exact fun s hl hd =>
    ⟨_, _, exec_updateCtrl_of_dirty (u := .ap2) hl hd, exec_updateCtrl_staleMm2 s _, rfl⟩
  case peak => exact fun s hl hd =>
    ⟨_, _, exec_updateCtrl_of_dirty (u := .peak) hl hd, exec_updateCtrl_staleMm2 s _, rfl⟩

/-! ### The samples (R280, R285, R286, R291, R292, R299, R300, R308, R309, R315, R316) -/

/-- A channel of a derived unit, seen as a channel of unit MM1, is admitted as it is. -/
theorem admitted_asMm1 (b : Mm1Bank) (cs : List Mm1State) (hl : (s.regs.get u).life = .ready)
    (hc : ch.toNat < s.hw.nCh) (hv : s.stValid u ch.toNat = true) :
    admitted (asMm1 s u b cs) .mm1 ch.toNat :=
  ⟨hl, hc, nofun, hv⟩

/-- A channel of a derived unit, seen as a channel of unit MM2, is admitted as it is. -/
theorem admitted_asMm2 (b : Mm2Bank) (cs : List Mm2State) (hl : (s.regs.get u).life = .ready)
    (hc : ch.toNat < s.hw.nCh) (hv : s.stValid u ch.toNat = true) :
    admitted (asMm2 s u b cs) .mm2 ch.toNat :=
  ⟨hl, hc, nofun, hv⟩

/-- Settles O34: a derived unit's two hooks are its core's on the inner bank and the unit's own channels, so both
commands end with the same outputs and the same channels. The clause left of each case is the unit's own. -/
theorem derivedSamples : Obligations.DerivedSamples := by
  intro s ch hf hc
  have hfin (u : UnitId) (hu : u ≠ .reverb) := sampleArgs_finite u s.win hf fun h => absurd h hu
  simp only [List.forall_mem_cons, List.not_mem_nil, false_imp_iff, implies_true, and_true]
  refine ⟨⟨?hp1, ?ls1⟩, ?ls2, ?ap2, ?peak⟩
  case hp1 | ls1 =>
    refine fun hl => ⟨?reset, fun hv => ?sample⟩
    case reset =>
      refine ⟨_, _, exec_resetState_of_hook rfl hc hl (hfin _ nofun) rfl, exec_resetStateMm1 hf hc hl, rfl, rfl, ?_, ?_⟩
        <;> rintro ⟨⟩
      rfl
    case sample =>
      refine ⟨_, _, exec_process1_of_hook ⟨hl, hc, nofun, hv⟩ (hfin _ nofun) rfl,
        exec_process1Mm1 hf (admitted_asMm1 _ _ hl hc hv), rfl, ?_, ?_⟩ <;> rintro ⟨⟩
      rfl
  case ls2 | ap2 | peak =>
    refine fun hl => ⟨?reset, fun hv => ?sample⟩
    case reset =>
      refine ⟨_, _, exec_resetState_of_hook rfl hc hl (hfin _ nofun) rfl, exec_resetStateMm2 hf hc hl, rfl, rfl,
        ?_, ?_, ?_⟩ <;> rintro ⟨⟩
      rfl
    case sample =>
      refine ⟨_, _, exec_process1_of_hook ⟨hl, hc, nofun, hv⟩ (hfin _ nofun) rfl,
        exec_process1Mm2 hf (admitted_asMm2 _ _ hl hc hv), rfl, ?_, ?_, ?_⟩ <;> rintro ⟨⟩
      rfl

/-! ### The setters (R287 to R324) -/

/-- Settles O53: each setter writes the register it names, by its legal set; those of a gain also write GAIN_IS_DB. -/
theorem settersOfShelves : Obligations.SettersOfShelves := by
  refine ⟨?hp1Cutoff, ?hp1PrewarpAtCutoff, ?hp1PrewarpFreq,
    ?ls1Cutoff, ?ls1DcGainLin, ?ls1DcGainDb, ?ls1PrewarpAtCutoff, ?ls1PrewarpFreq,
    ?ls2Cutoff, ?ls2Q, ?ls2DcGainLin, ?ls2DcGainDb, ?ls2PrewarpAtCutoff, ?ls2PrewarpFreq⟩
  case hp1Cutoff => exact setterRule_of rfl (fun _ => rfl) okNonneg_iff fun _ _ _ => rfl
  case hp1PrewarpAtCutoff | ls1PrewarpAtCutoff | ls2PrewarpAtCutoff =>
    exact setterRule_of rfl (fun _ => rfl) okFlag_iff fun _ _ _ => rfl
  case hp1PrewarpFreq | ls1Cutoff | ls1DcGainLin | ls1PrewarpFreq | ls2Cutoff | ls2DcGainLin | ls2PrewarpFreq =>
    exact setterRule_of rfl (fun _ => rfl) okPositive_iff fun _ _ _ => rfl
  case ls1DcGainDb | ls2DcGainDb => exact setterRule_of rfl (fun _ => rfl) okDb_iff fun _ _ _ => rfl
  case ls2Q => exact setterRule_of rfl (fun _ => rfl) okFinite_iff fun _ _ _ => rfl

/-- Settles O54: each setter writes the register it names, by its legal set; those of a gain also write GAIN_IS_DB. -/
theorem settersOfAllpassAndPeak : Obligations.SettersOfAllpassAndPeak := by
  refine ⟨?ap2Cutoff, ?ap2Q, ?ap2PrewarpAtCutoff, ?ap2PrewarpFreq,
    ?peakCutoff, ?peakQ, ?peakGainLin, ?peakGainDb, ?bandwidth, ?useBandwidth, ?peakPrewarpAtCutoff, ?peakPrewarpFreq⟩
  case ap2Cutoff | peakCutoff => exact setterRule_of rfl (fun _ => rfl) okNonneg_iff fun _ _ _ => rfl
  case ap2Q | peakQ => exact setterRule_of rfl (fun _ => rfl) okFinite_iff fun _ _ _ => rfl
  case ap2PrewarpAtCutoff | useBandwidth | peakPrewarpAtCutoff =>
    exact setterRule_of rfl (fun _ => rfl) okFlag_iff fun _ _ _ => rfl
  case ap2PrewarpFreq | peakGainLin | bandwidth | peakPrewarpFreq =>
    exact setterRule_of rfl (fun _ => rfl) okPositive_iff fun _ _ _ => rfl
  case peakGainDb => exact setterRule_of rfl (fun _ => rfl) okDb_iff fun _ _ _ => rfl

end Sys2Proof.Machine
end

-- ==== Proofs: the delay line ====
section
/-! PROOFS. DELAY (44_delay.md): its derived registers, its commands on a channel whose line is ordinary memory, and
what a run of writes leaves for a read to find; UPDATE_CTRL of REVERB; and the setters of both units. -/

namespace Sys2Proof.Machine
open Sys2Proof.Config

variable {s : State} {l : LineRef} {ch : BitVec 6}

/-! ### UPDATE_CTRL (R347, 45_reverb.md R377) -/

theorem delayUpdate_clean (fs : F32) (c : DelayCoefs) : delayUpdate fs 0 c = c := by simp [delayUpdate, dirtyBit]

theorem reverbUpdate_clean (c : ReverbCoefs) : reverbUpdate 0 c = c := by simp [reverbUpdate, dirtyBit]

/-- R347 by the bit of the mask, register by register. -/
theorem delayUpdate_eq (fs : F32) (m : Word) (c : DelayCoefs) :
    let dt := fMin (fMul fs c.delay) (toF32 (c.len.toNat - 1))
    delayUpdate fs m c = { c with
      di := if m.getLsbD 0 then BitVec.ofNat 32 (realFloor dt).toNat else c.di
      df := if m.getLsbD 0 then fSub dt (toF32 (realFloor dt).toNat) else c.df } := by
  by_cases hm : m.getLsbD 0 = true <;> simp only [delayUpdate, dirtyBit, hm, if_true, if_false, Bool.false_eq_true]

/-- Settles O28: either hook by the bits of its mask, and with no bit set it has nothing to do. -/
theorem updateCtrlOfDelayAndReverb : Obligations.UpdateCtrlOfDelayAndReverb := by
  refine ⟨fun s hl => ?delay, fun s hl => ?reverb⟩
  case delay =>
    have hx := exec_updateCtrl_of_hook (u := .delay) hl (by rw [updateCtrlHook, delayUpdate_clean])
    rw [updateCtrlHook, delayUpdate_eq] at hx
    exact hx
  case reverb => exact exec_updateCtrl_of_hook (u := .reverb) hl (by rw [updateCtrlHook, reverbUpdate_clean])

/-! ### A line after a write (R341, R342) -/

theorem lineChan_of_admitted (h : Inv s) {c : Nat} (ha : admitted s .delay c) :
    (LineRef.delay c).chan < lineChans s (.delay c) := by
  obtain ⟨-, -, -, -, -, -, -, -, -, -, -, hcount, -⟩ := h.counts
  obtain ⟨-, hc, -⟩ := ha
  exact hc.trans_eq hcount.symm

theorem lineCap_afterWrite (x : F32) : lineCap (afterWrite s l x) l = lineCap s l := by
  rw [afterWrite, lineCap_setCursor, lineCap_withMem]

theorem lineAddr_afterWrite (x : F32) (k : Nat) : lineAddr (afterWrite s l x) l k = lineAddr s l k := by
  rw [lineAddr, afterWrite, lineBase_setCursor]
  cases l <;> rfl

theorem lineCursor_afterWrite (h : LineOk s l) (hch : l.chan < lineChans s l) (x : F32) :
    lineCursor (afterWrite s l x) l = (lineCursor s l + 1) % lineCap s l := by
  have hlt : (lineCursor s l + 1) % lineCap s l < lineCap s l := Nat.mod_lt _ (Nat.zero_lt_of_lt h.cursor)
  refine lineCursor_setCursor_self ?_ (hlt.trans (lineCap_lt s l))
  cases l <;> exact hch

/-- A write makes every word of a line one sample older. -/
theorem lineIndex_afterWrite_succ (h : LineOk s l) (hch : l.chan < lineChans s l) (x : F32) (d : Nat) :
    lineIndex (afterWrite s l x) l (d + 1) = lineIndex s l d := by
  rw [lineIndex, lineIndex, lineCursor_afterWrite h hch, lineCap_afterWrite, Int.natCast_mod, Int.emod_sub_emod]
  congr 2
  push_cast
  omega

/-- A read with fraction 0 is the word itself. -/
theorem dlValue_f0 (s : State) (l : LineRef) (d : Nat) :
    dlValue s l d f0 = readWord s.mem (lineAddr s l (lineIndex s l d)) := by
  rw [dlValue, if_pos (by decide)]

/-- After a write, a read one further back answers what it answered before, but for the word just overwritten. -/
theorem dlValue_afterWrite_succ (hmem : Memory.wf s.mem = true) (h : LineOk s l) (hch : l.chan < lineChans s l)
    (x : F32) (d : Nat) :
    dlValue (afterWrite s l x) l (d + 1) f0 = if d % lineCap s l = 0 then x else dlValue s l d f0 := by
  have hmem' : (afterWrite s l x).mem = writeWord s.mem (lineAddr s l (lineCursor s l)) x := setCursor_mem _ l _
  have haddr : lineAddr s l (lineIndex s l d) = lineAddr s l (lineCursor s l) ↔ d % lineCap s l = 0 := by
    rw [← lineIndex_eq_cursor_iff h, lineAddr, lineAddr]
    omega
  rw [dlValue_f0, dlValue_f0, lineAddr_afterWrite, lineIndex_afterWrite_succ h hch, hmem',
    readWord_writeWord _ _ _ _ hmem (lineAddr_top h h.cursor) (lineAddr_mod h _) (lineAddr_mod h _)]
  simp only [haddr]

/-! ### RESET_STATE (R350) -/

/-- A fill of a line of ordinary memory, wherever its cursor stands. -/
theorem delayReset_ok {c : Nat} (h4 : lineBase s (.delay c) % 4 = 0)
    (hr : lineBase s (.delay c) + 4 * lineCap s (.delay c) ≤ 2 ^ 32) (hp : LinePlain s (.delay c)) (x : F32) :
    delayReset c x s = .ok [x]
      (setCursor { s with mem := fillMem s.mem (lineBase s (.delay c)) x (lineCap s (.delay c)) } (.delay c) 0) := by
  rw [delayReset_run h4 hr, runAccesses_ordinary (fillAccesses_ordinary fun _ hk => lineAddr_plain hp hk)]

/-- RESET_STATE of a bound channel whose line is ordinary memory. -/
theorem exec_resetStateDelay (h : Inv s) (hf : isFinite s.win.arg0 = true) (hc : ch.toNat < s.hw.nCh)
    (hl : s.regs.delay.life = .ready) (hb : (s.binding .delay ch.toNat).bound = true)
    (hp : LinePlain s (.delay ch.toNat)) :
    exec (.resetStateDelay ch) s = .next { s with
      mem := fillMem s.mem (arenaBase s .delay ch.toNat) s.win.arg0 s.coefs.delay.len.toNat
      win := { s.win with res0 := s.win.arg0 }
      valid := { s.valid with delay := s.valid.delay.set ch.toNat true }
      chans := { s.chans with delay := s.chans.delay.set ch.toNat { w := 0 } } } := by
  obtain ⟨h4, hr⟩ := line_laid h (u := .delay) hb (List.mem_singleton.2 rfl)
  have hhook := (resetStateHook_delay _ (sampleArgs .delay s.win) _).trans
    (delayReset_ok (s := s.beforeSeed .delay ch.toNat) h4 hr hp s.win.arg0)
  have hrun := cmdResetState_run .delay ch s hc hl (fun _ => hb) (sampleArgs_finite _ _ hf nofun)
  rw [hhook, beforeSeed_delay] at hrun
  have hvalid : (s.valid.delay.set ch.toNat false).set ch.toNat true = s.valid.delay.set ch.toNat true :=
    List.set_set ..
  rw [← hvalid]
  exact (exec_resetStateOf .delay ch s).trans (runCommand_ok hrun)

/-- Settles O35: the fill sets every word of the line, and no byte outside it. -/
theorem resetStateOfDelay : Obligations.ResetStateOfDelay := by
  intro s ch h hf hc hl hb ho
  obtain ⟨-, htop⟩ := line_laid h (u := .delay) hb (List.mem_singleton.2 rfl)
  refine ⟨_, exec_resetStateDelay h hf hc hl hb (linePlain_delay h hb ho), fun k hk => ?_, fun a ha => ?_, rfl⟩
  · exact readWord_fillMem _ _ _ _ k htop h.mem_wf hk
  · exact readByte_fillMem_other _ _ _ _ a (by omega)

/-! ### PROCESS1 (R351) -/

theorem delayStep_ok {c : Nat} (h : LineOk s (.delay c)) (hp : LinePlain s (.delay c)) (x : F32) :
    delayStep c x s = .ok
      [dlValue (afterWrite s (.delay c) x) (.delay c) (s.coefs.delay.di.toNat + 1) s.coefs.delay.df]
      (afterWrite s (.delay c) x) := by
  have hread := dlRead_ok (lineOk_afterWrite h x) (s := afterWrite s (.delay c) x) hp
    (s.coefs.delay.di.toNat + 1) s.coefs.delay.df
  rw [delayStep, engine_bind_ok (dlWrite_ok h hp x), engine_bind_get]
  exact engine_bind_ok hread

/-- Settles O36: the hook writes the line and reads it, and the cursor it reads from is the one the write left. -/
theorem process1OfDelay : Obligations.Process1OfDelay := by
  intro s ch h hf ha ho
  obtain ⟨-, -, hb, -⟩ := id ha
  have hline := delayLineOk h ha
  have hhook := delayStep_ok hline (linePlain_delay h (hb rfl) ho) s.win.arg0
  refine (exec_process1_of_hook ha (sampleArgs_finite _ _ hf nofun)
    ((process1Hook_delay _ _ s).trans hhook)).trans ?_
  rw [dlValue, lineIndex, lineIndex, lineCursor_afterWrite hline (lineChan_of_admitted h ha)]
  rfl

/-! ### DELAY_READ (R352) -/

theorem encode_delayReadDelay (ch : BitVec 6) :
    encode (.delayReadDelay ch) = 0x36000000#32 ||| (ch.setWidth 32 <<< 16) := by
  revert ch
  decide

/-- A fraction DELAY_READ accepts, whether it is finite or not. -/
theorem okFraction_iff_legal (f : F32) :
    okFraction f = true ↔ isFinite f = true ∧ 0 ≤ scaled f ∧ scaled f < 2 ^ 149 := by
  by_cases hf : isFinite f = true
  · rw [okFraction_iff hf, and_iff_right hf]
  · simp [okFraction, hf]

/-- DELAY_READ of an admitted channel: the fraction, the index; or the read, its word in RES0. -/
theorem cmdDelayRead_run (ha : admitted s .delay ch.toNat) : cmdDelayRead ch s =
    if okFraction s.win.arg1 = true then
      if 1 ≤ s.win.arg0.toNat ∧ s.win.arg0.toNat ≤ readLimit s.coefs.delay.len s.win.arg1 then
        (do
          let v ← dlRead (.delay ch.toNat) s.win.arg0.toNat s.win.arg1
          modify fun s => s.setRes0 v : Engine Unit) s
      else .error (.trap .operandRange s.win.arg0 0) s
    else .error (.trap .operandRange s.win.arg1 0) s := by
  rw [cmdDelayRead, engine_bind_ok (admitChannel_pass .delay ch s ha), engine_bind_get,
    engine_check (require_run _ _ _ s), engine_check (require_run _ _ _ s)]
  simp only [Bool.and_eq_true, decide_eq_true_eq]

/-- DELAY_READ of an index and a fraction it accepts, from a line of ordinary memory. -/
theorem exec_delayReadDelay (h : Inv s) (ha : admitted s .delay ch.toNat) (hp : LinePlain s (.delay ch.toNat))
    (hf : okFraction s.win.arg1 = true) (hlo : 1 ≤ s.win.arg0.toNat)
    (hhi : s.win.arg0.toNat ≤ readLimit s.coefs.delay.len s.win.arg1) :
    exec (.delayReadDelay ch) s = .next (s.setRes0 (dlValue s (.delay ch.toNat) s.win.arg0.toNat s.win.arg1)) := by
  refine runCommand_ok (e := cmdDelayRead ch) ?_
  rw [cmdDelayRead_run ha, if_pos hf, if_pos ⟨hlo, hhi⟩, engine_bind_ok (dlRead_ok (delayLineOk h ha) hp _ _)]
  rfl

/-- Settles O37: the two checks in their order, and then the read. -/
theorem delayRead : Obligations.DelayRead := by
  intro s ch h ha
  rw [← encode_delayReadDelay]
  refine ⟨fun hf => ?fraction, fun hf hd => ?index, fun hf hlo hhi ho => ?word⟩
  case fraction =>
    refine runCommand_trap (e := cmdDelayRead ch) ?_
    rw [cmdDelayRead_run ha, if_neg (by rwa [okFraction_iff_legal])]
  case index =>
    refine runCommand_trap (e := cmdDelayRead ch) ?_
    rw [cmdDelayRead_run ha, if_pos ((okFraction_iff_legal _).2 hf), readLimit_eq hf.1, if_neg hd]
  case word =>
    refine (exec_delayReadDelay h ha ho ((okFraction_iff_legal _).2 hf) hlo (by rwa [readLimit_eq hf.1])).trans ?_
    simp only [dlValue, fEq_f0_iff hf.1]
    rfl

/-! ### DELAY_WRITE (R353) -/

theorem encode_delayWriteDelay (ch : BitVec 6) :
    encode (.delayWriteDelay ch) = 0x3A000000#32 ||| (ch.setWidth 32 <<< 16) := by
  revert ch
  decide

/-- DELAY_WRITE of an admitted channel: the sample; or the write. -/
theorem cmdDelayWrite_run (ha : admitted s .delay ch.toNat) : cmdDelayWrite ch s =
    if isFinite s.win.arg0 = true then dlWrite (.delay ch.toNat) s.win.arg0 s
    else .error (.trap .nonfinite s.win.arg0 0) s := by
  rw [cmdDelayWrite, engine_bind_ok (admitChannel_pass .delay ch s ha), engine_bind_get,
    engine_check (require_run _ _ _ s)]

/-- DELAY_WRITE of a finite sample to a line of ordinary memory. -/
theorem exec_delayWriteDelay (h : Inv s) (ha : admitted s .delay ch.toNat) (hp : LinePlain s (.delay ch.toNat))
    (hf : isFinite s.win.arg0 = true) :
    exec (.delayWriteDelay ch) s = .next (afterWrite s (.delay ch.toNat) s.win.arg0) := by
  refine runCommand_ok (e := cmdDelayWrite ch) ?_
  rw [cmdDelayWrite_run ha, if_pos hf, dlWrite_ok (delayLineOk h ha) hp]

/-- Settles O38: the sample's check, and then the write. -/
theorem delayWrite : Obligations.DelayWrite := by
  intro s ch h ha
  refine ⟨fun hf => ?_, fun hf ho => exec_delayWriteDelay h ha ho hf⟩
  rw [← encode_delayWriteDelay]
  refine runCommand_trap (e := cmdDelayWrite ch) ?_
  rw [cmdDelayWrite_run ha, if_neg (by simp [hf])]

/-! ### What was written, read back (R355) -/

/-- A host that writes operands of the window leaves the block as it was. -/
theorem PlainStart.withWindow {u : UnitId} {C : Nat → Prop} (h : PlainStart u C s) {w : Window} (hw : legalWindow w) :
    PlainStart u C { s with win := w } :=
  ⟨inv_withWindow h.inv hw, h.admits, h.plain⟩

/-- The one channel `ch` of DELAY admitted, its arena ordinary memory. -/
abbrev DelayStart (ch : BitVec 6) (s : State) : Prop := PlainStart .delay (· = ch.toNat) s

theorem DelayStart.line (h : DelayStart ch s) : LinePlain s (.delay ch.toNat) := by
  obtain ⟨-, -, hb, -⟩ := h.admits _ rfl
  exact linePlain_delay h.inv (hb rfl) (h.plain _ rfl rfl)

/-- One DELAY_WRITE of the host: the sample is the newest word, and every word but the one overwritten is a sample
older. -/
theorem exec_hostDelayWrite (h : DelayStart ch s) {x : F32} (hx : isFinite x = true) :
    ∃ t, exec (.delayWriteDelay ch) { s with win := { s.win with arg0 := x } } = .next t ∧ DelayStart ch t ∧
      t.coefs = s.coefs ∧ ∀ d, dlValue t (.delay ch.toNat) (d + 1) f0 =
        if d % s.coefs.delay.len.toNat = 0 then x else dlValue s (.delay ch.toNat) d f0 := by
  have hstart : DelayStart ch { s with win := { s.win with arg0 := x } } :=
    h.withWindow (legalWindow_congr h.inv.window rfl rfl rfl rfl)
  have hadm := hstart.admits _ rfl
  have hline := delayLineOk hstart.inv hadm
  have hstep := channelRel_hookStep.line _ _ x (lineAddr_mod hline _) (lineAddr_top hline hline.cursor)
  exact ⟨_, exec_delayWriteDelay hstart.inv hadm hstart.line hx, hstart.step hstep.batchStep, hstep.coefs,
    dlValue_afterWrite_succ hstart.inv.mem_wf hline (lineChan_of_admitted hstart.inv hadm) x⟩

theorem delayWrites_cons {r : State} {x : F32} {xs : List F32}
    (h : exec (.delayWriteDelay ch) { s with win := { s.win with arg0 := x } } = .next r) :
    delayWrites ch (x :: xs) s = delayWrites ch xs r := by
  rw [delayWrites, h]

/-- A run of writes makes every word of the line as much older, as long as it is still held. -/
theorem delayWrites_ok {ys : List F32} (h : DelayStart ch s) (hys : ∀ y ∈ ys, isFinite y = true) :
    ∃ t, delayWrites ch ys s = some t ∧ DelayStart ch t ∧ t.coefs = s.coefs ∧
      ∀ d, 1 ≤ d → d + ys.length ≤ s.coefs.delay.len.toNat →
        dlValue t (.delay ch.toNat) (d + ys.length) f0 = dlValue s (.delay ch.toNat) d f0 := by
  induction ys generalizing s with
  | nil => exact ⟨s, rfl, h, rfl, fun _ _ _ => rfl⟩
  | cons y ys ih =>
    obtain ⟨hy, hrest⟩ := List.forall_mem_cons.1 hys
    obtain ⟨r, hexec, hr, hcoefs, hread⟩ := exec_hostDelayWrite h hy
    obtain ⟨t, hrun, ht, hcoefs', hkept⟩ := ih hr hrest
    refine ⟨t, (delayWrites_cons hexec).trans hrun, ht, hcoefs'.trans hcoefs, fun d hlo hhi => ?_⟩
    rw [hcoefs] at hkept
    rw [List.length_cons] at hhi ⊢
    have hold : ¬d % s.coefs.delay.len.toNat = 0 := by
      rw [Nat.mod_eq_of_lt (by omega)]
      omega
    calc dlValue t (.delay ch.toNat) (d + (ys.length + 1)) f0
        = dlValue t (.delay ch.toNat) (d + 1 + ys.length) f0 := by rw [Nat.add_right_comm d 1, Nat.add_assoc]
      _ = dlValue r (.delay ch.toNat) (d + 1) f0 := hkept (d + 1) (by omega) (by omega)
      _ = dlValue s (.delay ch.toNat) d f0 := by rw [hread, if_neg hold]

/-- Settles O39: the sample is the newest word after its own write, and as many samples older as writes follow. -/
theorem delayRoundTrip : Obligations.DelayRoundTrip := by
  intro s ch x ys h ha ho hx hys hlen
  have hstart : DelayStart ch s := ⟨h, fun c hc => hc ▸ ha, fun c hc _ => hc ▸ ho⟩
  obtain ⟨r, hexec, hr, hcoefs, hread⟩ := exec_hostDelayWrite hstart hx
  obtain ⟨t, hrun, ht, hcoefs', hkept⟩ := delayWrites_ok hr hys
  refine ⟨t, (delayWrites_cons hexec).trans hrun, ?_⟩
  have hlen' : t.coefs.delay.len = s.coefs.delay.len := by rw [hcoefs', hcoefs]
  have hfits : (BitVec.ofNat 32 (ys.length + 1)).toNat = ys.length + 1 := by
    have := s.coefs.delay.len.isLt
    rw [BitVec.toNat_ofNat, Nat.mod_eq_of_lt (by omega)]
  have hvalue : dlValue t (.delay ch.toNat) (ys.length + 1) f0 = x := by
    rw [Nat.add_comm, hkept 1 (le_refl 1) (by rw [hcoefs]; omega), hread, Nat.zero_mod, if_pos rfl]
  have hback : DelayStart ch
      { t with win := { t.win with arg0 := BitVec.ofNat 32 (ys.length + 1), arg1 := 0 } } :=
    ht.withWindow (legalWindow_congr ht.inv.window rfl rfl rfl rfl)
  have hhi : (BitVec.ofNat 32 (ys.length + 1)).toNat ≤ readLimit t.coefs.delay.len f0 := by
    rw [hfits, hlen']
    exact hlen
  have hexec' := exec_delayReadDelay hback.inv (hback.admits _ rfl) hback.line (by decide : okFraction f0 = true)
    (by rw [hfits]; omega) hhi
  rw [hfits] at hexec'
  exact hexec'.trans (congrArg (fun v => Host.Outcome.next (State.setRes0 _ v)) hvalue)

/-! ### The setters (R354, 45_reverb.md R394 to R397) -/

/-- Settles O55: each setter writes the one register it names, by its legal set. -/
theorem settersOfDelayAndReverb : Obligations.SettersOfDelayAndReverb := by
  refine ⟨?delay, ?predelay, ?bandwidth, ?damping, ?decay⟩
  case delay => exact setterRule_of rfl (fun _ => rfl) okNonneg_iff fun _ _ _ => rfl
  case predelay => exact setterRule_of rfl (fun _ => rfl) okPredelay_iff fun _ _ _ => rfl
  case bandwidth | damping => exact setterRule_of rfl (fun _ => rfl) okCutoff_iff fun _ _ _ => rfl
  case decay => exact setterRule_of rfl (fun _ => rfl) okDecay_iff fun _ _ _ => rfl

end Sys2Proof.Machine
end

-- ==== Proofs: the reverb ====
section
/-! PROOFS. REVERB (45_reverb.md): RESET_STATE and PROCESS1 of a channel whose arena is ordinary memory, from the
accesses each makes (R390, R393): all of them are answered, so the hook ends in the state after its last one. -/

namespace Sys2Proof.Machine
open Sys2Proof.Config

variable {s : State} {c : Nat} {v : PerLine F32} {ch : BitVec 6}

/-! ### The taps of ordinary lines (R391) -/

theorem taps_ok (h : ∀ j, LineOk s (.reverb c j)) (hp : ∀ j, LinePlain s (.reverb c j)) :
    taps c s = .ok (tapMix (lineWord s c) s.hw.revTable.tapL s.coefs.reverb.tapLK,
      tapMix (lineWord s c) s.hw.revTable.tapR s.coefs.reverb.tapRK) s := by
  have read : ∀ tap k, readTaps c tap k tapOrder s = _ := fun tap k => readTaps_ok k tapOrder fun x _ => ⟨h _, hp _⟩
  rw [taps, engine_bind_get, engine_bind_ok (read _ _), engine_bind_ok (read _ _)]
  rfl

/-! ### RESET_STATE (R390) -/

/-- Once every line is filled, the channel's registers are the steady state's, whatever they were. -/
theorem seedOf_revLines (v : PerLine F32) (st : ReverbState) :
    seedOf v st revLines = { bwZ1 := v.pd, dlZ1 := v.dlL1, drZ1 := v.dlR1, w := PerLine.const 0 } := by
  simp only [seedOf, mem_revLines, if_true]
  rfl

theorem lineOk_seeded (hlay : reverbLayout s.coefs.reverb) (hlaid : LinesLaid s c) (hc : c < s.chans.reverb.length)
    (j : RevLine) : LineOk (seeded s c v revLines) (.reverb c j) where
  base := (hlaid j).1
  top := (hlaid j).2
  cursor := by
    rw [lineCursor_seeded hc, if_pos (mem_revLines j)]
    exact hlay.1 j

/-- Once every line is filled, a word of a line is the line's value, however far back. -/
theorem lineWord_seeded (hlay : reverbLayout s.coefs.reverb) (hlaid : LinesLaid s c) (hc : c < s.chans.reverb.length)
    (hm : Memory.wf s.mem = true) (j : RevLine) (d : Nat) : lineWord (seeded s c v revLines) c j d = v.get j :=
  readWord_fillLines hlay hlaid s.mem hm (lineIndex_lt (lineOk_seeded hlay hlaid hc j) d) (mem_revLines j)

/-- The fills of ordinary lines, wherever their cursors stand. -/
theorem seedLines_ok (hlaid : LinesLaid s c) (hc : c < s.chans.reverb.length)
    (hp : ∀ j, LinePlain s (.reverb c j)) :
    seedLines c v revLines s = .ok () (seeded s c v revLines) := by
  have hrun := seedLines_run (v := v) hlaid hc [] revLines
  rw [seeded_nil] at hrun
  rw [hrun, runAccesses_ordinary (seedAccesses_ordinary [] fun l _ k hk => lineAddr_plain (hp l) hk)]
  rfl

/-- RESET_STATE's hook: the lines filled, and the taps of their values. -/
theorem reverbReset_ok (hlay : reverbLayout s.coefs.reverb) (hlaid : LinesLaid s c) (hc : c < s.chans.reverb.length)
    (hm : Memory.wf s.mem = true) (hp : ∀ j, LinePlain s (.reverb c j)) {xl xr : F32}
    (hv : v = reverbSeed s.coefs.reverb xl xr) :
    reverbReset c xl xr s = .ok
      [tapMix (fun j _ => v.get j) s.hw.revTable.tapL s.coefs.reverb.tapLK,
        tapMix (fun j _ => v.get j) s.hw.revTable.tapR s.coefs.reverb.tapRK]
      (seeded s c v revLines) := by
  subst hv
  have htaps := taps_ok (s := seeded s c (reverbSeed s.coefs.reverb xl xr) revLines)
    (lineOk_seeded hlay hlaid hc) hp
  rw [funext₂ (lineWord_seeded hlay hlaid hc hm)] at htaps
  rw [reverbReset_eq, engine_bind_ok (seedLines_ok hlaid hc hp), engine_bind_ok htaps]
  rfl

theorem reverbChan_of_lt (h : Inv s) (hc : c < s.hw.nCh) : c < s.chans.reverb.length := by
  obtain ⟨-, -, -, -, -, -, -, -, -, -, -, -, hcount⟩ := h.counts
  exact hc.trans_eq hcount.symm

/-- RESET_STATE of a bound channel whose lines are ordinary memory. -/
theorem exec_resetStateReverb (h : Inv s) (hf0 : isFinite s.win.arg0 = true) (hf1 : isFinite s.win.arg1 = true)
    (hc : ch.toNat < s.hw.nCh) (hl : s.regs.reverb.life = .ready) (hb : (s.binding .reverb ch.toNat).bound = true)
    (hp : ∀ j, LinePlain s (.reverb ch.toNat j)) (hv : v = reverbSeed s.coefs.reverb s.win.arg0 s.win.arg1) :
    exec (.resetStateReverb ch) s = .next { s with
      mem := revLines.foldl (fillLine s ch.toNat v) s.mem
      win := { s.win with
        res0 := tapMix (fun j _ => v.get j) s.hw.revTable.tapL s.coefs.reverb.tapLK
        res1 := tapMix (fun j _ => v.get j) s.hw.revTable.tapR s.coefs.reverb.tapRK }
      valid := { s.valid with reverb := s.valid.reverb.set ch.toNat true }
      chans := { s.chans with
        reverb := s.chans.reverb.set ch.toNat
          { bwZ1 := v.pd, dlZ1 := v.dlL1, drZ1 := v.dlR1, w := PerLine.const 0 } } } := by
  have hstart := inv_beforeSeed h .reverb ch.toNat
  have hhook := (resetStateHook_reverb ch.toNat (sampleArgs .reverb s.win) _).trans
    (reverbReset_ok (reverbLayout_of_bound hstart hb) (linesLaid hstart hb) (reverbChan_of_lt hstart hc)
      hstart.mem_wf hp hv)
  have hrun := cmdResetState_run .reverb ch s hc hl (fun _ => hb) (sampleArgs_finite _ _ hf0 fun _ => hf1)
  rw [hhook, beforeSeed_reverb] at hrun
  have hvalid : (s.valid.reverb.set ch.toNat false).set ch.toNat true = s.valid.reverb.set ch.toNat true :=
    List.set_set ..
  rw [← hvalid, ← seedOf_revLines v (s.chans.reverb.getD ch.toNat {})]
  exact (exec_resetStateOf .reverb ch s).trans (runCommand_ok hrun)

/-- A byte outside a channel's arena is outside each of its lines. -/
theorem outside_line (h : Inv s) (hb : (s.binding .reverb c).bound = true) {a : Nat}
    (ha : ¬(arenaBase s .reverb c ≤ a ∧ a < arenaBase s .reverb c + arenaSize s .reverb)) (j : RevLine) :
    a < lineBase s (.reverb c j) ∨ lineBase s (.reverb c j) + 4 * lineCap s (.reverb c j) ≤ a := by
  by_contra hin
  obtain ⟨hlo, hhi⟩ := lineAddr_inArena h hb (List.mem_map_of_mem (mem_revLines j))
    (k := (a - lineBase s (.reverb c j)) / 4) (by omega)
  rw [lineAddr] at hlo hhi
  omega

/-- Settles O40: the fills set every word of the thirteen lines, which the taps then read, and no byte outside them. -/
theorem resetStateOfReverb : Obligations.ResetStateOfReverb := by
  intro s ch h hf0 hf1 hc hl hb ho v
  have hexec := exec_resetStateReverb h hf0 hf1 hc hl hb (fun j => linePlain_reverb h hb j ho) (v := v) rfl
  refine ⟨_, hexec, fun j k hk => ?_, fun a ha => ?_, rfl⟩
  · exact readWord_fillLines (reverbLayout_of_bound h hb) (linesLaid h hb) s.mem h.mem_wf hk (mem_revLines j)
  · exact readByte_fillLines_other s.mem fun j _ => outside_line h hb ha j

/-! ### PROCESS1 (R392, R393) -/

/-- PROCESS1's hook, every line ordinary memory: all stages of the sample are complete. -/
theorem reverbStep_ok (h : ReverbInUse s c) (hp : ∀ j, LinePlain s (.reverb c j)) {xl xr : F32} {r : ReverbSample}
    (hr : r = reverbSampleOf s c xl xr) :
    reverbStep c xl xr s = .ok
      [tapMix (lineWord s c) s.hw.revTable.tapL s.coefs.reverb.tapLK,
        tapMix (lineWord s c) s.hw.revTable.tapR s.coefs.reverb.tapRK]
      (stageAt s c r 14) := by
  rw [reverbStep_run h xl xr hr, runAccesses_ordinary]
  refine List.forall_mem_map.2 fun p hmem => ?_
  obtain ⟨j, k, hk, haddr⟩ := reverbAccesses_inLine h p hmem
  rw [haddr]
  exact lineAddr_plain (hp j) hk

/-- A sample's last stage has written every line, advanced every cursor and set the three filter states. -/
theorem stageAt_last (s : State) (c : Nat) (r : ReverbSample) : stageAt s c r 14 = { s with
    mem := writeLines s c r.word revLines
    chans := { s.chans with
      reverb := s.chans.reverb.set c
        { bwZ1 := r.bw, dlZ1 := r.dl, drZ1 := r.dr
          w := PerLine.of fun j => BitVec.ofNat 32
            ((lineCursor s (.reverb c j) + 1) % lineCap s (.reverb c j)) } } } := by
  have hall : linesWritten 14 = revLines := rfl
  have hchan : sampleBefore s c r 14 =
      { bwZ1 := r.bw, dlZ1 := r.dl, drZ1 := r.dr
        w := PerLine.of fun j => BitVec.ofNat 32 ((lineCursor s (.reverb c j) + 1) % lineCap s (.reverb c j)) } := by
    simp only [sampleBefore, hall, mem_revLines, if_true]
    rfl
  rw [stageAt_eq, hall, hchan]

/-- A stereo result over a state whose memory and channels a hook has changed (30_encoding.md R114). -/
theorem setResults_stereo (s : State) (m : List Host.Cell) (st : Chans) (yl yr : F32) :
    ({ s with mem := m, chans := st } : State).setResults [yl, yr] =
      { s with mem := m, win := { s.win with res0 := yl, res1 := yr }, chans := st } := rfl

/-- PROCESS1 of an admitted channel whose lines are ordinary memory. -/
theorem exec_process1Reverb (h : Inv s) (hf0 : isFinite s.win.arg0 = true) (hf1 : isFinite s.win.arg1 = true)
    (ha : admitted s .reverb ch.toNat) (hp : ∀ j, LinePlain s (.reverb ch.toNat j)) {r : ReverbSample}
    (hr : r = reverbSampleOf s ch.toNat s.win.arg0 s.win.arg1) :
    exec (.process1Reverb ch) s = .next { s with
      mem := writeLines s ch.toNat r.word revLines
      win := { s.win with
        res0 := tapMix (lineWord s ch.toNat) s.hw.revTable.tapL s.coefs.reverb.tapLK
        res1 := tapMix (lineWord s ch.toNat) s.hw.revTable.tapR s.coefs.reverb.tapRK }
      chans := { s.chans with
        reverb := s.chans.reverb.set ch.toNat
          { bwZ1 := r.bw, dlZ1 := r.dl, drZ1 := r.dr
            w := PerLine.of fun j => BitVec.ofNat 32
              ((lineCursor s (.reverb ch.toNat j) + 1) % lineCap s (.reverb ch.toNat j)) } } } := by
  have hhook := (process1Hook_reverb ch.toNat (sampleArgs .reverb s.win) s).trans
    (reverbStep_ok (reverbInUse h ha) hp hr)
  rw [stageAt_last] at hhook
  have hexec := exec_process1_of_hook (u := .reverb) ha (sampleArgs_finite _ _ hf0 fun _ => hf1) hhook
  rw [setResults_stereo] at hexec
  exact hexec

/-- Settles O41: the accesses of R393 all answer, and each line holds the one word that the sample writes to it. -/
theorem process1OfReverb : Obligations.Process1OfReverb := by
  intro s ch h hf0 hf1 ha ho r
  obtain ⟨-, -, hb, -⟩ := id ha
  have huse := reverbInUse h ha
  have hexec := exec_process1Reverb h hf0 hf1 ha (fun j => linePlain_reverb h (hb rfl) j ho) (r := r) rfl
  have hword : ∀ j, readWord (writeLines s ch.toNat r.word revLines) (lineNext s ch.toNat j) = r.word.get j :=
    fun j => (readWord_writeLines huse r.word revLines j (huse.lines j).cursor).trans (if_pos ⟨mem_revLines j, rfl⟩)
  have hbyte : ∀ a, (∀ j, ¬(lineNext s ch.toNat j ≤ a ∧ a < lineNext s ch.toNat j + 4)) →
      readByte (writeLines s ch.toNat r.word revLines) a = readByte s.mem a :=
    fun a hout => readByte_writeLines_other s ch.toNat r.word revLines fun j _ => hout j
  -- From here the memory is any with these two properties: comparing the states must not evaluate the stores.
  generalize writeLines s ch.toNat r.word revLines = m at hexec hword hbyte
  exact ⟨_, hexec, hword, hbyte, rfl⟩

end Sys2Proof.Machine
end

-- ==== Proofs: the faulted block ====
section
/-! PROOFS. Faults (60_exceptions.md R440 to R443): what fault entry writes, what the host can still do with a faulted
block, and that a block reset is the one access that changes the fault registers, since a faulted block runs no
command. -/

namespace Sys2Proof.Machine
open Sys2Proof.Config

variable {s t : State} {r : WindowReg} {w : Word} {a n : Nat} {rest : List HostEvent}

/-! ### STATUS after a fault (R25, R431) -/

theorem statusBusy_statusOf (c : FaultCode) : statusBusy (statusOf c) = false := by cases c <;> rfl

theorem statusCode_statusOf (c : FaultCode) : statusCode (statusOf c) = faultByte c := by cases c <;> rfl

theorem statusOf_reserved (c : FaultCode) : statusOf c &&& 0xFFFF00FC#32 = 0 := by cases c <;> rfl

/-- Settles O13: fault entry is its one record update, and each code's STATUS is evaluated. -/
theorem faultEntry : Obligations.FaultEntry :=
  ⟨fun _ c _ _ _ => ⟨rfl, statusFault_statusOf c, statusBusy_statusOf c, statusCode_statusOf c, statusOf_reserved c⟩,
    rfl, rfl, rfl, rfl, rfl, rfl, rfl, rfl, rfl, rfl, rfl⟩

/-! ### An access by the register it reaches (R88, R89) -/

/-- A load that reaches a register answers it, with no other effect. -/
theorem step_load_accessed (s : State) (rest : List HostEvent) {size : AccessSize}
    (h : accessedReg s.hw.base a size = some r) : step { s with inbox := .load a size :: rest } =
      .next { s with inbox := rest, reply := .data (readWindow s r) } := by
  obtain ⟨rfl, k, rfl, hk⟩ := (accessedReg_eq_some _ _ _).1 h
  exact step_load_reg s rest (Nat.mul_mod_right 4 k) (by rwa [Nat.mul_div_cancel_left k (by decide)])

/-- A store that reaches CTRL is a store of a word at CTRL's offset. -/
theorem accessedReg_eq_ctrl {b : Nat} {size : AccessSize} (h : accessedReg b a size = some .ctrl) :
    size = .word ∧ a = b + 0x14 := by
  obtain ⟨rfl, k, rfl, hk⟩ := (accessedReg_eq_some _ _ _).1 h
  obtain ⟨hlt, hget⟩ := List.getElem?_eq_some_iff.1 hk
  have hk5 : k = 5 := (List.Nodup.getElem_inj_iff (by decide : windowRegs.Nodup) (hj := by decide)).1 hget
  exact ⟨rfl, by rw [hk5]⟩

/-- A store of a word to CTRL resets the block where SOFT_RESET is set, and does nothing else (R27). -/
theorem step_store_ctrl (s : State) (rest : List HostEvent) (w : Word) :
    step { s with inbox := .store (s.hw.base + 0x14) .word w :: rest } =
      .next (if w.getLsbD 0 then blockReset { s with inbox := rest, reply := .stored }
        else { s with inbox := rest, reply := .stored }) :=
  step_store_reg s rest (off := 0x14) (r := .ctrl) rfl rfl w

/-- Settles O6: a write to CMD stops at the fault; every other access is answered without a look at it. -/
theorem faultedBlock : Obligations.FaultedBlock := by
  intro s w rest hf
  have store {off : Nat} {r : WindowReg} := step_store_reg s rest (off := off) (r := r)
  refine ⟨?_, fun _ _ hreg => step_load_accessed s rest hreg, store (r := .arg0) rfl rfl w,
    store (r := .arg1) rfl rfl w, store (r := .arg2) rfl rfl w, store (r := .arg3) rfl rfl w,
    store (r := .arg4) rfl rfl w, store (r := .arg5) rfl rfl w, fun hw => ⟨_, step_store_ctrl s rest w, ?_⟩,
    fun hw => ?_⟩
  · exact (step_store_cmd s rest w).trans (outcome_writeCmd_faulted hf)
  · rw [if_pos hw, blockReset_win]
  · rw [step_store_ctrl, hw]
    rfl

/-! ### The accesses that reset the block (70_reset_and_hazards.md R470) -/

/-- The reset input, or a store to CTRL with SOFT_RESET set, of a block at `base`. -/
def HostEvent.IsReset (base : Nat) (e : HostEvent) : Prop :=
  e = .resetInput ∨ ∃ w : Word, w.getLsbD 0 = true ∧ e = .store (base + 0x14) .word w

theorem resetNext_iff : resetNext s ↔ ∃ e rest, s.inbox = e :: rest ∧ e.IsReset s.hw.base := by
  constructor
  · rintro ⟨rest, h | ⟨w, hw, h⟩⟩
    · exact ⟨_, rest, h, .inl rfl⟩
    · exact ⟨_, rest, h, .inr ⟨w, hw, rfl⟩⟩
  · rintro ⟨e, rest, h, rfl | ⟨w, hw, rfl⟩⟩
    · exact ⟨rest, .inl h⟩
    · exact ⟨rest, .inr ⟨w, hw, h⟩⟩

/-- Either trigger resets the block; the two differ in the answer to the host alone. -/
theorem step_isReset (s : State) (rest : List HostEvent) {e : HostEvent} (he : e.IsReset s.hw.base) :
    ∃ x, step { s with inbox := e :: rest } = .next (blockReset { s with inbox := rest, reply := x }) := by
  obtain rfl | ⟨w, hw, rfl⟩ := he
  · exact ⟨s.reply, rfl⟩
  · exact ⟨.stored, (step_store_ctrl s rest w).trans (by rw [if_pos hw])⟩

theorem step_resetNext (h : resetNext s) : ∃ r, step s = .next (blockReset r) := by
  obtain ⟨e, rest, hin, he⟩ := resetNext_iff.1 h
  obtain ⟨x, hx⟩ := step_isReset s rest he
  rw [← hin] at hx
  exact ⟨_, hx⟩

/-! ### Every other access keeps the fault registers (R443) -/

/-- The four fault registers of the window are the same in two states. -/
def SameFault (s t : State) : Prop :=
  t.win.status = s.win.status ∧ t.win.faultCmd = s.win.faultCmd ∧
    t.win.faultInfo0 = s.win.faultInfo0 ∧ t.win.faultInfo1 = s.win.faultInfo1

/-- A step that leaves the window alone keeps them. -/
theorem SameFault.of_next {r : State} (h : (.next r : Host.Outcome State Fault Refusal) = .next t)
    (hw : r.win = s.win) : SameFault s t := by
  cases h
  rw [SameFault, hw]
  exact ⟨rfl, rfl, rfl, rfl⟩

/-- A write to a register of a faulted block, unless it resets the block: the operand registers are not among the four,
and CMD runs nothing. -/
theorem sameFault_writeWindow (hf : statusFault s.win.status = true) (hr : r = .ctrl → w.getLsbD 0 = false)
    (h : (writeWindow r w s).outcome = .next t) : SameFault s t := by
  cases r with
  | cmd => exact .of_next ((outcome_writeCmd_faulted hf).symm.trans h) rfl
  | ctrl =>
    rw [writeWindow, hr rfl] at h
    exact .of_next h rfl
  | _ =>
    cases h
    exact ⟨rfl, rfl, rfl, rfl⟩

/-- A host access to data memory that writes no register keeps them, whatever answers it (20_memory.md R81). -/
theorem sameFault_hostAccess {a : Word} {k : State} (h : hostAccess a n s k = .next t) (hk : k.win = s.win) :
    SameFault s t := by
  unfold hostAccess at h
  split at h
  · cases h
  · split at h
    · exact .of_next h rfl
    · cases h
    · exact .of_next h hk

/-- A host access to a faulted block that is no reset. -/
theorem sameFault_hostStep {e : HostEvent} (hf : statusFault s.win.status = true) (he : ¬e.IsReset s.hw.base)
    (h : (hostStep e s).outcome = .next t) : SameFault s t := by
  cases e with
  | store a size w =>
    unfold hostStep at h
    dsimp only at h
    split at h
    next r hreg =>
      refine sameFault_writeWindow (s := s.answer .stored) hf (fun hr => ?_) h
      obtain ⟨rfl, rfl⟩ := accessedReg_eq_ctrl (hreg.trans (congrArg some hr))
      exact Bool.eq_false_iff.2 fun hw => he (.inr ⟨w, hw, rfl⟩)
    next => exact .of_next h rfl
  | load a size =>
    unfold hostStep at h
    dsimp only at h
    split at h
    all_goals exact .of_next h rfl
  | memStore | memLoad | memStoreByte | memLoadByte => exact sameFault_hostAccess h rfl
  | resetInput => exact absurd (.inl rfl) he

theorem sameFault_step (hf : statusFault s.win.status = true) (hr : ¬resetNext s) (h : step s = .next t) :
    SameFault s t := by
  rw [step_eq_outcome, fetch] at h
  split at h
  next => exact .of_next h rfl
  next e rest hin =>
    exact sameFault_hostStep (s := { s with inbox := rest }) hf (fun he => hr (resetNext_iff.2 ⟨e, rest, hin, he⟩)) h

/-- Settles O17: a reset clears the window and the units, and no other access of a faulted block runs a command. -/
theorem onlyResetClearsFault : Obligations.OnlyResetClearsFault := by
  intro s t hf hstep
  refine ⟨fun hr => ?_, fun hr => sameFault_step hf hr hstep⟩
  obtain ⟨r, hreset⟩ := step_resetNext hr
  cases hreset.symm.trans hstep
  refine ⟨rfl, rfl, rfl, rfl, fun u => ?_⟩
  rw [blockReset_regs, PerUnit.get_const]

end Sys2Proof.Machine
end

-- ==== Proofs: reset ====
section
/-! PROOFS. Reset (70_reset_and_hazards.md R470 to R472): every register of a block after a block reset reads 0, the
state after reset is such a block with both invariants, and a unit of it accepts only INIT and register reads. -/

namespace Sys2Proof.Machine
open Sys2Proof.Config

variable {s : State} {u : UnitId} {i : Instr} {sel : BitVec 8} {v : Word}

/-! ### The registers of a block after a block reset (R470) -/

/-- A block reset of the state after reset changes nothing, so what holds after any block reset holds there too. -/
theorem blockReset_reset : blockReset State.reset = State.reset := rfl

/-- Each eight-bit select is looked up in the register tables, unit by unit. -/
theorem coefReg_reset_lookup (u : UnitId) (sel : BitVec 8) :
    coefReg State.reset u sel = none ∨ coefReg State.reset u sel = some 0 := by
  revert sel
  cases u <;> decide +kernel

theorem coefReg_blockReset (h : coefReg (blockReset s) u sel = some v) : v = 0 := by
  have hsame : coefReg (blockReset s) u = coefReg State.reset u := coefReg_congr rfl rfl
  rw [hsame] at h
  rcases coefReg_reset_lookup u sel with hnone | hzero
  · exact absurd (hnone.symm.trans h) nofun
  · exact (Option.some.inj (hzero.symm.trans h)).symm

/-- INIT leaves the channels of a reset block as they are: it clears what is clear. -/
theorem initUnit_blockReset (u : UnitId) (s : State) : initUnit u (blockReset s) =
    { blockReset s with regs := (initUnit u (blockReset s)).regs, coefs := (initUnit u (blockReset s)).coefs } := by
  cases u <;> rfl

theorem stateReg_blockReset {ch : Nat} (h : stateReg (blockReset s) u ch sel = some v) : v = 0 := by
  refine stateReg_initUnit (s := blockReset s) (u := u) (ch := ch) (sel := sel) ?_
  rw [initUnit_blockReset]
  exact h

theorem stValid_blockReset (s : State) (u : UnitId) (ch : Nat) : (blockReset s).stValid u ch = false := by
  simp only [State.stValid, blockReset, State.resetOf, PerUnit.get_const, getD_replicate]

theorem binding_blockReset (s : State) (u : UnitId) (ch : Nat) : (blockReset s).binding u ch = {} := by
  cases u <;> simp only [State.binding, blockReset, State.resetOf, Binds.zero, getD_replicate]

/-- Settles O9: either trigger is a block reset, and of that every register reads 0. -/
theorem blockReset_holds : Obligations.BlockReset := by
  intro s w rest hw e he
  have hreset : e.IsReset s.hw.base := he.elim (fun hstore => .inr ⟨w, hw, hstore⟩) .inl
  obtain ⟨x, hstep⟩ := step_isReset s rest hreset
  refine ⟨_, hstep, rfl, fun u => ?_, fun _ _ _ => coefReg_blockReset, fun _ _ _ _ => stateReg_blockReset, rfl, rfl,
    fun _ => rfl⟩
  rw [blockReset_regs, PerUnit.get_const]

/-! ### The state after reset (R471) -/

/-- Settles O10: the state after reset is its own block reset; its instance is the default one. -/
theorem resetState : Obligations.ResetState :=
  ⟨rfl, fun u => PerUnit.get_const _ u, fun _ _ _ => coefReg_blockReset (s := State.reset),
    fun _ _ _ _ => stateReg_blockReset (s := State.reset), rfl, rfl, rfl, rfl⟩

/-- The default REV_TABLE is one the rules admit (R371). -/
theorem tableLegal_default : tableLegal .default := by
  refine ⟨rfl, fun j => ?_, by decide, by decide, fun k => ?_⟩
  · cases j <;> decide
  · unfold tapInside
    cases k <;> decide

theorem hardwareLegal_reset : hardwareLegal State.reset.hw := by
  refine ⟨?_, ?_, rfl, tableLegal_default⟩ <;> decide

/-- A block reset needs nothing of the registers before it to establish the invariant. -/
theorem inv_blockReset_of_legal (hhw : hardwareLegal s.hw) (hmem : Memory.wf s.mem = true) : Inv (blockReset s) := by
  refine inv_iff.2 ⟨hhw, hmem, ?_, .inl ⟨rfl, rfl, rfl, rfl⟩, fun u =>
    .of_cleared ?_ ?_ (stValid_blockReset s u) fun ch => by rw [binding_blockReset]⟩
  · simp [channelCounts, blockReset, State.resetOf, Binds.zero, Chans.zero]
  · simp [lifeRegs]
  · simp [lifeSrSet]

/-- Settles O11: the state after reset is its own block reset, of a legal instance. -/
theorem invAtReset : Obligations.InvAtReset :=
  ⟨inv_blockReset_of_legal (s := State.reset) hardwareLegal_reset rfl, legalParams_blockReset State.reset⟩

/-! ### A unit that is UNINIT (R472) -/

/-- INIT leaves STATUS alone but for the one fault it can raise, of DELAY's max_delay. -/
theorem exec_initOf_status (u : UnitId) (s : State) : ∃ t, exec (initOf u) s = .next t ∧
    (t.win.status = s.win.status ∨ initOf u = .initDelay ∧ ¬nonnegLegal s.win.arg0) := by
  by_cases h : u = .delay → nonnegLegal s.win.arg0
  · exact ⟨_, exec_init h, .inl (by rw [initUnit_win])⟩
  · obtain ⟨rfl, harg⟩ := Classical.not_imp.1 h
    exact ⟨_, initSetsDefaults.2 s harg, .inr ⟨rfl, harg⟩⟩

/-- READ_STATE of a channel the block has writes RES0 only. -/
theorem readState_of_wellFormed (hopc : i.fields.opc = 0x10#6) (hu : unitOfInstr i = some u)
    (hwf : i.wellFormed s.hw.nCh = true) : ∃ w, exec i s = .next (s.setRes0 w) := by
  have hused : i.channel.isSome := by rw [channel_isSome, hopc]; rfl
  obtain ⟨ch, hch⟩ := Option.isSome_iff_exists.1 hused
  obtain ⟨w, -, hexec⟩ := readState_of_opc hopc hu hch (channel_lt_of_wellFormed hwf hch)
  exact ⟨w, hexec⟩

/-- Of a unit's commands, UNINIT is accepted by INIT, READ_COEF and READ_STATE alone (R141's table). -/
theorem not_lifeAccepted_uninit (hu : unitOfInstr i = some u)
    (hopc : ¬(i.fields.opc = 0x01#6 ∨ i.fields.opc = 0x0F#6 ∨ i.fields.opc = 0x10#6)) :
    ¬lifeAccepted i.fields.opc .uninit := by
  have hnop : i.fields.opc ≠ 0x00#6 := fun h => by simp [unitOfInstr, h] at hu
  rw [lifeAccepted, if_neg (not_or.2 ⟨hnop, hopc⟩)]
  split_ifs <;> simp

/-- Settles O12: the three opcodes by what each does, every other by its lifecycle check. -/
theorem uninitAcceptsOnlyInitAndReads : Obligations.UninitAcceptsOnlyInitAndReads := by
  intro i u s hu hlife hwf
  split_ifs with hopc
  · rcases hopc with hinit | hcoef | hstate
    · obtain ⟨u', rfl⟩ := eq_initOf_of_opc hinit
      exact exec_initOf_status u' s
    · obtain ⟨w, -, hexec⟩ := readCoef_of_opc hcoef hu s
      exact ⟨_, hexec, .inl rfl⟩
    · obtain ⟨w, hexec⟩ := readState_of_wellFormed hstate hu hwf
      exact ⟨_, hexec, .inl rfl⟩
  · have hfault := channelAndLifecycleChecks.2 i u s hu hwf (hlife ▸ not_lifeAccepted_uninit hu hopc)
    rw [hlife] at hfault
    exact hfault

end Sys2Proof.Machine
end
